-- ==== Sys2Proof/Word.lean ====
section
/-! DEFINITION. The plain number types of the CX48: a byte of the line or of the flash, a length in whole
micrometres, a time in milliseconds (00_scope section 6, Quantities). -/

namespace Sys2Proof

/-- A byte of a frame, of a record body or of a staged program. -/
abbrev Byte := BitVec 8

/-- A length on the gauge axis in whole micrometres; signed, since corrections and the knife term may be negative. -/
abbrev Um := Int

/-- A time in milliseconds on the block's clock (log 1). -/
abbrev Ms := Nat

end Sys2Proof
end

