-- ==== Sys2Proof/Syntax.lean ====
section
/-! DEFINITION. The commands of the CX48: one constructor per row of spec/opcode_table.json, with the operands the
rule of the row gives it. Operands of requests are the figures as they travel on the line (R192), before the owner
has judged them; operands of events are what the sensor, switch or drive reports. -/

namespace Sys2Proof

/-- The position of the permit key (R171). -/
inductive PermitKey where
  | twoHand
  | guardedAuto
deriving DecidableEq, Repr

/-- A two-hand button (R112). -/
inductive Button where
  | left
  | right
deriving DecidableEq, Repr

/-- A limit switch of the gauge (R102). -/
inductive LimitEnd where
  | front
  | rear
deriving DecidableEq, Repr

/-- A stop edge of the jogger (R160). -/
inductive StopEdge where
  | front
  | side
deriving DecidableEq, Repr

/-- A byte as the receiver takes it: the byte, and the time since the byte before, in microseconds (R188). -/
structure RxByte where
  byte : Byte
  gapUs : Nat
deriving DecidableEq, Repr

/-- The eight figures of a stock profile (R3). -/
structure StockFigures where
  stretchA : Int
  stretchB : Int
  squeeze : Nat
  clampPressure : Nat
  jogTime : Nat
  jogPeriod : Nat
  jogDuty : Nat
  jogGap : Nat
deriving DecidableEq, Repr

/-- The levels of everything wired to the part, at one instant: the cabinet inputs, the switches and sensors of the
cell, and whether the flash will fail. A switch is true when it is covered (or actuated); `backTable` is true when the
sensor sees paper. -/
structure Inputs where
  chainClosed : Bool
  permitKey : PermitKey
  locked : Bool
  curtainClear : Bool
  guardClosed : Bool
  leftHeld : Bool
  rightHeld : Bool
  backTable : Bool
  referenceSwitch : Bool
  frontLimit : Bool
  rearLimit : Bool
  driveFault : Bool
  encoder : Int
  tdc : Bool
  bdc : Bool
  upperStop : Bool
  flapOpenSw : Bool
  flapClosedSw : Bool
  armsOpen : Bool
  gripClosed : Bool
  quarter : Bool
  lowerLimit : Bool
  topLimit : Bool
  bladeHome : Bool
  pusherHome : Bool
  levelCount : Nat
  entry : Bool
  frontStop : Bool
  sideStop : Bool
  carriageHome : Bool
  programFails : Bool
  beginFails : Bool
  eraseFails : Bool
deriving DecidableEq, Repr

/-- The commands: one constructor per row of spec/opcode_table.json. -/
inductive Instr where
  -- start-up and the line link
  | powerOn (inp : Inputs)
  | startupEnd
  | frameReceived (bytes : List RxByte)
  | requestHandOn
  | transmitNextFrame
  | frameSent
  -- mode and safety unit
  | modeSet (mode : Nat)
  | estopReset
  | restart
  | unitReset (name : Nat)
  | cellStatus
  -- program sequencer
  | jobLoad (job lot stock : Nat)
  | jobStart
  | jobHold
  | jobResume
  | jobAbort
  | continue_
  | runStatus
  | holdRead
  -- block tracker
  | blockStatus
  | piecesRead (first : Nat)
  | frontCleared
  | blockClear
  | setOrientation (orientation : Nat)
  -- gauge axis
  | gaugeHome
  | gaugeJog (target : Int)
  | gaugeStatus
  -- clamp and knife unit
  | manualCut (pressure : Nat)
  | knifeReturn
  | knifeChanged (k : Int) (w G : Nat)
  | knifeStatus
  -- pile turner
  | turnManual (quarters : Nat)
  -- stack lift
  | liftLower
  | liftRaise
  | feedPause
  | feedResume
  | sensorBaseline (window depth : Nat)
  | feedStatus
  -- job library
  | jobBegin (kind key length : Nat)
  | jobPart (offset : Nat) (data : List Byte)
  | jobEnd (check : Nat)
  | jobRead (kind key offset : Nat)
  | jobDelete (kind key : Nat)
  | stockWrite (key : Nat) (figures : StockFigures)
  | stockRead (key : Nat)
  | corrWrite (start count : Nat) (values : List (Option Int))
  | corrRead (start count : Nat)
  | libStatus
  | libCompact
  | libErase
  | linkStatus
  | sectionEraseDone
  | stagingLapse
  | deferredKnifeStore
  -- safety inputs
  | estopChainOpening
  | estopChainClosing
  | permitKeyChange (key : PermitKey)
  | programLockKeyChange (locked : Bool)
  | lightCurtainChange (clear : Bool)
  | guardDoorChange (closed : Bool)
  -- front and back table
  | frontClearButton
  | deferredClearTaken
  | backTableSensorCovered
  -- gauge events
  | pendingMoveBegin
  | referenceSwitchUncovered
  | referenceMark
  | homingTimeout
  | profileComplete (encoder : Int)
  | moveTimeout
  | stopTimeout
  | inPosition (encoder : Int)
  | settleTimeout
  | encoderOutOfBand (encoder : Int)
  | limitSwitch (which : LimitEnd)
  | driveFault
  -- clamp and knife events
  | clampingBegin
  | pressureSample (sample : Nat)
  | clampTimeout
  | twoHandButtonPress (button : Button)
  | twoHandButtonRelease (button : Button)
  | strokeBegin
  | bdcCovered
  | strokeTimeout
  | valveGapEnd
  | tdcCovered
  | returnTimeout
  | upperStopCovered
  | releaseTimeout
  | tdcUncovered
  | upperStopUncovered
  | flapOpenSwitchCovered
  | flapClosedSwitchCovered
  | flapTimeout
  | manualPermitTimeout
  -- turner events
  | pendingTurnBegin
  | gripClosed
  | gripTimeout
  | quarterCompletion
  | turnTimeout
  | armsOpen
  | turnerReleaseTimeout
  | quarterSensorUncovered
  | armsOpenSwitchUncovered
  -- lift events
  | levelMeasurement (count : Nat)
  | baselineMeasurement (count : Nat)
  | topLimitCovered
  | lowerLimitCovered
  | partingBegin
  | entrySensorCovered
  | partTimeout
  | gearHome
  | gearWithdrawTimeout
  -- jogger events
  | jogBegin
  | jogEnd (front side : Bool)
  | stopEdgeUncovered (edge : StopEdge)
  | entrySensorUncovered
  | transferBegin
  | transferTimeout
  | carriageHome
  | carriageTimeout
  | quarterSensorCovered
deriving DecidableEq, Repr

end Sys2Proof
end

