-- ==== Sys2Proof/Decode.lean ====
section
/-! DEFINITION. The commands a word spells: none, since no row of spec/opcode_table.json gives bits. -/

namespace Sys2Proof

/-- The command spelled by the bits of a word, for the rows of the table that give bits: there is none. -/
def decodeTableWord (_nbits _w : Nat) : Option Instr := none

end Sys2Proof
end

