-- ==== Sys2Proof/Config.lean ====
section
/-! DEFINITION. The figures the manual fixes (times, limits of the travel, sizes of the flash), each with its rule, and
the free values the manual leaves open (log 14, log 31). -/

namespace Sys2Proof.Config

/-- R79: the front end of the gauge's travel. -/
abbrev travelFront : Um := 22000
/-- R79: the rear end of the gauge's travel. -/
abbrev travelRear : Um := 1150000
/-- R90: the reference mark. -/
abbrev referenceMark : Um := 1155000
/-- R10, R78: where the gauge stands clear of a turn. -/
abbrev clearancePos : Um := 960000
/-- R10, R132: the largest block that may be turned. -/
abbrev turnLimit : Um := 920000
/-- R83: the overshoot of a rearward move. -/
abbrev overshoot : Um := 3000
/-- R82, R96: the in-position band in counts. -/
abbrev band : Int := 2

/-- R96: the settle limit. -/
abbrev settleMs : Ms := 400
/-- R96: how long the encoder stays within the band before the gauge is in position. -/
abbrev bandMs : Ms := 60
/-- R100: the time of a commanded stop. -/
abbrev stopMs : Ms := 800
/-- R90: the time of a homing run up to the mark. -/
abbrev homingMs : Ms := 8000
/-- R110: the clamping time. -/
abbrev clampMs : Ms := 1500
/-- R114: the stroke time. -/
abbrev strokeMs : Ms := 900
/-- R115: the return time. -/
abbrev returnMs : Ms := 1200
/-- R118: the release time. -/
abbrev releaseMs : Ms := 1500
/-- R119: the time of a flap movement. -/
abbrev flapMs : Ms := 600
/-- R112: the window between the onsets of the two buttons. -/
abbrev twoHandMs : Ms := 500
/-- R127: the wait of a manual cut for its permit. -/
abbrev manualPermitMs : Ms := 10000
/-- R134: the grip time. -/
abbrev gripMs : Ms := 800
/-- R135: the quarter time. -/
abbrev quarterMs : Ms := 1500
/-- R136: the turner's release time. -/
abbrev armsMs : Ms := 800
/-- R149, R154: the part time, and the withdrawal in a reset. -/
abbrev partMs : Ms := 6000
/-- R162, R163, R165: the transfer time and the carriage return. -/
abbrev carriageMs : Ms := 4000
/-- R174: the cool-down of a unit reset. -/
abbrev coolDownMs : Ms := 3000
/-- R182: the staging's time. -/
abbrev stagingMs : Ms := 10000
/-- R177: the erase of a section. -/
abbrev eraseMs : Ms := 40
/-- R188: the longest gap between two bytes of a frame, in microseconds. -/
abbrev byteGapUs : Nat := 5000

/-- R177: the sections of the flash. -/
abbrev sections : Nat := 96
/-- R177: the room for records in a section. -/
abbrev sectionRoom : Nat := 2032
/-- R177: the highest order number, and R180 the highest sequence number. -/
abbrev maxOrder : Nat := 4294967295
/-- R80: the points of the correction table. -/
abbrev corrPoints : Nat := 232
/-- R12: the frames of the call stack. -/
abbrev maxFrames : Nat := 6
/-- R64: the pieces of the queue. -/
abbrev maxPieces : Nat := 8
/-- R189: the requests of the receive queue, and the replies of the refusal list. -/
abbrev maxQueue : Nat := 4
/-- R68, R194: where a counter stops. -/
abbrev counterTop : Nat := 65535
/-- R76: where the cut count stops. -/
abbrev cutCountTop : Nat := 16777215

/-- A bound on the steps a cut program can take that take no time (CALL, RETURN, SKIP_IF) between two that do: at most
120 main steps, and 40 steps run at most 99 times in each of 6 frames, less than 120 * 3961^6 (log 13). -/
abbrev stepBound : Nat := 1000000000000000000000000

/-- What a record's programming may leave in its section when the flash fails to program it. -/
inductive FailedProgram where
  /-- nothing is left -/
  | nothing
  /-- a record of that size whose check fails -/
  | damaged
  /-- a record whose length is inconsistent -/
  | torn
  /-- the whole record -/
  | whole
deriving DecidableEq, Repr, Inhabited

/-- What the erase of a section may leave when it fails or is interrupted. -/
inductive FailedErase where
  | unchanged
  | bad
  | erased
deriving DecidableEq, Repr, Inhabited

/-- What a failed beginning of a section may leave. -/
inductive FailedBegin where
  | erased
  | bad
  | begun
deriving DecidableEq, Repr, Inhabited

/-- FREE VALUE (log 14): what the n-th failed programming leaves; R180, R186 do not say. -/
opaque failedProgram : Nat → FailedProgram

/-- FREE VALUE (log 14): what the n-th failed beginning of a section leaves; R180, R186 do not say. -/
opaque failedBegin : Nat → FailedBegin

/-- FREE VALUE (log 14, log 31): what the n-th failed or interrupted erase leaves; R185, R186 do not say. -/
opaque failedErase : Nat → FailedErase

/-- FREE VALUE (log 36): the base of a frame pushed or repeated, or of a portion, when no block is present; R12 and R39
name the block's nominal depth and do not say what the base is with no block. -/
opaque freeBase : Nat → Um

end Sys2Proof.Config
end

