-- ==== Sys2Proof/Machine/State.lean ====
section
/-! DEFINITION. The state of the CX48 as plain data: one structure per block (00_scope section 3), the input levels, the
clock and the queue of waiting commands; the outcomes of a step; and the state after reset. -/

namespace Sys2Proof.Machine

open Sys2Proof

/-! ## Mode and safety unit (MSU) -/

/-- R167. -/
inductive CellMode where
  | standby
  | setup
  | auto
deriving DecidableEq, Repr

/-- R169. -/
inductive EstopState where
  | chainOk
  | stopped
  | readyToReset
deriving DecidableEq, Repr

/-- R175. -/
inductive StartupCause where
  | powerOn
  | restart
deriving DecidableEq, Repr

/-- How far start-up has come (R175): waiting for LIB (steps 2, 3), every block's state taken (step 4), ended (step 5). -/
inductive StartupPhase where
  | waitLibrary
  | statesTaken
  | ended
deriving DecidableEq, Repr

/-- The units a UNIT_RESET may name, in the order of R174. -/
inductive UnitName where
  | gax
  | cku
  | trn
  | lft
  | jog
deriving DecidableEq, Repr

/-- The times at which the last reset of each unit was taken (R174). -/
structure ResetTimes where
  gax : Option Ms
  cku : Option Ms
  trn : Option Ms
  lft : Option Ms
  jog : Option Ms
deriving DecidableEq, Repr

structure Msu where
  mode : CellMode
  estop : EstopState
  resets : ResetTimes
  cause : StartupCause
  phase : StartupPhase
deriving DecidableEq, Repr

/-! ## Program sequencer (SEQ) -/

/-- A program: MAIN or SUB n (section 1.4). -/
inductive ProgId where
  | main
  | sub (n : Nat)
deriving DecidableEq, Repr

/-- The place of a step (section 1.4). -/
structure Loc where
  prog : ProgId
  index : Nat
deriving DecidableEq, Repr

/-- R6. -/
inductive CutMode where
  | abs
  | rel
  | fromBase
deriving DecidableEq, Repr

/-- R13. -/
inductive SkipCond where
  | depthBelow
  | widthBelow
  | orientationIs
  | firstPortion
  | lastPortion
  | piecesWaiting
deriving DecidableEq, Repr

/-- A step of a cut program: the eight kinds with their fields (R5, R10 to R14). -/
inductive ProgStep where
  | cut (mode : CutMode) (count : Nat) (waste : Bool) (dim : Um) (override : Option Nat)
  | turn (quarters : Nat)
  | eject
  | pause (code : Nat)
  | call (sub : Nat) (count : Nat) (override : Option Nat)
  | ret
  | skipIf (cond : SkipCond) (operand : Int)
  | endStep
deriving DecidableEq, Repr

/-- R18. -/
inductive SeqState where
  | idle
  | loaded
  | running
  | held
  | finished
deriving DecidableEq, Repr

/-- R22: NONE, the phases of a CUT, of a TURN and of an EJECT. -/
inductive Phase where
  | none
  | compute
  | position
  | clamp
  | flapOpen
  | permit
  | stroke
  | returning
  | release
  | flapClose
  | clearance
  | turn
  | push
  | load
deriving DecidableEq, Repr

/-- R27. -/
inductive WaitReason where
  | none
  | portion
  | frontClear
  | permit
  | operator
  | unit
deriving DecidableEq, Repr

/-- R41. -/
inductive HoldCause where
  | operatorHold
  | permitChanged
  | estop
  | lightCurtain
  | guardOpen
  | gaugeFault
  | knifeFault
  | turnerFault
  | dimensionRange
  | orientationUnknown
  | stackLimit
  | blockNotEjected
  | ejectNoBlock
  | turnEnvelope
deriving DecidableEq, Repr

/-- The job snapshot (R20). -/
structure Snapshot where
  job : Nat
  name : List Byte
  depth : Um
  width : Um
  height : Nat
  steps : List ProgStep
  subs : List (Nat × List ProgStep)
  stockNumber : Nat
  stock : StockFigures
  loadPosition : Um
deriving DecidableEq, Repr

/-- The running record (R22). In IDLE it holds no job and stands at `Running.empty`. -/
structure Running where
  job : Nat
  lot : Nat
  stock : Nat
  finished : Nat
  loc : Loc
  phase : Phase
  cutsLeft : Nat
  quartersLeft : Nat
  wait : WaitReason
  mainBase : Um
  override : Option Nat
  operatorCode : Option Nat
deriving DecidableEq, Repr

/-- The running record that holds no job (R22). -/
def Running.empty : Running :=
  { job := 0, lot := 0, stock := 0, finished := 0, loc := ⟨.main, 0⟩, phase := .none, cutsLeft := 0,
    quartersLeft := 0, wait := .none, mainBase := 0, override := none, operatorCode := none }

/-- A frame of the call stack (R37). -/
structure Frame where
  caller : ProgId
  retIndex : Nat
  sub : Nat
  repeats : Nat
  base : Um
  saved : Option Nat
deriving DecidableEq, Repr

/-- The hold record (R42). -/
structure HoldRecord where
  cause : Option HoldCause
  more : Bool
  loc : Option Loc
  phase : Phase
  depth : Nat
  holds : Nat
deriving DecidableEq, Repr

/-- The cleared hold record (R18). R18 names no cause, the flag clear and holds 0; the location none, the phase NONE and the
stack depth 0 are the model's choice (log 49). -/
def HoldRecord.cleared : HoldRecord :=
  { cause := none, more := false, loc := none, phase := .none, depth := 0, holds := 0 }

/-- What SEQ keeps of a computed target until the cut is made (R55, R73): N, S and P. -/
structure CutTarget where
  nominal : Um
  stretched : Um
  physical : Um
deriving DecidableEq, Repr

structure Seq where
  state : SeqState
  snapshot : Option Snapshot
  run : Running
  /-- the call stack, top frame first -/
  stack : List Frame
  hold : HoldRecord
  target : Option CutTarget
  /-- in start-up: a RESTART has brought SEQ to IDLE from another state, and notice SEQUENCE is owed for it (R18) -/
  startNotice : Bool
deriving DecidableEq, Repr

/-! ## Block tracker (TRK) -/

/-- R52. -/
inductive DepthAxis where
  | headFoot
  | leftRight
deriving DecidableEq, Repr

/-- Which edges are TRIMMED (R51). -/
structure Edges where
  head : Bool
  foot : Bool
  left : Bool
  right : Bool
deriving DecidableEq, Repr

/-- The block record (R51). `orientation` is `none` when UNKNOWN. -/
structure Block where
  portion : Nat
  nomDepth : Um
  nomWidth : Um
  strDepth : Um
  strWidth : Um
  height : Nat
  orientation : Option Nat
  axis : DepthAxis
  edges : Edges
  partialCut : Bool
deriving DecidableEq, Repr

/-- R62. -/
inductive PieceKind where
  | strip
  | last
deriving DecidableEq, Repr

/-- A piece record (R62). `loc` is `none` for MANUAL. -/
structure Piece where
  load : Nat
  number : Nat
  portion : Nat
  loc : Option Loc
  nomWidth : Um
  strWidth : Um
  nomLength : Um
  strLength : Um
  height : Nat
  orientation : Option Nat
  kind : PieceKind
deriving DecidableEq, Repr

structure Trk where
  block : Option Block
  unknown : Bool
  /-- the piece queue, oldest first -/
  queue : List Piece
  clearPending : Bool
  made : Nat
  delivered : Nat
  trims : Nat
  loadNumber : Nat
  lastPiece : Nat
deriving DecidableEq, Repr

/-! ## Gauge axis (GAX) -/

/-- R87. -/
inductive GaxState where
  | unreferenced
  | homing
  | standstill
  | moving
  | settling
  | fault
deriving DecidableEq, Repr

/-- R90. -/
inductive HomingPhase where
  | clear
  | seek
  | final
deriving DecidableEq, Repr

/-- R94. -/
inductive MoveKind where
  | cut
  | clearance
  | load
  | push
  | homeFinal
  | jog
deriving DecidableEq, Repr

/-- R94. -/
inductive MoveAsker where
  | seq
  | terminal
  | homing
deriving DecidableEq, Repr

/-- R83. -/
inductive Approach where
  | direct
  | forward
  | rearward
deriving DecidableEq, Repr

/-- R94. -/
inductive Leg where
  | overshoot
  | final
deriving DecidableEq, Repr

/-- R102. -/
inductive GaxFault where
  | moveTimeout
  | settleTimeout
  | limitSwitch
  | driveFault
deriving DecidableEq, Repr

/-- The overshoot point of a rearward move and its count (R83). -/
structure OvershootPoint where
  pos : Um
  count : Int
deriving DecidableEq, Repr

/-- The move record (R94). `completed` is `none` while the move is in flight (R106). -/
structure MoveRecord where
  kind : MoveKind
  asker : MoveAsker
  target : Um
  corr : Um
  uncorrected : Bool
  encoderTarget : Um
  countTarget : Int
  clamped : Bool
  approach : Approach
  overshoot : Option OvershootPoint
  leg : Leg
  start : Um
  moveTime : Ms
  completed : Option Bool
deriving DecidableEq, Repr

/-- The pending move, always SEQ's (R92). -/
structure PendingMove where
  kind : MoveKind
  target : Um
deriving DecidableEq, Repr

/-- The starting position of the next move (R84): none, a target, or the estimate of R85 as it then stands. -/
inductive StartPos where
  | none
  | at (p : Um)
  | estimate
deriving DecidableEq, Repr

structure Gax where
  state : GaxState
  homing : HomingPhase
  /-- in HOMING's FINAL: the profile is complete and the in-position test runs (R90) -/
  finalSettling : Bool
  referenced : Bool
  inPosition : Bool
  start : StartPos
  move : Option MoveRecord
  pending : Option PendingMove
  /-- a commanded stop is in progress (R100) -/
  stopping : Bool
  fault : Option GaxFault
  drive : Bool
  /-- the count the drive was last given, to go to or to hold; none where it was given none (R94, R95, R101, R102; log 91) -/
  driveCount : Option Int
  table : List (Option Int)
  deadline : Option Ms
  /-- when the 60 ms of the last in-position test began, or began again (R96) -/
  bandFrom : Option Ms
deriving DecidableEq, Repr

/-! ## Clamp and knife unit (CKU) -/

/-- R107. -/
inductive CycleState where
  | open_
  | clamping
  | clamped
  | stroking
  | gap
  | returning
  | releasing
  | fault
  | knifeReturnNeeded
deriving DecidableEq, Repr

/-- R107. -/
inductive CutAsker where
  | seq
  | manual
deriving DecidableEq, Repr

/-- R116, and the stop of a stroke by the e-stop chain. -/
inductive ReversalCause where
  | twoHandRelease
  | curtain
  | pressure
  | strokeTime
  | rest
  | estop
deriving DecidableEq, Repr

/-- R120. -/
inductive CkuFault where
  | clampTimeout
  | pressureLost
  | strokeTimeout
  | returnTimeout
  | releaseTimeout
  | flapTimeout
  | knifeCreep
  | clampCreep
deriving DecidableEq, Repr

/-- R119. -/
inductive FlapState where
  | closed
  | opening
  | opened
  | closing
deriving DecidableEq, Repr

/-- The cycle record (R107). In OPEN it is a clamp request that waits (R110). -/
structure Cycle where
  asker : CutAsker
  target : Nat
  waste : Bool
  armed : Bool
  restAsked : Bool
  lastReversal : Option ReversalCause
  knifeTerm : Option Int
  bdcTaken : Bool
deriving DecidableEq, Repr

/-- The valves of CKU: true is open (R107). -/
structure Valves where
  lowering : Bool
  raising : Bool
  down : Bool
  ret : Bool
deriving DecidableEq, Repr

/-- Every valve closed (R108). -/
def Valves.closed : Valves := { lowering := false, raising := false, down := false, ret := false }

/-- The working copy of the knife record (R128). -/
structure KnifeRecord where
  k : Int
  w : Nat
  C : Nat
  G : Nat
deriving DecidableEq, Repr

/-- The defaults of the knife record (R128). -/
def KnifeRecord.default : KnifeRecord := { k := 0, w := 0, C := 0, G := 8 }

structure Cku where
  state : CycleState
  cycle : Option Cycle
  /-- a KNIFE_RETURN is in progress (R125) -/
  knifeReturn : Bool
  /-- the moving part of a UNIT_RESET is in progress (R124) -/
  resetting : Bool
  /-- the release of that part is over, and it waits for the flap alone (R124) -/
  resetReleased : Bool
  fault : Option CkuFault
  /-- the detail of a CLAMP_TIMEOUT: whether contact was seen (R109) -/
  contactDetail : Option Bool
  valves : Valves
  flap : FlapState
  downClosedAt : Option Ms
  returnClosedAt : Option Ms
  leftOnset : Option Ms
  rightOnset : Option Ms
  rearmed : Bool
  sample : Option Nat
  contact : Bool
  knife : KnifeRecord
  wearCap : Bool
  unstored : Bool
  storeDeferred : Bool
  lastStored : Nat
  /-- the outcome of the last manual cut or knife return: completed or not (R130) -/
  lastManual : Option Bool
  deadline : Option Ms
  flapDeadline : Option Ms
deriving DecidableEq, Repr

/-! ## Pile turner (TRN) -/

/-- R131. -/
inductive TrnState where
  | parked
  | gripping
  | turning
  | releasing
  | fault
deriving DecidableEq, Repr

/-- R131. -/
inductive TurnAsker where
  | seq
  | terminal
deriving DecidableEq, Repr

/-- R138. -/
inductive TrnFault where
  | gripTimeout
  | turnTimeout
  | releaseTimeout
  | interlockLost
  | chainOpened
  | positionLost
deriving DecidableEq, Repr

/-- The turn record (R131). -/
structure TurnRecord where
  asker : TurnAsker
  requested : Nat
  done : Nat
  restAsked : Bool
  since : Ms
deriving DecidableEq, Repr

/-- What stays readable of the last turn (R142). -/
structure LastTurn where
  done : Nat
  ended : TrnState
deriving DecidableEq, Repr

structure Trn where
  state : TrnState
  record : Option TurnRecord
  fault : Option TrnFault
  pending : Option Nat
  lastTurn : Option LastTurn
  /-- the part of a UNIT_RESET is in progress (R140) -/
  resetting : Bool
  /-- the empty head is carried on to a quarter position (R140) -/
  carrying : Bool
  /-- in FAULT: the arms keep the grip they had when the fault stopped them (R138) -/
  gripKept : Bool
  deadline : Option Ms
deriving DecidableEq, Repr

/-! ## Stack lift (LFT) -/

/-- R143. -/
inductive LftState where
  | lowered
  | raising
  | atLevel
  | parting
  | empty
  | lowering
  | fault
deriving DecidableEq, Repr

/-- R144. -/
inductive Judgement where
  | faultCount
  | present
  | absent
  | notJudged
deriving DecidableEq, Repr

/-- R143, R147, R150, R153. -/
inductive LftFault where
  | positionUnknown
  | levelSensor
  | partTimeout
  | chainOpened
deriving DecidableEq, Repr

/-- The window and the depth of a pending baseline measurement (R146). -/
structure BaselineRequest where
  window : Nat
  depth : Nat
deriving DecidableEq, Repr

structure Lft where
  state : LftState
  /-- in mm; `none` is UNKNOWN -/
  height : Option Nat
  baseline : Nat
  window : Nat
  depth : Nat
  latest : Option Nat
  judgement : Judgement
  partedOff : Nat
  feedPaused : Bool
  baselinePending : Option BaselineRequest
  sensorFaultPending : Bool
  fault : Option LftFault
  /-- the blade and the pusher are being withdrawn by a UNIT_RESET (R154) -/
  withdrawing : Bool
  /-- a UNIT_RESET's lowering is in progress (R154) -/
  resetting : Bool
  /-- a measurement since the top limit switch was covered has judged paper (R148) -/
  paperAtTop : Bool
  deadline : Option Ms
  /-- the depth below the take-off plane at which the blade was last driven in, in 0.1 mm (R149) -/
  bladeDepth : Option Nat
  /-- the blade and the pusher are on their way back from a parting (R150) -/
  gearReturning : Bool
deriving DecidableEq, Repr

/-! ## Jogger (JOG) -/

/-- R156. -/
inductive JogState where
  | empty
  | receiving
  | jogging
  | aligned
  | transferring
  | fault
deriving DecidableEq, Repr

/-- R164. -/
inductive JogFault where
  | tableOccupied
  | strayPortion
  | portionLost
  | jogMisaligned
  | transferTimeout
  | carriageTimeout
  | interlockLost
  | chainOpened
deriving DecidableEq, Repr

/-- The jog record (R156, R158). -/
structure JogRecord where
  jogTime : Nat
  period : Nat
  duty : Nat
  gap : Nat
  onTime : Nat
  start : Ms
  periods : Nat
deriving DecidableEq, Repr

/-- The result of an alignment check (R160): whether each stop was covered. -/
structure CheckResult where
  front : Bool
  side : Bool
deriving DecidableEq, Repr

/-- The figures taken at the beginning of a transfer (R162). -/
structure TransferFigures where
  depth : Um
  width : Um
  height : Nat
  stretchA : Int
  stretchB : Int
deriving DecidableEq, Repr

structure Jog where
  state : JogState
  retries : Nat
  record : Option JogRecord
  transferred : Nat
  carriageReturning : Bool
  repeatWaiting : Bool
  lastCheck : Option CheckResult
  fault : Option JogFault
  figures : Option TransferFigures
  /-- the carriage return of a UNIT_RESET is in progress (R165) -/
  resetting : Bool
  deadline : Option Ms
  /-- what is left of a carriage return that the e-stop chain suspended (R164) -/
  suspended : Option Ms
deriving DecidableEq, Repr

/-! ## Job library (LIB) -/

/-- R177. -/
inductive RecKind where
  | job
  | sub
  | stock
  | knife
  | corr
deriving DecidableEq, Repr

/-- A record: kind, key, sequence number and body; an empty body is a tombstone (R177). -/
structure Rec where
  kind : RecKind
  key : Nat
  seq : Nat
  body : List Byte
deriving DecidableEq, Repr

/-- What stands in a section (R177, R179): a valid record; a damaged one, skipped by its size in bytes; one whose length
is inconsistent, at which the scan of the section ends. -/
inductive Slot where
  | valid (r : Rec)
  | damaged (size : Nat)
  | torn
deriving DecidableEq, Repr

/-- A section of the flash (R177). -/
inductive Section where
  | erased
  | bad
  | begun (order : Nat) (slots : List Slot)
deriving DecidableEq, Repr

/-- The place of a record: section number and place within it. -/
structure Place where
  sect : Nat
  pos : Nat
deriving DecidableEq, Repr

/-- An entry of the index (R178). -/
structure IndexEntry where
  kind : RecKind
  key : Nat
  seq : Nat
  place : Place
deriving DecidableEq, Repr

/-- R179, R185, R186. Chapter 11 gives no list of the three; their order, and so their places, are the model's choice (log 8). -/
inductive LibState where
  | opened
  | compacting
  | closed
deriving DecidableEq, Repr

/-- The work LIB has under way: the spent sections of R179, a compaction (R185), a LIB_ERASE (R186). -/
inductive LibWork where
  | spent (target : Nat) (powerOn : Bool)
  | compact (source : Nat) (rest : List Nat) (dest : Option Nat) (doneCount total : Nat)
  | eraseAll (next : Nat)
deriving DecidableEq, Repr

/-- The staging area (R182). -/
structure Staging where
  kind : RecKind
  key : Nat
  declared : Nat
  body : List Byte
  since : Ms
deriving DecidableEq, Repr

/-- The failure that closed the library (R186, R187). -/
inductive LibFailure where
  | program
  | beginSection
  | erase
deriving DecidableEq, Repr

/-- The events of notice LIBRARY (R187). -/
inductive LibEvent where
  | libraryFull
  | stagingLapse
  | closed
  | compactionBegun
  | compactionEnded
  | eraseEnded
deriving DecidableEq, Repr

structure Lib where
  state : LibState
  work : Option LibWork
  flash : List Section
  index : List IndexEntry
  corrIndex : List (Option Place)
  nextSeq : Nat
  damaged : Nat
  staging : Option Staging
  failure : Option LibFailure
  lastEvent : Option LibEvent
  deadline : Option Ms
deriving DecidableEq, Repr

/-! ## Replies, results, notices -/

/-- The status of a reply (R192). -/
inductive Status where
  | ok
  | accepted
  | unchanged
  | badArgument
  | unknownRequest
  | refusedMode
  | refusedState
  | notFound
  | invalidProgram
  | locked
  | libraryFull
  | libraryClosed
  | busy
  | tooSoon
  | queueFull
  | noBaseline
deriving DecidableEq, Repr

/-- The first failing condition of a change to AUTO (R167). -/
inductive AutoRefusal where
  | notReferenced
  | knifeOffTdc
  | clampDown
  | knifeReturnNeeded
  | chainOpen
deriving DecidableEq, Repr

/-- R15. -/
inductive CheckCode where
  | length
  | stepCount
  | headerRange
  | kind
  | fieldRange
  | repeatMode
  | returnInMain
  | endInSub
  | endMisplaced
  | skipLast
  | skipTerminator
  | noTerminator
deriving DecidableEq, Repr

/-- A failure of the record checks: the check code, and the step index where one applies (R15). -/
structure CheckFailure where
  code : CheckCode
  step : Option Nat
deriving DecidableEq, Repr

/-- Why the back table is not ready (R70). -/
inductive NotReady where
  | blockPresent
  | blockUnknown
  | noJob
  | oversize
deriving DecidableEq, Repr

/-- Why no parting may begin (R155). -/
inductive PartRefusal where
  | jobNotRunning
  | feedPaused
  | joggerOccupied
  | lotParted
  | chainOpen
  | gearNotAtRest
deriving DecidableEq, Repr

/-- Why no transfer may begin (R166). -/
inductive TransferRefusal where
  | tableNotReady
  | notWaitingPortion
  | gaugeNotAtLoad
  | clampDown
  | turnerNotParked
  | chainOpen
deriving DecidableEq, Repr

/-- TRN's status (R142). -/
structure TurnerStatus where
  state : TrnState
  fault : Option TrnFault
  armsOpen : Bool
  gripClosed : Bool
  quarter : Bool
  pending : Option Nat
  record : Option TurnRecord
  lastTurn : Option LastTurn
deriving DecidableEq, Repr

/-- The result of CELL_STATUS (R176). The buttons are `none` while CKU has not yet taken its state. -/
structure CellStatusData where
  mode : CellMode
  estop : EstopState
  permitKey : PermitKey
  locked : Bool
  curtainClear : Bool
  guardClosed : Bool
  buttons : Option (Bool × Bool)
  coolDowns : ResetTimes
  cause : StartupCause
  startupEnded : Bool
  turner : TurnerStatus
deriving DecidableEq, Repr

/-- The result of RUN_STATUS (R23): the record and the stack, bottom frame first, are absent in IDLE. -/
structure RunStatusData where
  state : SeqState
  record : Option (Running × List Frame)
deriving DecidableEq, Repr

/-- The result of BLOCK_STATUS (R70). -/
structure BlockStatusData where
  block : Option Block
  unknown : Bool
  sensor : Bool
  notReady : Option NotReady
  queueLength : Nat
  clearPending : Bool
  made : Nat
  delivered : Nat
  trims : Nat
deriving DecidableEq, Repr

/-- The result of GAUGE_STATUS (R105). -/
structure GaugeStatusData where
  state : GaxState
  homing : Option HomingPhase
  fault : Option GaxFault
  referenced : Bool
  inPosition : Bool
  drive : Bool
  encoder : Int
  position : Option Um
  start : Option Um
  pending : Option PendingMove
  move : Option MoveRecord
  invalidPoints : Nat
deriving DecidableEq, Repr

/-- The result of KNIFE_STATUS (R130). -/
structure KnifeStatusData where
  state : CycleState
  fault : Option CkuFault
  contactDetail : Option Bool
  upperStop : Bool
  tdc : Bool
  bdc : Bool
  flap : FlapState
  sample : Option Nat
  contact : Bool
  cycle : Option Cycle
  leftHeld : Bool
  rightHeld : Bool
  rearmed : Bool
  knife : KnifeRecord
  wearPart : Nat
  knifeTerm : Int
  wearCap : Bool
  lastStored : Nat
  unstored : Bool
  storeDeferred : Bool
deriving DecidableEq, Repr

/-- JOG's status (R166). `transferRefusal` is given in ALIGNED. -/
structure JoggerStatus where
  state : JogState
  fault : Option JogFault
  entry : Bool
  frontStop : Bool
  sideStop : Bool
  carriageHome : Bool
  backTable : Bool
  retries : Nat
  repeatWaiting : Bool
  lastCheck : Option CheckResult
  record : Option JogRecord
  transferred : Nat
  mayTransfer : Bool
  transferRefusal : Option TransferRefusal
deriving DecidableEq, Repr

/-- The result of FEED_STATUS (R155). `partRefusal` is given in AT_LEVEL. -/
structure FeedStatusData where
  state : LftState
  fault : Option LftFault
  height : Option Nat
  lowerLimit : Bool
  topLimit : Bool
  bladeHome : Bool
  pusherHome : Bool
  baseline : Nat
  window : Nat
  depth : Nat
  latest : Option Nat
  judgement : Judgement
  baselinePending : Bool
  partedOff : Nat
  lot : Option Nat
  feedPaused : Bool
  mayPart : Bool
  partRefusal : Option PartRefusal
  jogger : JoggerStatus
deriving DecidableEq, Repr

/-- The staging as LIB_STATUS shows it (R187). -/
structure StagingStatus where
  kind : RecKind
  key : Nat
  declared : Nat
  received : Nat
  timeLeft : Ms
deriving DecidableEq, Repr

/-- The work LIB_STATUS names (R187). -/
inductive WorkName where
  | compact
  | erase
deriving DecidableEq, Repr

/-- The work of COMPACTING, with the sources done and their total (R187). -/
structure WorkStatus where
  name : WorkName
  sourcesDone : Nat
  total : Nat
deriving DecidableEq, Repr

/-- The result of LIB_STATUS (R187). -/
structure LibStatusData where
  state : LibState
  work : Option WorkStatus
  erased : Nat
  inUse : Nat
  bad : Nat
  room : Nat
  nextSeq : Nat
  damaged : Nat
  staging : Option StagingStatus
  locked : Bool
  failure : Option LibFailure
deriving DecidableEq, Repr

/-- The notice kinds (R193). -/
inductive NoticeKind where
  | cell
  | sequence
  | hold
  | front
  | feed
  | gauge
  | knife
  | library
deriving DecidableEq, Repr

/-- The eight pending flags (R193). -/
structure Flags where
  cell : Bool
  sequence : Bool
  hold : Bool
  front : Bool
  feed : Bool
  gauge : Bool
  knife : Bool
  library : Bool
deriving DecidableEq, Repr

/-- Every pending flag clear (R194). -/
def Flags.clear : Flags :=
  { cell := false, sequence := false, hold := false, front := false, feed := false, gauge := false,
    knife := false, library := false }

/-- The link counters (R194). -/
structure LinkCounters where
  dropped : Nat
  length : Nat
  gap : Nat
  check : Nat
  kind : Nat
  overrun : Nat
  requests : Nat
  replies : Nat
  notices : Nat
deriving DecidableEq, Repr

/-- Every link counter 0 (R194). -/
def LinkCounters.zero : LinkCounters :=
  { dropped := 0, length := 0, gap := 0, check := 0, kind := 0, overrun := 0, requests := 0, replies := 0, notices := 0 }

/-- The result of LINK_STATUS (R194). -/
structure LinkStatusData where
  counters : LinkCounters
  queue : Nat
  refusals : Nat
  flags : Flags
  nextNotice : Nat
deriving DecidableEq, Repr

/-- The result an owner gives with its status, by named fields (log 8). -/
inductive Result where
  | nothing
  | autoRefusal (first : AutoRefusal)
  | cell (d : CellStatusData)
  | failingRecord (kind : RecKind) (key : Nat) (failure : Option CheckFailure)
  | run (d : RunStatusData)
  | hold (r : HoldRecord)
  | block (d : BlockStatusData)
  | pieces (length : Nat) (shown : List Piece)
  | gauge (d : GaugeStatusData)
  | jog (target : Um) (count : Int) (approach : Approach) (clamped uncorrected : Bool)
  | pressure (limited : Nat)
  | knife (d : KnifeStatusData)
  | feed (d : FeedStatusData)
  | received (bytes : Nat)
  | written (kind : RecKind) (key : Nat) (seq : Nat)
  | same (kind : RecKind) (key : Nat)
  | transferCheck
  | body (seq length : Nat) (bytes : List Byte)
  | stock (figures : StockFigures) (seq : Nat)
  | corrWritten (first count : Nat)
  | corrValues (values : List (Option Int))
  | library (d : LibStatusData)
  | link (d : LinkStatusData)
deriving DecidableEq, Repr

/-- What an owner gives back for a request (R190). -/
structure Answer where
  status : Status
  result : Result
deriving DecidableEq, Repr

/-- The snapshot of a notice, by named fields (R193 and the owning chapters; log 8). -/
inductive NoticeData where
  /-- R176; of TRN the whole status, as R142 hands it (log 78) -/
  | cell (mode : CellMode) (estop : EstopState) (permitKey : PermitKey) (locked guardClosed : Bool)
      (cause : StartupCause) (turner : TurnerStatus)
  /-- R50 -/
  | sequence (state : SeqState) (job lot finished : Nat) (loc : Loc) (phase : Phase) (wait : WaitReason)
      (operatorCode : Option Nat)
  /-- R50 -/
  | hold (state : SeqState) (record : HoldRecord)
  /-- R69 -/
  | front (length : Nat) (newest : Option (Nat × Nat)) (clearPending : Bool) (made delivered trims : Nat)
  /-- R155, R166 -/
  | feed (lift : LftState) (liftFault : Option LftFault) (height : Option Nat) (partedOff : Nat) (feedPaused : Bool)
      (jogger : JogState) (joggerFault : Option JogFault) (retries transferred : Nat)
  /-- R106, R104 (the number of INVALID points) -/
  | gauge (state : GaxState) (fault : Option GaxFault) (referenced inPosition drive : Bool) (position : Option Um)
      (uncorrected clamped : Bool) (kind : Option MoveKind) (completed : Option Bool) (invalidPoints : Nat)
  /-- R130 -/
  | knife (state : CycleState) (fault : Option CkuFault) (upperStop tdc : Bool) (flap : FlapState) (cutCount wearPart : Nat)
      (wearCap unstored : Bool) (lastManual : Option Bool)
  /-- R187 -/
  | library (state : LibState) (erased inUse damaged : Nat) (staging : Bool) (last : Option LibEvent)
deriving DecidableEq, Repr

/-! ## Line link (LNK) -/

/-- A request in the receive queue, with its reply once its owner has answered (R189, R190). -/
structure Request where
  tag : Byte
  body : List Byte
  reply : Option Answer
deriving DecidableEq, Repr

/-- A QUEUE_FULL reply owed (R189). -/
structure Refused where
  tag : Byte
  code : Byte
deriving DecidableEq, Repr

/-- The frame the transmitter is sending (R191). -/
inductive TxFrame where
  | queueFull (r : Refused)
  | reply (tag code : Byte) (answer : Answer)
  | notice (number : Nat) (data : NoticeData)
deriving DecidableEq, Repr

structure Lnk where
  /-- the bytes of the frame being gathered, oldest first; empty while hunting -/
  gathered : List RxByte
  queue : List Request
  refusals : List Refused
  tx : Option TxFrame
  flags : Flags
  noticeNumber : Nat
  counters : LinkCounters
  /-- the reply at the head of the queue is that of a RESTART taken (R190, R194) -/
  restartReply : Bool
deriving DecidableEq, Repr

/-! ## The whole block -/

/-- A change of an input level that has no row in the table, or time that passes (log 3). -/
inductive LevelChange where
  | elapse (ms : Ms)
  | encoder (count : Int)
  | liftHeight (mm : Nat)
  | levelCount (n : Nat)
  | backTableUncovered
  | referenceSwitch (covered : Bool)
  | limitReleased (which : LimitEnd)
  | driveFaultCleared
  | bdcUncovered
  | flapOpenSw (covered : Bool)
  | flapClosedSw (covered : Bool)
  | gripClosed (covered : Bool)
  | lowerLimitUncovered
  | topLimitUncovered
  | bladeHome (covered : Bool)
  | pusherHome (covered : Bool)
  | frontStop (covered : Bool)
  | sideStop (covered : Bool)
  | carriageUncovered
  | flashFails (program begins erase : Bool)
deriving DecidableEq, Repr

/-- Everything the block holds but its queue: the ten units, the input levels and the model's own clock, last answer and
free-value counter. -/
structure Blocks where
  inputs : Inputs
  msu : Msu
  seq : Seq
  trk : Trk
  gax : Gax
  cku : Cku
  trn : Trn
  lft : Lft
  jog : Jog
  lib : Lib
  lnk : Lnk
  clock : Ms
  answer : Option Answer
  freeIndex : Nat
deriving DecidableEq, Repr

/-- The state: the block, the level changes that wait (log 3), and the commands that wait, first in first out. -/
structure State where
  blocks : Blocks
  silent : List LevelChange
  pending : List Instr
deriving DecidableEq, Repr

/-- The faults a step may stop with: none. The manual gives every command an effect in every state; its own faults
(R102, R120, R138, R147, R164) are states of the units, entered by a next step. -/
inductive Fault where
deriving DecidableEq, Repr

/-- The refusals. -/
inductive Refusal where
  /-- Raised by exec's arm of a command that has no meaning yet. Safe: nothing can be proved of such a command. -/
  | notModelled (mnemonic : String)
deriving DecidableEq, Repr

/-! ## Reset -/

/-- The input levels at reset, those of section 10.7 (log 7). -/
def Inputs.atReset : Inputs :=
  { chainClosed := true, permitKey := .twoHand, locked := false, curtainClear := true, guardClosed := true,
    leftHeld := false, rightHeld := false, backTable := false, referenceSwitch := false, frontLimit := false,
    rearLimit := false, driveFault := false, encoder := 0, tdc := true, bdc := false, upperStop := true,
    flapOpenSw := false, flapClosedSw := true, armsOpen := true, gripClosed := false, quarter := true,
    lowerLimit := true, topLimit := false, bladeHome := true, pusherHome := true, levelCount := 4000, entry := false,
    frontStop := false, sideStop := false, carriageHome := true, programFails := false, beginFails := false,
    eraseFails := false }

/-- The correction table with every point INVALID (R80). -/
def allInvalid : List (Option Int) := List.replicate Config.corrPoints none

/-- MSU after start-up with the chain closed (R167, R175). -/
def Msu.atReset : Msu :=
  { mode := .standby, estop := .readyToReset, resets := ⟨none, none, none, none, none⟩, cause := .powerOn, phase := .ended }

/-- SEQ after start-up (R18). -/
def Seq.atReset : Seq :=
  { state := .idle, snapshot := none, run := Running.empty, stack := [], hold := HoldRecord.cleared, target := none,
    startNotice := false }

/-- TRK after start-up with the back-table sensor uncovered (R51, R64, R66, R68). -/
def Trk.atReset : Trk :=
  { block := none, unknown := false, queue := [], clearPending := false, made := 0, delivered := 0, trims := 0,
    loadNumber := 0, lastPiece := 0 }

/-- GAX after start-up with no correction record in the library (R88). -/
def Gax.atReset : Gax :=
  { state := .unreferenced, homing := .clear, finalSettling := false, referenced := false, inPosition := false,
    start := .none, move := none, pending := none, stopping := false, fault := none, drive := false,
    driveCount := none, table := allInvalid, deadline := none, bandFrom := none }

/-- CKU after start-up with the knife at TDC, the flap closed and no knife record in the library (R108, R128). -/
def Cku.atReset : Cku :=
  { state := .open_, cycle := none, knifeReturn := false, resetting := false, resetReleased := false, fault := none, contactDetail := none,
    valves := Valves.closed, flap := .closed, downClosedAt := none, returnClosedAt := none, leftOnset := none,
    rightOnset := none, rearmed := false, sample := none, contact := false, knife := KnifeRecord.default,
    wearCap := false, unstored := true, storeDeferred := false, lastStored := 0, lastManual := none,
    deadline := none, flapDeadline := none }

/-- TRN after start-up with both switches covered (R131). -/
def Trn.atReset : Trn :=
  { state := .parked, record := none, fault := none, pending := none, lastTurn := none, resetting := false,
    carrying := false, gripKept := false, deadline := none }

/-- LFT after start-up at the lower limit with the gear at rest and a first count of 4,000 (R143, R146). -/
def Lft.atReset : Lft :=
  { state := .lowered, height := some 0, baseline := 4000, window := 1024, depth := 12, latest := some 4000,
    judgement := .notJudged, partedOff := 0, feedPaused := false, baselinePending := none,
    sensorFaultPending := false, fault := none, withdrawing := false, resetting := false, paperAtTop := false,
    deadline := none, bladeDepth := none, gearReturning := false }

/-- JOG after start-up with clear sensors and the carriage home (R156). -/
def Jog.atReset : Jog :=
  { state := .empty, retries := 0, record := none, transferred := 0, carriageReturning := false, repeatWaiting := false,
    lastCheck := none, fault := none, figures := none, resetting := false, deadline := none, suspended := none }

/-- LIB after a scan of erased flash (R179). -/
def Lib.atReset : Lib :=
  { state := .opened, work := none, flash := List.replicate Config.sections Section.erased, index := [],
    corrIndex := List.replicate Config.corrPoints none, nextSeq := 1, damaged := 0, staging := none, failure := none,
    lastEvent := none, deadline := none }

/-- LNK at power-on (R194). -/
def Lnk.atReset : Lnk :=
  { gathered := [], queue := [], refusals := [], tx := none, flags := Flags.clear, noticeNumber := 0,
    counters := LinkCounters.zero, restartReply := false }

/-- The block right after start-up at power-on, with notice CELL raised by the end of start-up (R175 step 5). -/
def Blocks.atReset : Blocks :=
  { inputs := Inputs.atReset, msu := Msu.atReset, seq := Seq.atReset, trk := Trk.atReset, gax := Gax.atReset,
    cku := Cku.atReset, trn := Trn.atReset, lft := Lft.atReset, jog := Jog.atReset, lib := Lib.atReset,
    lnk := { Lnk.atReset with flags := { Flags.clear with cell := true } }, clock := 0, answer := none, freeIndex := 0 }

/-- The machine right after reset (log 7). -/
def State.reset : State := { blocks := Blocks.atReset, silent := [], pending := [] }

end Sys2Proof.Machine
end

