-- ==== Sys2Proof/Machine/Ops.lean ====
section
/-! DEFINITION. The named operations every unit uses: bytes and figures, the frame check, rounding, saturating
counters, notice flags, the owner's answer, switch levels, and time. -/

namespace Sys2Proof.Machine

open Sys2Proof

/-! ## Figures and bytes -/

/-- Bytes high byte first as a number (R192, R196). -/
def beNat : List Byte → Nat
  | [] => 0
  | b :: rest => b.toNat * 256 ^ rest.length + beNat rest

/-- Bytes high byte first as a signed number in two's complement (R192). -/
def beInt (bytes : List Byte) : Int :=
  let n := beNat bytes
  if n < 2 ^ (8 * bytes.length - 1) then (n : Int) else (n : Int) - 2 ^ (8 * bytes.length)

/-- A number as `len` bytes, high byte first; a negative one in two's complement (R192). -/
def beBytes (len : Nat) (n : Int) : List Byte :=
  (List.range len).map fun i => BitVec.ofNat 8 ((n % 256 ^ len).toNat / 256 ^ (len - 1 - i))

/-- floor((2 num + den) / (2 den)): num / den rounded half up, for den above 0 (00_scope section 6). -/
def roundHalfUp (num den : Int) : Int := (2 * num + den) / (2 * den)

/-- One bit of the frame check shifted through the polynomial 1021 hex (R195). -/
def crcBit (crc : BitVec 16) : BitVec 16 :=
  if crc.getMsbD 0 then (crc <<< 1) ^^^ 0x1021#16 else crc <<< 1

/-- One byte of the frame check (R195). -/
def crcByte (crc : BitVec 16) (b : Byte) : BitVec 16 :=
  crcBit (crcBit (crcBit (crcBit (crcBit (crcBit (crcBit (crcBit (crc ^^^ ((b.setWidth 16) <<< 8)))))))))

/-- The CRC-16 of R195: polynomial 1021 hex, initial value FFFF hex, most significant end first, no inversion. -/
def crc16 (bytes : List Byte) : BitVec 16 := bytes.foldl crcByte 0xFFFF#16

/-- One more, stopping at `top` (R68, R194). -/
def addUpTo (top n k : Nat) : Nat := min top (n + k)

/-! ## The units of the block -/

/-- MSU changed. -/
def setMsu (f : Msu → Msu) (b : Blocks) : Blocks := { b with msu := f b.msu }
/-- SEQ changed. -/
def setSeq (f : Seq → Seq) (b : Blocks) : Blocks := { b with seq := f b.seq }
/-- TRK changed. -/
def setTrk (f : Trk → Trk) (b : Blocks) : Blocks := { b with trk := f b.trk }
/-- GAX changed. -/
def setGax (f : Gax → Gax) (b : Blocks) : Blocks := { b with gax := f b.gax }
/-- CKU changed. -/
def setCku (f : Cku → Cku) (b : Blocks) : Blocks := { b with cku := f b.cku }
/-- TRN changed. -/
def setTrn (f : Trn → Trn) (b : Blocks) : Blocks := { b with trn := f b.trn }
/-- LFT changed. -/
def setLft (f : Lft → Lft) (b : Blocks) : Blocks := { b with lft := f b.lft }
/-- JOG changed. -/
def setJog (f : Jog → Jog) (b : Blocks) : Blocks := { b with jog := f b.jog }
/-- LIB changed. -/
def setLib (f : Lib → Lib) (b : Blocks) : Blocks := { b with lib := f b.lib }
/-- LNK changed. -/
def setLnk (f : Lnk → Lnk) (b : Blocks) : Blocks := { b with lnk := f b.lnk }
/-- SEQ's running record changed. -/
def setRun (f : Running → Running) (b : Blocks) : Blocks := setSeq (fun q => { q with run := f q.run }) b

/-! ## Notices and answers -/

/-- The flag of a kind. -/
def Flags.get (f : Flags) : NoticeKind → Bool
  | .cell => f.cell
  | .sequence => f.sequence
  | .hold => f.hold
  | .front => f.front
  | .feed => f.feed
  | .gauge => f.gauge
  | .knife => f.knife
  | .library => f.library

/-- The flag of a kind set or cleared. -/
def Flags.set (f : Flags) (k : NoticeKind) (v : Bool) : Flags :=
  match k with
  | .cell => { f with cell := v }
  | .sequence => { f with sequence := v }
  | .hold => { f with hold := v }
  | .front => { f with front := v }
  | .feed => { f with feed := v }
  | .gauge => { f with gauge := v }
  | .knife => { f with knife := v }
  | .library => { f with library := v }

/-- An owner raises a notice kind: its flag is set, or stays set (R193). -/
def raise (k : NoticeKind) (b : Blocks) : Blocks :=
  setLnk (fun l => { l with flags := l.flags.set k true }) b

/-- Raise a kind when a condition holds. -/
def raiseIf (c : Bool) (k : NoticeKind) (b : Blocks) : Blocks := if c then raise k b else b

/-- The owner gives its answer back to LNK (R190). -/
def answer (st : Status) (r : Result) (b : Blocks) : Blocks := { b with answer := some ⟨st, r⟩ }

/-- A request reaches its owner once start-up has ended; before, it is answered BUSY (R175 step 1, R190; log 10). -/
def asRequest (f : Blocks → Blocks) (b : Blocks) : Blocks :=
  if b.msu.phase = .ended then f b else answer .busy .nothing b

/-! ## Time -/

/-- The expiry of a timer is the event that its time has come: the clock stands at the end of the time, or past it (log 1). -/
def clockAt (deadline : Option Ms) (b : Blocks) : Blocks :=
  match deadline with
  | none => b
  | some t => { b with clock := max b.clock t }

/-- A time limit that begins now. -/
def after (b : Blocks) (ms : Ms) : Option Ms := some (b.clock + ms)

/-! ## Input levels -/

/-- The input levels changed. -/
def setInputs (f : Inputs → Inputs) (b : Blocks) : Blocks := { b with inputs := f b.inputs }

/-- The e-stop state is CHAIN_OK (R169). -/
def chainOk (b : Blocks) : Bool := b.msu.estop == .chainOk

/-! ## States -/

/-- A command acts on the block and leaves the queue alone. -/
def State.act (f : Blocks → Blocks) (s : State) : State := { s with blocks := f s.blocks }

/-- The next state of a command that acts on the block. -/
def run (f : Blocks → Blocks) (s : State) : Host.Outcome State Fault Refusal := .next (s.act f)

end Sys2Proof.Machine
end

