-- ==== Sys2Proof/Machine/Operands.lean ====
section
/-! DEFINITION. The operands as bytes: the names sent as a place in a list (R192), the step record (R196), the job header
(R196), the bodies of STOCK, KNIFE and CORR records (log 15), the record checks (R15), and the staged figures. -/

namespace Sys2Proof.Machine

open Sys2Proof

/-! ## Names sent as their place in a list, counted from 1 (R192) -/

/-- The modes in the order of R167. -/
def modeOf : Nat → Option CellMode
  | 1 => some .standby
  | 2 => some .setup
  | 3 => some .auto
  | _ => none

/-- The units in the order of R174. -/
def unitOf : Nat → Option UnitName
  | 1 => some .gax
  | 2 => some .cku
  | 3 => some .trn
  | 4 => some .lft
  | 5 => some .jog
  | _ => none

/-- The library kinds in the order of the table at the head of chapter 11. -/
def kindOf : Nat → Option RecKind
  | 1 => some .job
  | 2 => some .sub
  | 3 => some .stock
  | 4 => some .knife
  | 5 => some .corr
  | _ => none

/-- The keys of each kind (R177). -/
def keyInRange : RecKind → Nat → Bool
  | .job, k => 1 ≤ k && k ≤ 999
  | .sub, k => k ≤ 31
  | .stock, k => 1 ≤ k && k ≤ 63
  | .knife, k => k == 0
  | .corr, k => k ≤ 231

/-! ## Stock, knife and correction bodies -/

/-- The ranges of R3; the period is even. -/
def StockFigures.inRange (f : StockFigures) : Bool :=
  (-200 ≤ f.stretchA && f.stretchA ≤ 200) && (-200 ≤ f.stretchB && f.stretchB ≤ 200) && f.squeeze ≤ 500
    && (50 ≤ f.clampPressure && f.clampPressure ≤ 550) && (10 ≤ f.jogTime && f.jogTime ≤ 120)
    && (20 ≤ f.jogPeriod && f.jogPeriod ≤ 80 && f.jogPeriod % 2 == 0)
    && (20 ≤ f.jogDuty && f.jogDuty ≤ 80) && (1 ≤ f.jogGap && f.jogGap ≤ 5)

/-- A STOCK body: the eight figures of R3, two bytes each (16 bytes, log 15). -/
def StockFigures.encode (f : StockFigures) : List Byte :=
  beBytes 2 f.stretchA ++ beBytes 2 f.stretchB ++ beBytes 2 f.squeeze ++ beBytes 2 f.clampPressure
    ++ beBytes 2 f.jogTime ++ beBytes 2 f.jogPeriod ++ beBytes 2 f.jogDuty ++ beBytes 2 f.jogGap

/-- The eight figures of a STOCK body, or of the arguments of a STOCK_WRITE (R192). -/
def decodeStock : List Byte → Option StockFigures
  | [a, a', b, b', c, c', d, d', e, e', f, f', g, g', h, h'] =>
    some { stretchA := beInt [a, a'], stretchB := beInt [b, b'], squeeze := beNat [c, c'],
           clampPressure := beNat [d, d'], jogTime := beNat [e, e'], jogPeriod := beNat [f, f'],
           jogDuty := beNat [g, g'], jogGap := beNat [h, h'] }
  | _ => none

/-- A KNIFE body: k, w, C, G and two zero bytes (12 bytes, log 15). -/
def KnifeRecord.encode (r : KnifeRecord) : List Byte :=
  beBytes 2 r.k ++ beBytes 2 r.w ++ beBytes 4 r.C ++ beBytes 2 r.G ++ [0, 0]

/-- The figures of a KNIFE body. -/
def decodeKnife : List Byte → Option KnifeRecord
  | [a, b, c, d, e, f, g, h, i, j, _, _] =>
    some { k := beInt [a, b], w := beNat [c, d], C := beNat [e, f, g, h], G := beNat [i, j] }
  | _ => none

/-- A correction value as two bytes, INVALID as 8000 hex (R192). -/
def corrValueBytes : Option Int → List Byte
  | none => beBytes 2 0x8000
  | some v => beBytes 2 v

/-- Two bytes as a correction value (R192). -/
def corrValueOf (hi lo : Byte) : Option Int := if beNat [hi, lo] = 0x8000 then none else some (beInt [hi, lo])

/-- Correction values of a list of bytes, two each. -/
def corrValuesOf : List Byte → List (Option Int)
  | hi :: lo :: rest => corrValueOf hi lo :: corrValuesOf rest
  | _ => []

/-- A CORR body: the count in four bytes, then the values (4 + 2n bytes, log 15). -/
def encodeCorr (values : List (Option Int)) : List Byte :=
  beBytes 4 values.length ++ (values.map corrValueBytes).flatten

/-- The values of a CORR body. -/
def decodeCorr (body : List Byte) : List (Option Int) := corrValuesOf (body.drop 4)

/-! ## The step record (R196) -/

/-- The override field: 0 is none; otherwise 50..550 (R5, R196). -/
def overrideOf (n : Nat) : Option (Option Nat) :=
  if n = 0 then some none else if 50 ≤ n ∧ n ≤ 550 then some (some n) else none

/-- The conditions of R196 with the operands each admits (R13). -/
def skipOf (code operand : Nat) : Option ProgStep :=
  match code with
  | 1 => if operand ≤ 1150000 then some (.skipIf .depthBelow operand) else none
  | 2 => if operand ≤ 1150000 then some (.skipIf .widthBelow operand) else none
  | 3 => if operand ≤ 3 then some (.skipIf .orientationIs operand) else none
  | 4 => if operand = 0 then some (.skipIf .firstPortion 0) else none
  | 5 => if operand = 0 then some (.skipIf .lastPortion 0) else none
  | 6 => if operand = 0 then some (.skipIf .piecesWaiting 0) else none
  | _ => none

/-- The modes of R196. -/
def cutModeOf : Nat → Option CutMode
  | 1 => some .abs
  | 2 => some .rel
  | 3 => some .fromBase
  | _ => none

/-- The fields of a step of a kind, with every unused byte 0 and every field in its range (R5, R10 to R14, R196); `none`
where the FIELD_RANGE check fails. The kind is one of the eight. -/
def stepFields (kind : Nat) (b1 b2 b3 d ov tail : Nat) : Option ProgStep :=
  match kind with
  | 1 =>
    match cutModeOf b1, overrideOf ov with
    | some m, some o =>
      if 1 ≤ b2 ∧ b2 ≤ 99 ∧ b3 ≤ 1 ∧ d ≤ 1150000 ∧ tail = 0 then some (.cut m b2 (b3 == 1) d o) else none
    | _, _ => none
  | 2 => if 1 ≤ b1 ∧ b1 ≤ 3 ∧ b2 = 0 ∧ b3 = 0 ∧ d = 0 ∧ ov = 0 ∧ tail = 0 then some (.turn b1) else none
  | 3 => if b1 = 0 ∧ b2 = 0 ∧ b3 = 0 ∧ d = 0 ∧ ov = 0 ∧ tail = 0 then some .eject else none
  | 4 => if b2 = 0 ∧ b3 = 0 ∧ d = 0 ∧ ov = 0 ∧ tail = 0 then some (.pause b1) else none
  | 5 =>
    match overrideOf ov with
    | some o => if b1 ≤ 31 ∧ 1 ≤ b2 ∧ b2 ≤ 99 ∧ b3 = 0 ∧ d = 0 ∧ tail = 0 then some (.call b1 b2 o) else none
    | none => none
  | 6 => if b1 = 0 ∧ b2 = 0 ∧ b3 = 0 ∧ d = 0 ∧ ov = 0 ∧ tail = 0 then some .ret else none
  | 7 => if b2 = 0 ∧ b3 = 0 ∧ ov = 0 ∧ tail = 0 then skipOf b1 d else none
  | 8 => if b1 = 0 ∧ b2 = 0 ∧ b3 = 0 ∧ d = 0 ∧ ov = 0 ∧ tail = 0 then some .endStep else none
  | _ => none

/-- What the KIND and FIELD_RANGE checks find of a step record. -/
inductive StepRead where
  | badKind
  | badField
  | step (s : ProgStep)
deriving DecidableEq, Repr

/-- A step record of 12 bytes read by R196. -/
def readStep : List Byte → StepRead
  | [k, b1, b2, b3, d0, d1, d2, d3, o0, o1, t0, t1] =>
    if 1 ≤ k.toNat ∧ k.toNat ≤ 8 then
      match stepFields k.toNat b1.toNat b2.toNat b3.toNat (beNat [d0, d1, d2, d3]) (beNat [o0, o1]) (beNat [t0, t1]) with
      | some s => .step s
      | none => .badField
    else .badKind
  | _ => .badKind

/-- Bytes cut into records of 12; a remainder shorter than 12 is left out. -/
def stepRecords : List Byte → List (List Byte)
  | a :: b :: c :: d :: e :: f :: g :: h :: i :: j :: k :: l :: rest => [a, b, c, d, e, f, g, h, i, j, k, l] :: stepRecords rest
  | _ => []

/-- The steps of a body that has passed its record checks. -/
def stepsOf (bytes : List Byte) : List ProgStep :=
  (stepRecords bytes).filterMap fun r => match readStep r with | .step s => some s | _ => none

/-! ## The job header (R1, R196) -/

/-- The header of a job: number, name, depth, width and portion height. -/
structure JobHeader where
  number : Nat
  name : List Byte
  depth : Nat
  width : Nat
  height : Nat
deriving DecidableEq, Repr

/-- The 28 bytes of the header (R196). -/
def readHeader (body : List Byte) : JobHeader :=
  { number := beNat (body.take 2), name := (body.drop 2).take 16, depth := beNat ((body.drop 18).take 4),
    width := beNat ((body.drop 22).take 4), height := beNat ((body.drop 26).take 2) }

/-- A name field: printable characters padded with zero bytes; all zero is the absent name (R1, R196). -/
def nameOk : List Byte → Bool
  | [] => true
  | c :: rest => if c = 0 then rest.all (· == 0) else (0x20 ≤ c.toNat && c.toNat ≤ 0x7E) && nameOk rest

/-- The ranges of R1. -/
def headerOk (h : JobHeader) (key : Nat) : Bool :=
  (1 ≤ h.number && h.number ≤ 999) && h.number == key && nameOk h.name
    && (100000 ≤ h.depth && h.depth ≤ 1140000) && (100000 ≤ h.width && h.width ≤ 1140000)
    && (400 ≤ h.height && h.height ≤ 1650)

/-! ## The record checks (R15) -/

/-- Whether a step terminates a program of its kind. -/
def isTerminator (isJob : Bool) (s : ProgStep) : Bool := if isJob then s == .endStep else s == .ret

/-- The checks 4 to 12 of one step, in the order of the table; `left` is the number of steps after it. -/
def checkStep (isJob : Bool) (left : Nat) (r : List Byte) : Option CheckCode :=
  match readStep r with
  | .badKind => some .kind
  | .badField => some .fieldRange
  | .step s =>
    match s with
    | .cut m count _ _ _ =>
      if 1 < count ∧ m ≠ .rel then some .repeatMode else if left = 0 then some .noTerminator else none
    | .ret => if isJob then some .returnInMain else none
    | .endStep => if isJob then (if left ≠ 0 then some .endMisplaced else none) else some .endInSub
    | .skipIf _ _ => if left = 0 then some .skipLast else if left = 1 then some .skipTerminator else none
    | _ => if left = 0 then some .noTerminator else none

/-- The steps examined from index `i` upward; the first failing check at the lowest index. -/
def checkSteps (isJob : Bool) : Nat → List (List Byte) → Option CheckFailure
  | _, [] => none
  | i, r :: rest =>
    match checkStep isJob rest.length r with
    | some c => some ⟨c, some i⟩
    | none => checkSteps isJob (i + 1) rest

/-- The record checks of a JOB body under a key (R15). -/
def checkJob (key : Nat) (body : List Byte) : Option CheckFailure :=
  if body.length < 28 ∨ (body.length - 28) % 12 ≠ 0 then some ⟨.length, none⟩
  else if (body.length - 28) / 12 < 1 ∨ 120 < (body.length - 28) / 12 then some ⟨.stepCount, none⟩
  else if headerOk (readHeader body) key = false then some ⟨.headerRange, none⟩
  else checkSteps true 0 (stepRecords (body.drop 28))

/-- The record checks of a SUB body (R15). -/
def checkSub (body : List Byte) : Option CheckFailure :=
  if body.length % 12 ≠ 0 then some ⟨.length, none⟩
  else if body.length / 12 < 1 ∨ 40 < body.length / 12 then some ⟨.stepCount, none⟩
  else checkSteps false 0 (stepRecords body)

/-- The record checks of a body staged as JOB or SUB (R16). -/
def recordChecks (kind : RecKind) (key : Nat) (body : List Byte) : Option CheckFailure :=
  match kind with
  | .job => checkJob key body
  | _ => checkSub body

/-- The subprograms a list of steps calls, in step order, each once, leaving out those already listed. -/
def calledSubs : List ProgStep → List Nat → List Nat
  | [], _ => []
  | .call n _ _ :: rest, seen => if seen.contains n then calledSubs rest seen else n :: calledSubs rest (n :: seen)
  | _ :: rest, seen => calledSubs rest seen

end Sys2Proof.Machine
end

