-- ==== Sys2Proof/Machine/Arithmetic.lean ====
section
/-! DEFINITION. The arithmetic of the gauge target (chapter 04), of the block's dimensions (R54, R86), of the level
measurement (R144, R145) and of the jog drive (R158, R159), on plain numbers. -/

namespace Sys2Proof.Machine

open Sys2Proof

/-! ## Stretch, knife term and travel -/

/-- Stage 2: n carried onto the stretched paper with s parts per 10,000, rounded half up (R75, R54). -/
def stretched (n : Um) (s : Int) : Um := roundHalfUp (n * (10000 + s)) 10000

/-- The inverse rule: a stretched depth in program terms, rounded half up (R86). -/
def unstretched (m : Um) (s : Int) : Um := roundHalfUp (m * 10000) (10000 + s)

/-- The load position of a job (R20). -/
def loadPositionOf (depth : Um) (stretchA : Int) : Um := min Config.travelRear (stretched depth stretchA + 5000)

/-- The wear part (R76). -/
def wearPart (r : KnifeRecord) : Nat := min 400 (r.C * r.w / 1000)

/-- Stage 3: the knife term K (R76). -/
def knifeTermOf (r : KnifeRecord) : Int := r.k + (wearPart r : Int)

/-- A target limited to the travel (R79). -/
def limitToTravel (p : Um) : Um := max Config.travelFront (min Config.travelRear p)

/-- Whether a physical target lies in the travel (R79). -/
def inTravel (p : Um) : Bool := Config.travelFront ≤ p && p ≤ Config.travelRear

/-- The nominal target N of stage 1 (R74). -/
def nominalTarget (mode : CutMode) (dim depth base : Um) : Um :=
  match mode with
  | .abs => dim
  | .rel => depth - dim
  | .fromBase => base - dim

/-! ## Screw correction and counts -/

/-- The value of a point of the correction table (R80). An encoder reading in front of point 0 or behind point 231 needs a point
that the table does not have; such a point counts as INVALID, the model's choice (log 74). -/
def corrPoint (table : List (Option Int)) (j : Int) : Option Int :=
  if j < 0 then none else (table[j.toNat]?).join

/-- Stage 5: the correction at a physical position, none when a needed point is INVALID (R80, R81). -/
def correctionAt (table : List (Option Int)) (p : Um) : Option Int :=
  let j := p / 5000
  let r := p % 5000
  if r = 0 then corrPoint table j
  else
    match corrPoint table j, corrPoint table (j + 1) with
    | some c, some c' => some (c + Int.tdiv ((c' - c) * r) 5000)
    | _, _ => none

/-- Stage 6: a length in counts of 5 µm, to the nearest (R82). -/
def countOf (e : Um) : Int := roundHalfUp e 5

/-- The estimated physical position of an encoder reading (R85). -/
def estimateAt (table : List (Option Int)) (encoder : Int) : Um :=
  5 * encoder - (correctionAt table (5 * encoder)).getD 0

/-- The encoder count of the reference mark (R81, R82). -/
def referenceCount (table : List (Option Int)) : Int :=
  countOf (Config.referenceMark + (corrPoint table 231).getD 0)

/-- The INVALID points among points 4..230 (R104). -/
def invalidPoints (table : List (Option Int)) : Nat := (((table.drop 4).take 227).filter (· == none)).length

/-! ## Approach and move time (R83, R84) -/

/-- The moves that go straight to P in either direction (R83). -/
def MoveKind.isDirect : MoveKind → Bool
  | .cut | .jog => false
  | _ => true

/-- The overshoot point of a rearward move of a cut or jog; it is P itself for P at the rear end of the travel (R83). -/
def overshootOf (kind : MoveKind) (start p : Um) : Option Um :=
  if kind.isDirect = false ∧ start < p then some (min Config.travelRear (p + Config.overshoot)) else none

/-- The first leg of a move: the overshoot leg, unless there is none or it has no length (R83, R94). -/
def firstLeg (overshoot : Option Um) (p : Um) : Leg :=
  match overshoot with
  | some o => if o = p then .final else .overshoot
  | none => .final

/-- The approach of a move (R83; a move without travel is recorded as forward, log 25). -/
def approachOf (kind : MoveKind) (start p : Um) : Approach :=
  if kind.isDirect then .direct else if start < p then .rearward else .forward

/-- The travel of a move (R84). -/
def travelOf (start p : Um) : Option Um → Um
  | none => |p - start|
  | some o => (o - start) + (o - p)

/-- The move time of a travel (R84). -/
def moveTimeOf (travel : Um) : Ms := 800 + 2 * (travel / 1000).toNat

/-! ## Level measurement (R144, R145) -/

/-- Whether a count means paper (R144). -/
def paperPresent (n baseline depth : Nat) : Bool := baseline ≠ 0 && n * 100 ≤ baseline * (100 - depth)

/-- The baseline tracked by a no-paper count (R145). -/
def trackedBaseline (baseline n : Nat) : Nat :=
  if baseline = 0 then 0 else ((baseline : Int) + Int.tdiv ((n : Int) - baseline) 8).toNat

/-! ## The jog drive (R158, R159) -/

/-- The on-time of each coil (R158). -/
def coilOnTime (period duty gap : Nat) : Nat := (period / 2 - gap) * duty / 100

/-- The whole periods of a jog: the jog time in units of 0.1 s rounded up to whole periods (R159). -/
def jogPeriods (jogTime period : Nat) : Nat := (jogTime * 100 + period - 1) / period

/-! ## Quarter turns (R52) -/

/-- The orientation after one quarter turn. -/
def nextOrientation (o : Nat) : Nat := (o + 1) % 4

/-- The other depth axis. -/
def DepthAxis.other : DepthAxis → DepthAxis
  | .headFoot => .leftRight
  | .leftRight => .headFoot

/-- The depth axis of an orientation (R52). -/
def axisOf (o : Nat) : DepthAxis := if o % 2 = 0 then .headFoot else .leftRight

/-- The front edge at an orientation TRIMMED (R52). -/
def Edges.trimFront (e : Edges) (o : Nat) : Edges :=
  match o with
  | 0 => { e with head := true }
  | 1 => { e with left := true }
  | 2 => { e with foot := true }
  | _ => { e with right := true }

/-- The block turned by one quarter (R59). -/
def Block.quarter (k : Block) : Block :=
  { k with nomDepth := k.nomWidth, nomWidth := k.nomDepth, strDepth := k.strWidth, strWidth := k.strDepth,
           axis := k.axis.other, orientation := k.orientation.map nextOrientation }

/-- The stretch of the depth axis at an orientation (R52, R75). -/
def stretchFor (f : StockFigures) (o : Nat) : Int := if o % 2 = 0 then f.stretchA else f.stretchB

end Sys2Proof.Machine
end

