-- ==== Sys2Proof/Machine/Flags.lean ====
section
/-! DEFINITION. The conditions the units test, each a function of the block as it stands: positions of the gauge, the
interlocks of motion (R92), the turn conditions (R132), the permits of the knife (R112, R113), the readiness of the back
table (R53), the conditions of a parting (R149), a jog (R157) and a transfer (R162), and those of MODE_SET and JOB_RESUME. -/

namespace Sys2Proof.Machine

open Sys2Proof

/-! ## The gauge -/

/-- GAX is in motion (chapter 05, opening). -/
def gaxInMotion (b : Blocks) : Bool := b.gax.state == .homing || b.gax.state == .moving || b.gax.state == .settling

/-- The estimate of R85 at the present encoder reading. -/
def gaxEstimate (b : Blocks) : Um := estimateAt b.gax.table b.inputs.encoder

/-- The starting position of the next move (R84, R96). That the estimate after a stop is taken anew each time it is used, by
the encoder and the table as they then stand, is read from R85, R96, R100 and R104 (log 86). -/
def startingPosition (b : Blocks) : Option Um :=
  match b.gax.start with
  | .none => none
  | .at p => some p
  | .estimate => some (gaxEstimate b)

/-- The physical position GAX reports and tests: P with the mark set, the estimate otherwise, none while unreferenced (R96, R105). -/
def gaxPosition (b : Blocks) : Option Um :=
  if b.gax.referenced then (if b.gax.inPosition then startingPosition b else some (gaxEstimate b)) else none

/-- The gauge stands at a position, or behind it, in STANDSTILL (R132, R162). -/
def gaxStandsAt (p : Um) (b : Blocks) : Bool :=
  b.gax.state == .standstill && b.gax.referenced
    && (match gaxPosition b with | some q => decide (p ≤ q) | none => false)

/-- A move of the gauge is in flight: begun, neither completed nor void (R94). -/
def moveInFlight (b : Blocks) : Bool :=
  match b.gax.move with
  | some m => m.completed == none
  | none => false

/-- The asker of the last move. -/
def moveAsker (b : Blocks) : Option MoveAsker := b.gax.move.map (·.asker)

/-- The three conditions before motion (R92). -/
def moveConditions (b : Blocks) : Bool := b.inputs.upperStop && b.trn.state == .parked && chainOk b

/-! ## The turner -/

/-- The turn's envelope (R132). -/
def envelopeMet (b : Blocks) : Bool :=
  match b.trk.block with
  | some k => decide (k.strDepth ≤ Config.turnLimit) && decide (k.strWidth ≤ Config.turnLimit)
  | none => false

/-- The turn conditions (R132). -/
def turnConditions (b : Blocks) : Bool :=
  b.inputs.upperStop && b.inputs.tdc && gaxStandsAt Config.clearancePos b && chainOk b

/-! ## The knife -/

/-- Both two-hand buttons are released. -/
def bothReleased (b : Blocks) : Bool := !b.inputs.leftHeld && !b.inputs.rightHeld

/-- The two-hand permit (R112). -/
def twoHandPermit (b : Blocks) : Bool :=
  b.inputs.leftHeld && b.inputs.rightHeld && b.cku.rearmed
    && (match b.cku.leftOnset, b.cku.rightOnset with
        | some l, some r => decide (max l r - min l r ≤ Config.twoHandMs)
        | _, _ => false)

/-- The part of the stroke permit that the permit key selects (R113, R127). -/
def keyPermit (c : Cycle) (b : Blocks) : Bool :=
  if c.asker = .manual ∨ b.inputs.permitKey = .twoHand then twoHandPermit b
  else b.inputs.guardClosed && bothReleased b

/-- The stroke permit (R113). -/
def strokePermit (b : Blocks) : Bool :=
  match b.cku.cycle with
  | none => false
  | some c =>
    b.cku.state == .clamped && c.armed && !c.restAsked
      && (match b.cku.sample with | some n => decide (c.target ≤ n) | none => false)
      && chainOk b && b.inputs.curtainClear && b.trn.state == .parked
      && b.cku.flap == (if c.waste then .opened else .closed) && keyPermit c b

/-- The end of the valve gap begun by a closing; no closing time is long past (R108, R114). A gap that still runs when
KNIFE_CHANGED is taken ends by the new G, the model's choice (log 63). -/
def gapEnd (closedAt : Option Ms) (b : Blocks) : Ms :=
  match closedAt with
  | none => 0
  | some t => t + b.cku.knife.G

/-- What clamping waits for (R110). -/
def clampingConditions (c : Cycle) (b : Blocks) : Bool :=
  !gaxInMotion b && b.trn.state == .parked && chainOk b && (c.waste || b.cku.flap == .closed)

/-- The cycle in progress is a manual cut's. -/
def manualCycle (b : Blocks) : Bool :=
  match b.cku.cycle with
  | some c => c.asker == .manual
  | none => false

/-- The cell is cutting for SEQ. -/
def seqCycle (b : Blocks) : Bool :=
  match b.cku.cycle with
  | some c => c.asker == .seq
  | none => false

/-! ## The tables -/

/-- The stretched sheet depth L of the loaded job (R20, R53). -/
def loadedL (snap : Snapshot) : Um := stretched snap.depth snap.stock.stretchA

/-- Why the back table is not ready, the first failing condition of R53, or none when it is ready (R70). -/
def tableNotReady (b : Blocks) : Option NotReady :=
  if b.trk.block.isSome then some .blockPresent
  else if b.trk.unknown then some .blockUnknown
  else
    match b.seq.snapshot with
    | none => some .noJob
    | some snap => if Config.travelRear < loadedL snap then some .oversize else none

/-- The gauge position a manual cut is judged at; an axis without a position gives the estimate (R58, R86, log 28). -/
def manualPosition (b : Blocks) : Um := (gaxPosition b).getD (gaxEstimate b)

/-- TRK allows a manual cut (R58). -/
def manualCutAllowed (b : Blocks) : Bool :=
  b.trk.block.isNone
    || (decide (b.trk.queue.length < Config.maxPieces)
        && decide (Config.travelFront ≤ manualPosition b - knifeTermOf b.cku.knife))

/-- SEQ is RUNNING or HELD. -/
def jobUnderWay (b : Blocks) : Bool := b.seq.state == .running || b.seq.state == .held

/-! ## The feed chain -/

/-- The part-off gear is at rest (chapter 08, opening). -/
def gearAtRest (b : Blocks) : Bool := b.inputs.bladeHome && b.inputs.pusherHome

/-- The first failing condition of R149, or none when a parting may begin (R155). -/
def partRefusal (b : Blocks) : Option PartRefusal :=
  if !jobUnderWay b then some .jobNotRunning
  else if b.lft.feedPaused then some .feedPaused
  else if b.jog.state ≠ .empty then some .joggerOccupied
  else if b.seq.run.lot ≤ b.lft.partedOff then some .lotParted
  else if !chainOk b then some .chainOpen
  else if !gearAtRest b then some .gearNotAtRest
  else none

/-- The conditions of a jog (R157). -/
def jogConditions (b : Blocks) : Bool :=
  b.inputs.pusherHome && b.inputs.carriageHome && chainOk b && b.seq.snapshot.isSome && !b.jog.repeatWaiting

/-- The load position of the loaded job. -/
def loadPosition (b : Blocks) : Option Um := b.seq.snapshot.map (·.loadPosition)

/-- The gauge stands at the load position of the job, or behind it (R162). -/
def gaugeAtLoad (b : Blocks) : Bool :=
  match loadPosition b with
  | some p => gaxStandsAt p b
  | none => false

/-- The first failing condition of R162, or none when a transfer may begin (R166). -/
def transferRefusal (b : Blocks) : Option TransferRefusal :=
  if (tableNotReady b).isSome then some .tableNotReady
  else if ¬ (b.seq.state = .running ∧ b.seq.run.wait = .portion) then some .notWaitingPortion
  else if !gaugeAtLoad b then some .gaugeNotAtLoad
  else if !b.inputs.upperStop then some .clampDown
  else if b.trn.state ≠ .parked then some .turnerNotParked
  else if !chainOk b then some .chainOpen
  else none

/-- The table sensors that JOG's part of a reset needs clear (R165). -/
def jogTableClear (b : Blocks) : Bool :=
  !b.inputs.entry && !b.inputs.frontStop && !b.inputs.sideStop
    && !(b.inputs.backTable && b.jog.state == .fault
          && (b.jog.fault == some .interlockLost || b.jog.fault == some .transferTimeout
              || b.jog.fault == some .chainOpened))

/-! ## Modes and the sequencer -/

/-- The first failing condition of a change to AUTO (R167). -/
def autoRefusal (b : Blocks) : Option AutoRefusal :=
  if !b.gax.referenced then some .notReferenced
  else if !b.inputs.tdc then some .knifeOffTdc
  else if !b.inputs.upperStop then some .clampDown
  else if b.cku.state = .knifeReturnNeeded then some .knifeReturnNeeded
  else if !chainOk b then some .chainOpen
  else none

/-- The conditions of JOB_RESUME beside the mode (R46). -/
def resumeConditions (b : Blocks) : Bool :=
  chainOk b && b.gax.referenced && b.gax.state == .standstill && b.cku.state == .open_ && b.inputs.upperStop
    && b.inputs.tdc && b.trn.state == .parked

/-- The steps of a program of the snapshot. -/
def programSteps (snap : Snapshot) : ProgId → List ProgStep
  | .main => snap.steps
  | .sub n => ((snap.subs.find? fun p => p.1 == n).map (·.2)).getD []

/-- The step at the current location. -/
def currentStep (b : Blocks) : Option ProgStep :=
  match b.seq.snapshot with
  | none => none
  | some snap => (programSteps snap b.seq.run.loc.prog)[b.seq.run.loc.index]?

/-- The base in force: the top frame's, or the main base (R74). -/
def baseInForce (b : Blocks) : Um :=
  match b.seq.stack with
  | [] => b.seq.run.mainBase
  | f :: _ => f.base

/-- The condition of a SKIP_IF (R13). -/
def skipHolds (c : SkipCond) (operand : Int) (b : Blocks) : Bool :=
  match c with
  | .depthBelow => match b.trk.block with | some k => decide (k.nomDepth < operand) | none => false
  | .widthBelow => match b.trk.block with | some k => decide (k.nomWidth < operand) | none => false
  | .orientationIs =>
    match b.trk.block with
    | some k => (match k.orientation with | some o => decide ((o : Int) = operand) | none => false)
    | none => false
  | .firstPortion => b.seq.run.finished == 0
  | .lastPortion => b.seq.run.finished + 1 == b.seq.run.lot
  | .piecesWaiting => !b.trk.queue.isEmpty

/-- The pressure target of a cut (R9). -/
def cutPressure (own : Option Nat) (b : Blocks) : Nat :=
  match own with
  | some p => p
  | none =>
    match b.seq.run.override with
    | some p => p
    | none => match b.seq.snapshot with | some snap => snap.stock.clampPressure | none => 0

end Sys2Proof.Machine
end

