-- ==== Sys2Proof/Machine/Tracker.lean ====
section
/-! DEFINITION. What the Block Tracker does to its own records (chapter 03): the strip at bottom dead centre, the
manual cut, the quarter, the orientation lost, the last piece, the block created, and the clear. -/

namespace Sys2Proof.Machine

open Sys2Proof

/-- The number of the piece after a number (R62). -/
def nextPieceNumber (n : Nat) : Nat := if n = Config.counterTop then 1 else n + 1

/-- A load number after a number (R62). -/
def nextLoadNumber (n : Nat) : Nat := if n = Config.counterTop then 1 else n + 1

/-- The load number of a successful JOB_LOAD: the next one that no piece in the queue carries (R62). The queue holds at
most 8 pieces, so nine candidates always hold a free one. -/
def freshLoadNumber (queue : List Piece) : Nat → Nat → Nat
  | 0, n => nextLoadNumber n
  | k + 1, n =>
    if queue.any (fun p => p.load == nextLoadNumber n) then freshLoadNumber queue k (nextLoadNumber n) else nextLoadNumber n

/-- A piece joins the tail of the queue, takes the next piece number, and is counted (R62, R68, R69). -/
def joinPiece (p : Piece) (b : Blocks) : Blocks :=
  raise .front (setTrk (fun t =>
    { t with queue := t.queue ++ [{ p with load := t.loadNumber, number := nextPieceNumber t.lastPiece }],
             lastPiece := nextPieceNumber t.lastPiece, made := addUpTo Config.counterTop t.made 1 }) b)

/-- The piece a strip of the block makes: the strip's nominal and stretched width (R62). -/
def stripPiece (k : Block) (loc : Option Loc) (nom str : Um) : Piece :=
  { load := 0, number := 0, portion := k.portion, loc := loc, nomWidth := nom, strWidth := str, nomLength := k.nomWidth,
    strLength := k.strWidth, height := k.height, orientation := k.orientation, kind := .strip }

/-- The block after a strip has left it: new depths, the front edge TRIMMED where the orientation is known, the
partial-cut mark clear (R56, R58). -/
def Block.afterStrip (k : Block) (nominal str : Um) : Block :=
  { k with nomDepth := nominal, strDepth := str, partialCut := false,
           edges := match k.orientation with | some o => k.edges.trimFront o | none => k.edges }

/-- The block record replaced. -/
def setBlock (k : Option Block) (b : Blocks) : Blocks := setTrk (fun t => { t with block := k }) b

/-- The partial-cut mark set (R57). -/
def markPartialCut (b : Blocks) : Blocks :=
  setBlock (b.trk.block.map fun k => { k with partialCut := true }) b

/-- TRK's update at the BDC of a programmed cut, with the N and S of its target (R56). -/
def cutBdcUpdate (waste : Bool) (b : Blocks) : Blocks :=
  match b.trk.block, b.seq.target with
  | some k, some g =>
    let b1 := setBlock (some (k.afterStrip g.nominal g.stretched)) b
    if waste then setTrk (fun t => { t with trims := addUpTo Config.counterTop t.trims 1 }) b1
    else joinPiece (stripPiece k (some b.seq.run.loc) (k.nomDepth - g.nominal) (k.strDepth - g.stretched)) b1
  | _, _ => b

/-- The stretch of the inverse rule (R58). -/
def inverseStretch (k : Block) (b : Blocks) : Int :=
  match b.seq.snapshot, k.orientation with
  | some snap, some o => stretchFor snap.stock o
  | _, _ => 0

/-- TRK's update at the BDC of a manual cut with the knife term kept in the cycle record (R58, R86). -/
def manualBdcUpdate (term : Int) (b : Blocks) : Blocks :=
  match b.trk.block with
  | none => b
  | some k =>
    let str := manualPosition b - term
    let nom := unstretched str (inverseStretch k b)
    if str < k.strDepth then
      joinPiece (stripPiece k none (k.nomDepth - nom) (k.strDepth - str)) (setBlock (some (k.afterStrip nom str)) b)
    else setBlock (some { k with partialCut := false }) b

/-- TRK's update at a quarter completion (R59). -/
def quarterUpdate (b : Blocks) : Blocks := setBlock (b.trk.block.map Block.quarter) b

/-- The orientation becomes UNKNOWN (R60). -/
def orientationLost (b : Blocks) : Blocks :=
  setBlock (b.trk.block.map fun k => { k with orientation := none }) b

/-- The end of an EJECT push: the block becomes a LAST piece and is absent (R63). -/
def ejectPiece (b : Blocks) : Blocks :=
  match b.trk.block with
  | none => b
  | some k =>
    joinPiece { stripPiece k (some b.seq.run.loc) k.nomDepth k.strDepth with kind := .last } (setBlock none b)

/-- The block record made at a transfer's arrival (R54). -/
def createBlock (f : TransferFigures) (portion : Nat) (b : Blocks) : Blocks :=
  setBlock (some
    { portion := portion, nomDepth := f.depth, nomWidth := f.width, strDepth := stretched f.depth f.stretchA,
      strWidth := stretched f.width f.stretchB, height := f.height, orientation := some 0, axis := .headFoot,
      edges := ⟨false, false, false, false⟩, partialCut := false }) b

/-- The whole queue is moved to delivered and notice FRONT raised (R67). -/
def deliverQueue (b : Blocks) : Blocks :=
  raise .front (setTrk (fun t =>
    { t with queue := [], delivered := addUpTo Config.counterTop t.delivered t.queue.length, clearPending := false }) b)

/-- TRK after start-up (R51, R62, R64, R66, R68). -/
def trkStart (b : Blocks) : Blocks := setTrk (fun _ => { Trk.atReset with unknown := b.inputs.backTable }) b

end Sys2Proof.Machine
end

