-- ==== Sys2Proof/Machine/Jogger.lean ====
section
/-! DEFINITION. The Jogger's own operations (chapter 09): its faults, the interlock of a transfer, the beginning and the
end of a jog, the end of a transfer, the chain, the reset and start-up. -/

namespace Sys2Proof.Machine

open Sys2Proof

/-- JOG enters FAULT; in FAULT the first code stays (R164). -/
def jogFault (code : JogFault) (b : Blocks) : Blocks :=
  if b.jog.state = .fault then b
  else raise .feed (setJog (fun j =>
    { j with state := .fault, fault := some code, record := none, figures := none, resetting := false,
             deadline := none, suspended := none }) b)

/-- The condition a transfer rests on has gone: INTERLOCK_LOST (R162, log 24). -/
def jogWatch (b : Blocks) : Blocks :=
  if b.jog.state = .transferring ∧ ¬ (b.gax.state = .standstill ∧ b.inputs.upperStop = true ∧ b.trn.state = .parked) then
    jogFault .interlockLost b
  else b

/-- The beginning of a jog: the figures of the snapshot are kept in the jog record (R158). -/
def jogBegin (snap : Snapshot) (b : Blocks) : Blocks :=
  setJog (fun j =>
    { j with state := .jogging,
             record := some { jogTime := snap.stock.jogTime, period := snap.stock.jogPeriod, duty := snap.stock.jogDuty,
                              gap := snap.stock.jogGap,
                              onTime := coilOnTime snap.stock.jogPeriod snap.stock.jogDuty snap.stock.jogGap,
                              start := b.clock, periods := 0 },
             deadline := after b (jogPeriods snap.stock.jogTime snap.stock.jogPeriod * snap.stock.jogPeriod) }) b

/-- JOG in RECEIVING begins a jog when the conditions of R157 hold. -/
def tryJog (b : Blocks) : Blocks :=
  match b.seq.snapshot with
  | none => b
  | some snap => if b.jog.state = .receiving ∧ jogConditions b = true then jogBegin snap b else b

/-- A check has failed: a retry is due, begun at once where the conditions hold, or the third failure (R160, R161). -/
def checkFailed (b : Blocks) : Blocks :=
  if b.jog.retries < 2 then
    tryJog (setJog (fun j =>
      { j with state := .receiving, retries := j.retries + 1, repeatWaiting := b.lft.feedPaused, deadline := none }) b)
  else jogFault .jogMisaligned b

/-- The alignment check on the stop-edge sensors as they stand (R160). -/
def alignmentCheck (b : Blocks) : Blocks :=
  let b1 := setJog (fun j => { j with lastCheck := some ⟨b.inputs.frontStop, b.inputs.sideStop⟩, deadline := none }) b
  if b.inputs.frontStop ∧ b.inputs.sideStop then setJog (fun j => { j with state := .aligned }) b1 else checkFailed b1

/-- The end of a jog: the periods run are kept, and the alignment is judged (R159). -/
def jogEnd (b : Blocks) : Blocks :=
  alignmentCheck (setJog (fun j =>
    { j with record := j.record.map fun r => { r with periods := jogPeriods r.jogTime r.period } }) b)

/-- What the entry sensor's covering does to JOG in EMPTY (R157). -/
def entryEvent (ofParting : Bool) (b : Blocks) : Blocks :=
  if b.jog.state ≠ .empty then b
  else if ofParting then setJog (fun j => { j with state := .receiving, retries := 0, repeatWaiting := false }) b
  else jogFault .strayPortion b

/-- The carriage is home (R163, R165). -/
def carriageIsHome (b : Blocks) : Blocks :=
  if b.jog.resetting then
    raise .feed (setJog (fun j =>
      { j with state := .empty, resetting := false, carriageReturning := false, deadline := none, suspended := none }) b)
  else if b.jog.carriageReturning then
    setJog (fun j => { j with carriageReturning := false, deadline := none, suspended := none }) b
  else b

/-- A repeated jog waits for the end of the feed pause: a portion in RECEIVING whose retry count has risen, with the feed
paused (R161). -/
def pauseRepeat (b : Blocks) : Blocks :=
  if b.lft.feedPaused = true ∧ b.jog.state = .receiving ∧ 0 < b.jog.retries then
    setJog (fun j => { j with repeatWaiting := true }) b
  else b

/-- The chain opens (R164): a jog is void and begun afresh by R157, a repeated one after the feed pause (R161); a transfer
faults; a carriage return in EMPTY or RECEIVING is suspended; ALIGNED and FAULT are unchanged (log 24).
The jog record of a void jog is discarded, the model's choice (log 67). -/
def jogEstop (b : Blocks) : Blocks :=
  match b.jog.state with
  | .jogging => pauseRepeat (setJog (fun j => { j with state := .receiving, record := none, deadline := none }) b)
  | .transferring => jogFault .chainOpened b
  | .empty | .receiving =>
    if b.jog.carriageReturning ∨ b.jog.resetting then
      setJog (fun j => { j with suspended := j.deadline.map fun t => t - b.clock, deadline := none }) b
    else b
  | .aligned | .fault => b

/-- The chain is CHAIN_OK again: a suspended carriage return runs on (R164). -/
def jogChainReset (b : Blocks) : Blocks :=
  match b.jog.suspended with
  | some left => setJog (fun j => { j with suspended := none, deadline := some (b.clock + left) }) b
  | none => b

/-- Whether JOG's part of a UNIT_RESET has its conditions (R165). -/
def jogResetAllowed (b : Blocks) : Bool :=
  chainOk b && (!(b.jog.state == .fault || b.jog.state == .receiving || b.jog.state == .aligned) || jogTableClear b)

/-- JOG's part of a UNIT_RESET (R165). With the carriage home it ends at once; else the carriage is drawn back. -/
def jogReset (b : Blocks) : Blocks :=
  match b.jog.state with
  | .fault | .receiving | .aligned =>
    let b1 := setJog (fun j => { j with fault := none, retries := 0, repeatWaiting := false }) b
    if b.inputs.carriageHome then
      raise .feed (setJog (fun j =>
        { j with state := .empty, resetting := false, carriageReturning := false, deadline := none, suspended := none }) b1)
    else setJog (fun j => { j with resetting := true, deadline := after b Config.carriageMs, suspended := none }) b1
  | _ => b

/-- JOG after start-up (R156). The last check is dropped (log 89), and the carriage returning mark of a
return under way at a RESTART is cleared (log 95), the model's choices. -/
def jogStart (b : Blocks) : Blocks :=
  let clear := !b.inputs.entry && !b.inputs.frontStop && !b.inputs.sideStop && b.inputs.carriageHome
  setJog (fun _ =>
    if clear then Jog.atReset else { Jog.atReset with state := .fault, fault := some .tableOccupied }) b

end Sys2Proof.Machine
end

