-- ==== Sys2Proof/Machine/Gauge.lean ====
section
/-! DEFINITION. The Gauge Axis' own operations (chapter 05): the beginning of a move, the commanded stop, the interlock
stop, the e-stop, the homing run, entering FAULT, the reset, the working table and start-up. What SEQ does with the
outcome stands in Sequencer.lean and Holds.lean. -/

namespace Sys2Proof.Machine

open Sys2Proof

/-- The starting position after a stop: the estimate, or none without a reference (R84, R88, R100). -/
def startAfterStop (b : Blocks) : StartPos := if b.gax.referenced then .estimate else .none

/-- The state at the end of a stop (R91, R100, R101). -/
def stateAfterStop (b : Blocks) : GaxState := if b.gax.referenced then .standstill else .unreferenced

/-- A move record that is in flight becomes void (R100). -/
def MoveRecord.voided (m : MoveRecord) : MoveRecord := if m.completed = none then { m with completed := some false } else m

/-- The commanded stop that a RESTART has made still runs: GAX takes its start-up values at its end (R88; log 51). -/
def restartStop (b : Blocks) : Bool := b.gax.stopping && b.msu.phase != .ended

/-- The values of R88, with the table that LIB's part of start-up has given (R88, R104). -/
def gaxStartValues (b : Blocks) : Blocks :=
  setGax (fun g => { Gax.atReset with table := g.table, drive := chainOk b }) b

/-- The axis comes to rest without the in-position mark, its move void; notice GAUGE (R100). The stop of a RESTART ends in the
values of R88. -/
def gaxStopped (b : Blocks) : Blocks :=
  raise .gauge
    (if restartStop b then gaxStartValues b
     else
      setGax (fun g =>
        { g with state := stateAfterStop b, start := startAfterStop b, move := g.move.map MoveRecord.voided,
                 inPosition := false, stopping := false, finalSettling := false, deadline := none }) b)

/-- The drive begins to decelerate: MOVING, in which a commanded stop is in progress; the move in flight is void (R87, R100).
A stop is given no count, the model's choice (log 91). -/
def gaxDecelerate (b : Blocks) : Blocks :=
  setGax (fun g =>
    { g with state := .moving, move := g.move.map MoveRecord.voided, stopping := true, driveCount := none,
             deadline := after b Config.stopMs }) b

/-- A commanded stop (R100): at once in SETTLING, by deceleration in MOVING and HOMING. A homing run is over as its stop begins
(R87, log 50). -/
def gaxStop (b : Blocks) : Blocks :=
  match b.gax.state with
  | .moving => if b.gax.stopping then b else gaxDecelerate b
  | .settling => gaxStopped b
  | .homing => if b.gax.stopping then b else if b.gax.finalSettling then gaxStopped b else gaxDecelerate b
  | _ => b

/-- A move of SEQ in flight becomes the pending move again (R93). -/
def repend (b : Blocks) : Blocks :=
  match b.gax.move with
  | some m =>
    if m.asker = .seq ∧ m.completed = none then
      setGax (fun g => { g with pending := some ⟨m.kind, m.target⟩ }) b
    else b
  | none => b

/-- The clamp or the turner has left its condition while the gauge is in motion: the interlock stop (R93). -/
def gaxInterlock (b : Blocks) : Blocks :=
  match b.gax.state with
  | .moving => if b.gax.stopping then b else raise .gauge (gaxDecelerate (repend b))
  | .settling => gaxStopped (repend b)
  | .homing => gaxStop b
  | _ => b

/-- GAX brings SEQ's work to rest (R43, R100): the pending move is void, and a move of SEQ in flight stops. -/
def gaxRest (b : Blocks) : Blocks :=
  let b1 := setGax (fun g => { g with pending := none }) b
  if moveInFlight b ∧ moveAsker b = some .seq then gaxStop b1 else b1

/-- The cell mode leaves SETUP: a jog or a homing run ends by a commanded stop (R168). -/
def gaxModeRest (b : Blocks) : Blocks :=
  if b.gax.state = .homing ∨ (moveInFlight b ∧ moveAsker b = some .terminal) then gaxStop b else b

/-- The move record of a move that begins (R94). -/
def moveRecord (kind : MoveKind) (asker : MoveAsker) (p : Um) (clamped : Bool) (start : Um) (b : Blocks) : MoveRecord :=
  let corr := (correctionAt b.gax.table p).getD 0
  { kind := kind, asker := asker, target := p, corr := corr, uncorrected := (correctionAt b.gax.table p).isNone,
    encoderTarget := p + corr, countTarget := countOf (p + corr), clamped := clamped, approach := approachOf kind start p,
    overshoot := (overshootOf kind start p).map fun o => ⟨o, countOf (o + corr)⟩,
    leg := firstLeg (overshootOf kind start p) p, start := start,
    moveTime := moveTimeOf (travelOf start p (overshootOf kind start p)), completed := none }

/-- The count of a move's present leg (R83, R94). -/
def MoveRecord.legCount (m : MoveRecord) : Int :=
  match m.leg, m.overshoot with
  | .overshoot, some o => o.count
  | _, _ => m.countTarget

/-- A move begins (R94): stages 5 and 6, the approach, the record; without travel it goes to its in-position test at once.
The drive is given the count of the first leg where there is travel (R83, R94). HOMING is kept throughout the FINAL move
(R90). The axis leaves STANDSTILL, which a transfer watches (R162). -/
def gaxBegin (kind : MoveKind) (asker : MoveAsker) (p : Um) (clamped : Bool) (start : Um) (b : Blocks) : Blocks :=
  let m := moveRecord kind asker p clamped start b
  let moves : Bool := p != start
  let homing : Bool := kind == .homeFinal
  let b1 := setGax (fun g =>
    { g with state := if homing then .homing else if moves then .moving else .settling,
             finalSettling := homing && !moves, inPosition := false, move := some m, stopping := false,
             pending := none, driveCount := if moves then some m.legCount else g.driveCount,
             deadline := after b (if moves then m.moveTime else Config.settleMs),
             bandFrom := if moves then g.bandFrom else some b.clock }) b
  jogWatch (raiseIf m.uncorrected .gauge b1)

/-- The pending move begins (R92, R94). -/
def beginPending (b : Blocks) : Blocks :=
  match b.gax.pending, startingPosition b with
  | some q, some start =>
    if b.gax.state = .standstill ∧ moveConditions b = true then gaxBegin q.kind .seq q.target false start b else b
  | _, _ => b

/-- The profile of the last leg is complete: SETTLING, or the settling of FINAL; the 60 ms of the in-position test begin
(R90, R95, R96). -/
def gaxSettle (b : Blocks) : Blocks :=
  setGax (fun g =>
    { g with state := if g.state = .homing then .homing else .settling, finalSettling := g.state == .homing,
             deadline := after b Config.settleMs, bandFrom := some b.clock }) b

/-- The gauge has come in position: STANDSTILL with the mark, the starting position P, the move complete (R96). -/
def gaxInPosition (m : MoveRecord) (b : Blocks) : Blocks :=
  setGax (fun g =>
    { g with state := .standstill, finalSettling := false, inPosition := true, start := .at m.target,
             move := some { m with completed := some true }, deadline := none }) b

/-- The drive is disabled after a fault of its own or of a limit (R102). -/
def GaxFault.disables : GaxFault → Bool
  | .limitSwitch | .driveFault => true
  | _ => false

/-- GAX enters FAULT; in FAULT a limit or drive fault replaces a timeout code (R102). After a SETTLE_TIMEOUT the drive holds at
its last count; a stop is given none (log 91). The stop of a RESTART ends in the values
of R88 however it ends (log 51). The hold cause is raised in Holds.lean. -/
def gaxEnterFault (code : GaxFault) (b : Blocks) : Blocks :=
  if b.gax.state = .fault then
    if code.disables && !((b.gax.fault.map GaxFault.disables).getD true) then
      raise .gauge (setGax (fun g => { g with fault := some code, drive := false, driveCount := none }) b)
    else b
  else
    jogWatch (raise .gauge
      (if restartStop b then gaxStartValues b
       else
        setGax (fun g =>
          { g with state := .fault, fault := some code, drive := g.drive && !code.disables,
                   driveCount := if code = .settleTimeout then g.driveCount else none, start := startAfterStop b,
                   move := g.move.map MoveRecord.voided, pending := none, inPosition := false, stopping := false,
                   finalSettling := false, deadline := none }) b))

/-- The chain opens: the drive is disabled, with notice GAUGE, and every move is void (R101). -/
def gaxEstop (b : Blocks) : Blocks :=
  let off := raiseIf b.gax.drive .gauge (setGax (fun g => { g with drive := false, driveCount := none, pending := none }) b)
  match b.gax.state with
  | .moving | .settling | .homing => gaxStopped off
  | _ => off

/-- A limit or drive fault keeps the drive disabled until the reset of R103 (R101). -/
def driveLocked (g : Gax) : Bool := g.state == .fault && (g.fault.map GaxFault.disables).getD false

/-- The drive is enabled, holding the gauge at the encoder reading of that moment, or disabled (R101, R103; log 91). -/
def driveEnable (on : Bool) (b : Blocks) : Blocks :=
  setGax (fun g => { g with drive := on, driveCount := if on then some b.inputs.encoder else none }) b

/-- The chain is CHAIN_OK again: the drive is enabled, with notice GAUGE, but for a limit or drive fault (R101). -/
def gaxChainReset (b : Blocks) : Blocks :=
  raiseIf (!driveLocked b.gax && !b.gax.drive) .gauge (driveEnable (!driveLocked b.gax) b)

/-- The homing run begins; the drive runs at homing speed, with no count (R89, R90). -/
def gaxHome (b : Blocks) : Blocks :=
  jogWatch (setGax (fun g =>
    { g with state := .homing, homing := if b.inputs.referenceSwitch then .clear else .seek, finalSettling := false,
             referenced := false, inPosition := false, start := .none, pending := none, stopping := false,
             driveCount := none, deadline := after b Config.homingMs }) b)

/-- The reference mark: the encoder takes the reference count, the axis is referenced, and the FINAL move begins; with
point 231 INVALID the homing carries the UNCORRECTED mark (R81, R90), in the move record of the FINAL move, the model's choice
(log 92). -/
def gaxReference (b : Blocks) : Blocks :=
  let b1 := setInputs (fun i => { i with encoder := referenceCount b.gax.table, referenceSwitch := true }) b
  let b2 := setGax (fun g => { g with homing := .final, referenced := true, start := .at Config.referenceMark }) b1
  let lost := (corrPoint b.gax.table 231).isNone
  raiseIf lost .gauge (setGax (fun g => { g with move := g.move.map fun m => { m with uncorrected := m.uncorrected || lost } })
    (gaxBegin .homeFinal .homing Config.travelRear false Config.referenceMark b2))

/-- GAX's part of a UNIT_RESET (R103); a reset that leaves it in FAULT raises notice GAUGE (R106; log 44). -/
def gaxReset (b : Blocks) : Blocks :=
  if b.gax.state ≠ .fault then b
  else
    match b.gax.fault with
    | some .limitSwitch | some .driveFault =>
      if b.inputs.driveFault then raise .gauge b
      else
        driveEnable (chainOk b)
          (setGax (fun g => { g with state := .unreferenced, fault := none, referenced := false, start := .none }) b)
    | _ => setGax (fun g => { g with state := stateAfterStop b, fault := none, start := startAfterStop b }) b

/-- The working table takes points of the library; notice GAUGE when it changes (R104). -/
def gaxTable (table : List (Option Int)) (b : Blocks) : Blocks :=
  raiseIf (b.gax.table != table) .gauge (setGax (fun g => { g with table := table }) b)

/-- GAX after start-up, but for its table (R88). A commanded stop under way at a RESTART is made first: GAX keeps what it holds,
but for a pending move, until the stop's end (R88, R100; log 51). -/
def gaxStart (b : Blocks) : Blocks :=
  setGax (fun g => if g.stopping then { g with pending := none } else { Gax.atReset with drive := chainOk b }) b

end Sys2Proof.Machine
end

