-- ==== Sys2Proof/Machine/Knife.lean ====
section
/-! DEFINITION. The Clamp and Knife Unit's own operations (chapter 06): the flap, the clamp request, clamping, the
stroke, the reversal, the release, the rest, the e-stop, entering FAULT, the reset and start-up. What SEQ does with an
outcome stands in Sequencer.lean and Holds.lean. -/

namespace Sys2Proof.Machine

open Sys2Proof

/-! ## The flap (R119) -/

/-- The flap is driven closed, unless it is CLOSED or CLOSING; nothing is driven while the chain is open (R119, R169). That the
asked position is judged by the flap state and not by its switch is the model's choice (log 96). -/
def flapClose (b : Blocks) : Blocks :=
  if !chainOk b then b
  else
    match b.cku.flap with
    | .opening | .opened =>
      setInputs (fun i => { i with flapOpenSw := false })
        (setCku (fun c => { c with flap := .closing, flapDeadline := after b Config.flapMs }) b)
    | _ => b

/-- The flap is driven open, unless it is OPEN or OPENING (R119; by the flap state, log 96). -/
def flapOpen (b : Blocks) : Blocks :=
  match b.cku.flap with
  | .closed | .closing =>
    setInputs (fun i => { i with flapClosedSw := false })
      (setCku (fun c => { c with flap := .opening, flapDeadline := after b Config.flapMs }) b)
  | _ => b

/-! ## The cycle -/

/-- A clamp request can be taken: OPEN with the clamp at its upper stop and the knife at TDC (R110). -/
def clampRequestTaken (b : Blocks) : Bool := b.cku.state == .open_ && b.inputs.upperStop && b.inputs.tdc

/-- A clamp request that is taken makes the cycle record; the flap is closed first for a product or manual cut (R110). -/
def makeCycle (asker : CutAsker) (target : Nat) (waste armed : Bool) (b : Blocks) : Blocks :=
  let b1 := setCku (fun c =>
    { c with cycle := some { asker := asker, target := target, waste := waste, armed := armed, restAsked := false,
                             lastReversal := none, knifeTerm := none, bdcTaken := false } }) b
  if waste then b1 else flapClose b1

/-- Clamping begins: the contact mark clears, the lowering valve opens and the clamp leaves its upper stop, with what that
does to the gauge and a transfer (R109, R110, R93, R162; log 5). -/
def beginClamping (b : Blocks) : Blocks :=
  jogWatch (gaxInterlock (setInputs (fun i => { i with upperStop := false })
    (setCku (fun c =>
      { c with state := .clamping, contact := false, valves := { Valves.closed with lowering := true },
               deadline := after b Config.clampMs }) b)))

/-- The outcome of the last manual cut or knife return; notice KNIFE (R130). -/
def manualEnds (completed : Bool) (b : Blocks) : Blocks :=
  raise .knife (setCku (fun c => { c with lastManual := some completed }) b)

/-- The part of a UNIT_RESET ends when its release is over and the flap closed, in whatever state a clamp request taken
meanwhile has brought CKU to; notice KNIFE (R124; log 71). -/
def ckuResetEnds (b : Blocks) : Blocks :=
  if b.cku.resetting ∧ b.cku.resetReleased ∧ b.cku.flap = .closed then
    raise .knife (setCku (fun c => { c with resetting := false, resetReleased := false }) b)
  else b

/-- The release is complete: OPEN, the raising valve closed, the cycle record discarded; a manual cut or a knife return
ends here (R118, R125, R127). -/
def ckuOpened (b : Blocks) : Blocks :=
  let b1 := setCku (fun c =>
    { c with state := .open_, cycle := none, knifeReturn := false, resetReleased := c.resetting, valves := Valves.closed,
             deadline := none }) b
  let b2 :=
    if b.cku.knifeReturn then manualEnds true b1
    else match b.cku.cycle with
      | some c => if c.asker = .manual then manualEnds c.bdcTaken b1 else b1
      | none => b1
  ckuResetEnds b2

/-- RELEASING: the lowering valve closes and the raising valve opens; with the clamp already at its upper stop, OPEN at
once (R118). -/
def ckuRelease (b : Blocks) : Blocks :=
  if b.inputs.upperStop then ckuOpened b
  else
    setCku (fun c =>
      { c with state := .releasing, valves := { Valves.closed with raising := true },
               deadline := after b Config.releaseMs }) b

/-- The down valve opens: STROKING, the re-armed mark clear, the knife term of a manual cut kept (R114, R127). -/
def beginStroke (b : Blocks) : Blocks :=
  setCku (fun c =>
    { c with state := .stroking, rearmed := false, valves := { Valves.closed with down := true, lowering := true },
             deadline := after b Config.strokeMs,
             cycle := c.cycle.map fun y =>
               { y with knifeTerm := if y.asker = .manual then some (knifeTermOf c.knife) else none } }) b

/-- The down valve closes and the gap begins (R115, R116). -/
def beginGap (b : Blocks) : Blocks :=
  setCku (fun c =>
    { c with state := .gap, valves := { Valves.closed with lowering := true }, downClosedAt := some b.clock,
             deadline := after b c.knife.G }) b

/-- The cause of a reversal kept in the cycle record (R116). -/
def recordReversal (cause : ReversalCause) (b : Blocks) : Blocks :=
  setCku (fun c => { c with cycle := c.cycle.map fun y => { y with lastReversal := some cause } }) b

/-- A reversal: the down valve closes, GAP, the cause is recorded, and TRK sets the partial-cut mark (R116, R57). -/
def reverse (cause : ReversalCause) (b : Blocks) : Blocks := markPartialCut (recordReversal cause (beginGap b))

/-- The rest asked mark set (R122). -/
def askRest (b : Blocks) : Blocks :=
  setCku (fun c => { c with cycle := c.cycle.map fun y => { y with restAsked := true } }) b

/-- A KNIFE_RETURN stops: the return valve closes, or is not opened; KNIFE_RETURN_NEEDED, notice KNIFE (R122, R125). -/
def knifeReturnStops (b : Blocks) : Blocks :=
  manualEnds false (setCku (fun c =>
    { c with state := .knifeReturnNeeded, knifeReturn := false, valves := Valves.closed, deadline := none,
             returnClosedAt := if c.valves.ret then some b.clock else c.returnClosedAt }) b)

/-- CKU brings its cycle to rest (R122). -/
def ckuRest (b : Blocks) : Blocks :=
  match b.cku.state with
  | .open_ =>
    let b1 := flapClose (setCku (fun c => { c with cycle := none }) b)
    if manualCycle b then manualEnds false b1 else b1
  | .clamping | .clamped => flapClose (ckuRelease (askRest b))
  | .stroking => reverse .rest (askRest b)
  | .gap | .returning => if b.cku.knifeReturn then knifeReturnStops b else askRest b
  | .releasing => flapClose (askRest b)
  | .fault | .knifeReturnNeeded => b

/-- The cell mode leaves SETUP: a manual cut or a KNIFE_RETURN is brought to rest (R122, R168). -/
def ckuModeRest (b : Blocks) : Blocks := if manualCycle b ∨ b.cku.knifeReturn = true then ckuRest b else b

/-- The chain opens: every valve closes at once, with the closing times of the knife valves, and the cycle record is
discarded (R123). -/
def ckuValvesShut (next : CycleState) (b : Blocks) : Blocks :=
  setCku (fun c =>
    { c with state := next, cycle := none, knifeReturn := false, resetting := false, resetReleased := false,
             valves := Valves.closed,
             flap := if c.flap = .opening ∨ c.flap = .closing then .opened else c.flap,
             downClosedAt := if c.valves.down then some b.clock else c.downClosedAt,
             returnClosedAt := if c.valves.ret then some b.clock else c.returnClosedAt,
             fault := if next = .fault then c.fault else none,
             deadline := none, flapDeadline := none }) b

/-- What ends with the cycle at the opening of the chain: a manual cut, a knife return, a reset (R123, R130). -/
def ckuWorkEnds (b b1 : Blocks) : Blocks :=
  if manualCycle b ∨ b.cku.knifeReturn then manualEnds false b1 else raiseIf b.cku.resetting .knife b1

/-- The chain opens (R123). -/
def ckuEstop (b : Blocks) : Blocks :=
  match b.cku.state with
  | .stroking => raise .knife (ckuWorkEnds b (markPartialCut (ckuValvesShut .knifeReturnNeeded b)))
  | .gap | .returning => raise .knife (ckuWorkEnds b (ckuValvesShut .knifeReturnNeeded b))
  | .open_ | .clamping | .clamped | .releasing => ckuWorkEnds b (ckuValvesShut .open_ b)
  | .fault => ckuValvesShut .fault b
  | .knifeReturnNeeded => ckuValvesShut .knifeReturnNeeded b

/-- CKU enters FAULT, every valve closed and the cycle record discarded; in FAULT the first code stays. Notice KNIFE
(R120). A flap still moving keeps its drive and its 600 ms in FAULT (the model's choice, log 53). -/
def ckuEnterFault (code : CkuFault) (b : Blocks) : Blocks :=
  raise .knife
    (if b.cku.state = .fault then b
     else
      setCku (fun c =>
        { c with state := .fault, fault := some (c.fault.getD code), cycle := none, knifeReturn := false, resetting := false,
                 resetReleased := false,
                 contactDetail := if code = .clampTimeout then some c.contact else none, valves := Valves.closed,
                 downClosedAt := if c.valves.down then some b.clock else c.downClosedAt,
                 returnClosedAt := if c.valves.ret then some b.clock else c.returnClosedAt,
                 lastManual := if manualCycle b ∨ c.knifeReturn then some false else c.lastManual, deadline := none }) b)

/-- The wear cap mark judged on the working copy (R77). -/
def judgeWear (b : Blocks) : Blocks := setCku (fun c => { c with wearCap := wearPart c.knife == 400 }) b

/-- The cut is counted at BDC, up to 16,777,215, and the wear cap judged: notice KNIFE when the mark becomes set (R77, R115). -/
def countCut (b : Blocks) : Blocks :=
  let b1 := judgeWear (setCku (fun c => { c with knife := { c.knife with C := addUpTo Config.cutCountTop c.knife.C 1 } }) b)
  raiseIf (b1.cku.wearCap && !b.cku.wearCap) .knife b1

/-- CKU's part of a UNIT_RESET, with the chain closed (R124). In OPEN a clamp request that still waits is discarded by the
release that ends in OPEN (R107; log 37). -/
def ckuReset (b : Blocks) : Blocks :=
  match b.cku.state with
  | .fault =>
    if b.inputs.tdc then
      ckuRelease (flapClose (setCku (fun c => { c with fault := none, contactDetail := none, resetting := true, resetReleased := false }) b))
    else
      raise .knife (setCku (fun c => { c with state := .knifeReturnNeeded, fault := none, contactDetail := none }) b)
  | .open_ =>
    if b.inputs.upperStop = true ∧ b.cku.flap = .closed then b
    else ckuRelease (flapClose (setCku (fun c => { c with resetting := true, resetReleased := false }) b))
  | _ => b

/-- The part of a UNIT_RESET of CKU moves something (R174). -/
def ckuResetMoves (b : Blocks) : Bool := b.cku.resetting

/-- CKU after start-up, but for its knife record (R108). The last manual outcome is dropped, the model's choice (log 89). -/
def ckuStart (b : Blocks) : Blocks :=
  setCku (fun _ =>
    { Cku.atReset with state := if b.inputs.tdc then .open_ else .knifeReturnNeeded,
                       flap := if b.inputs.flapClosedSw then .closed else .opened }) b

/-- The knife record loaded at start-up, or the defaults with the unstored mark (R108, R128). -/
def ckuLoad (record : Option KnifeRecord) (b : Blocks) : Blocks :=
  judgeWear (setCku (fun c =>
    { c with knife := record.getD KnifeRecord.default, unstored := record.isNone,
             lastStored := (record.getD KnifeRecord.default).C, storeDeferred := false }) b)

end Sys2Proof.Machine
end

