-- ==== Sys2Proof/Machine/Turner.lean ====
section
/-! DEFINITION. The Pile Turner's own operations (chapter 07): the beginning of a turn, the release, the rest, entering
FAULT, the reset, start-up and the status. What SEQ does with an outcome stands in Holds.lean and Sequencer.lean. -/

namespace Sys2Proof.Machine

open Sys2Proof

/-- A turn begins: the turn record, GRIPPING, the grip time (R134). The turner leaves PARKED, which a transfer watches (R162). -/
def trnBegin (asker : TurnAsker) (quarters : Nat) (b : Blocks) : Blocks :=
  jogWatch (setTrn (fun t =>
    { t with state := .gripping, pending := none, deadline := after b Config.gripMs,
             record := some { asker := asker, requested := quarters, done := 0, restAsked := false, since := b.clock } }) b)

/-- RELEASING: the arms are driven open, with the release time; an arms-open switch covered already does not end it, the
model's choice (R136; log 55). -/
def trnRelease (b : Blocks) : Blocks :=
  setTrn (fun t =>
    { t with state := .releasing, carrying := false, deadline := after b Config.armsMs,
             record := t.record.map fun r => { r with since := b.clock } }) b

/-- The asker of the turn in progress. -/
def turnAsker (b : Blocks) : Option TurnAsker := b.trn.record.map (·.asker)

/-- The rest asked mark of the turn record set (R139). -/
def turnAskRest (b : Blocks) : Blocks :=
  setTrn (fun t => { t with record := t.record.map fun r => { r with restAsked := true } }) b

/-- A turn is brought to rest (R139). Arms that have not yet left their open switch still wait for it to cover, or time out
(the model's choice, log 55). -/
def turnToRest (b : Blocks) : Blocks :=
  match b.trn.state with
  | .gripping => trnRelease (turnAskRest b)
  | .turning | .releasing => turnAskRest b
  | .parked | .fault => b

/-- SEQ asks TRN for rest: the pending turn is void, and a turn of SEQ is brought to rest (R139). -/
def trnRest (b : Blocks) : Blocks :=
  let b1 := setTrn (fun t => { t with pending := none }) b
  if turnAsker b = some .seq then turnToRest b1 else b1

/-- The cell mode leaves SETUP: a TURN_MANUAL is brought to rest (R139, R168). -/
def trnModeRest (b : Blocks) : Blocks := if turnAsker b = some .terminal then turnToRest b else b

/-- A turn parks: PARKED, the record discarded, what it did kept readable; notice CELL for a manual turn and a reset (R136, R140 to R142). -/
def trnPark (b : Blocks) : Blocks :=
  raiseIf (turnAsker b == some .terminal || b.trn.resetting) .cell
    (setTrn (fun t =>
      { t with state := .parked, record := none, resetting := false, carrying := false, deadline := none,
               lastTurn := match t.record with | some r => some ⟨r.done, .parked⟩ | none => t.lastTurn }) b)

/-- TRN enters FAULT; in FAULT the first code stays. From TURNING the orientation is lost; from PARKED the gauge and a
transfer lose their condition; the arms keep the grip they had, which only TURNING holds (log 72); notice CELL (R60, R93,
R137, R138, R162). The interlock stop of a move under way is made here, before the hold that trnFaults raises: the model's
choice (log 80). -/
def trnEnterFault (code : TrnFault) (b : Blocks) : Blocks :=
  if b.trn.state = .fault then b
  else
    let b1 := if b.trn.state = .turning then orientationLost b else b
    let b2 := setTrn (fun t =>
      { t with state := .fault, fault := some code, record := none, pending := none, resetting := false, carrying := false,
               gripKept := t.state == .turning, deadline := none,
               lastTurn := match t.record with | some r => some ⟨r.done, .fault⟩ | none => t.lastTurn }) b1
    jogWatch (gaxInterlock (raise .cell b2))

/-- TRN's part of a UNIT_RESET has its conditions (R140). -/
def trnResetAllowed (b : Blocks) : Bool := chainOk b && b.inputs.upperStop && b.inputs.tdc

/-- The arms are open: PARKED at a quarter position; with the head between two of them the empty head of a reset is
carried on (R136, R140). While it is carried on, an arms-open switch that covers again parks nothing, the model's choice
(log 64). -/
def armsAreOpen (b : Blocks) : Blocks :=
  if b.trn.state ≠ .releasing ∨ b.trn.carrying = true then b
  else if b.inputs.quarter then trnPark b
  else if b.trn.resetting then
    setTrn (fun t => { t with carrying := true, deadline := after b Config.quarterMs }) b
  else b

/-- TRN's part of a UNIT_RESET (R140): a faulted turner drives its arms open; with the arms open already it goes on from
there. -/
def trnReset (b : Blocks) : Blocks :=
  if b.trn.state ≠ .fault then b
  else
    let b1 := trnRelease (setTrn (fun t => { t with fault := none, resetting := true, gripKept := false }) b)
    if b.inputs.armsOpen then armsAreOpen b1 else b1

/-- The arms hold a block with their grip force: in TURNING, and in FAULT where it was kept (R131, R138). -/
def gripHeld (t : Trn) : Bool := t.state == .turning || (t.state == .fault && t.gripKept)

/-- TRN after start-up; a turn in progress at a RESTART is stopped where it stands, with the grip it had (R131, R138; log 72).
The last turn is dropped, the model's choice (log 89). -/
def trnStart (b : Blocks) : Blocks :=
  setTrn (fun t =>
    if b.inputs.armsOpen && b.inputs.quarter then Trn.atReset
    else { Trn.atReset with state := .fault, fault := some .positionLost, gripKept := gripHeld t }) b

/-- TRN's status handed to MSU for CELL_STATUS and for notice CELL (R142). -/
def turnerStatus (b : Blocks) : TurnerStatus :=
  { state := b.trn.state, fault := b.trn.fault, armsOpen := b.inputs.armsOpen, gripClosed := b.inputs.gripClosed,
    quarter := b.inputs.quarter, pending := b.trn.pending, record := b.trn.record, lastTurn := b.trn.lastTurn }

end Sys2Proof.Machine
end

