-- ==== Sys2Proof/Machine/Holds.lean ====
section
/-! DEFINITION. The hold (section 2.9): what SEQ records of a cause, the units' rest, and the faults of the units as hold
causes (R41 to R44). -/

namespace Sys2Proof.Machine

open Sys2Proof

/-- A cause reaches SEQ in RUNNING: HELD, the hold record filled (R42). -/
def enterHeld (cause : HoldCause) (b : Blocks) : Blocks :=
  raise .sequence (raise .hold (setSeq (fun q =>
    { q with state := .held,
             hold := { cause := some cause, more := false, loc := some q.run.loc, phase := q.run.phase,
                       depth := q.stack.length, holds := q.hold.holds + 1 } }) b))

/-- A cause reaches SEQ in HELD: the more-causes flag (R44). -/
def furtherCause (b : Blocks) : Blocks :=
  raise .hold (setSeq (fun q => { q with hold := { q.hold with more := true } }) b)

/-- The location advances by k, with phase NONE and no wait (R4, R22). -/
def advanceBy (k : Nat) (b : Blocks) : Blocks :=
  setRun (fun r => { r with loc := ⟨r.loc.prog, r.loc.index + k⟩, phase := .none, wait := .none }) b

/-- The clamp at its upper stop, in HELD: the release of a cut that reached BDC completes its repeat (R44). -/
def heldRelease (b : Blocks) : Blocks :=
  if b.seq.state = .held ∧ (b.seq.run.phase = .returning ∨ b.seq.run.phase = .release) then
    let b1 := setRun (fun r => { r with cutsLeft := r.cutsLeft - 1 }) b
    if b.seq.run.cutsLeft - 1 = 0 then setRun (fun r => { r with loc := ⟨r.loc.prog, r.loc.index + 1⟩, phase := .none }) b1
    else setRun (fun r => { r with phase := .compute }) b1
  else b

/-- CKU's part of a hold or an abort; a release that ends at once is reported to SEQ (R43, R122). -/
def ckuToRest (b : Blocks) : Blocks :=
  let b1 := ckuRest b
  if b.cku.state ≠ .open_ ∧ b1.cku.state = .open_ then heldRelease b1 else b1

/-- The units bring SEQ's work in flight to rest (R43). -/
def unitsToRest (b : Blocks) : Blocks := trnRest (ckuToRest (gaxRest b))

/-- A hold cause reaches SEQ (R41, R42, R44). -/
def holdCause (cause : HoldCause) (b : Blocks) : Blocks :=
  match b.seq.state with
  | .running => unitsToRest (enterHeld cause b)
  | .held => furtherCause b
  | _ => b

/-- Hold cause ESTOP: each unit is brought to rest by its own e-stop rule (R43). -/
def holdEstop (b : Blocks) : Blocks :=
  match b.seq.state with
  | .running => enterHeld .estop b
  | .held => furtherCause b
  | _ => b

/-- A fault of GAX, with its hold cause when FAULT is entered (R41, R102). That a LIMIT_SWITCH or DRIVE_FAULT that takes the
place of a timeout code in FAULT is no further hold cause is the model's choice (log 85). -/
def gaxFaults (code : GaxFault) (b : Blocks) : Blocks :=
  if b.gax.state = .fault then gaxEnterFault code b else holdCause .gaugeFault (gaxEnterFault code b)

/-- A fault of CKU, with its hold cause when FAULT is entered; a manual cut reports it in the notice alone (R120). That a
further fault event in FAULT is in the notice alone too, and no further hold cause, is the model's choice (log 81). -/
def ckuFaults (code : CkuFault) (b : Blocks) : Blocks :=
  if b.cku.state = .fault ∨ manualCycle b = true then ckuEnterFault code b else holdCause .knifeFault (ckuEnterFault code b)

/-- A fault of TRN, with its hold cause when FAULT is entered (R138). The hold comes after the interlock stop that a
POSITION_LOST makes of a move under way, the model's choice (log 80); so is that a further fault event in FAULT is no
further hold cause (log 85). -/
def trnFaults (code : TrnFault) (b : Blocks) : Blocks :=
  if b.trn.state = .fault then b else holdCause .turnerFault (trnEnterFault code b)

/-- A reversal with the report to SEQ: the faults of PRESSURE and STROKE_TIME are recorded at the reversal, and a curtain
break in GUARDED_AUTO is hold cause LIGHT_CURTAIN (R116, R120). -/
def ckuReverses (cause : ReversalCause) (b : Blocks) : Blocks :=
  let b1 := reverse cause b
  let faulted (code : CkuFault) : Blocks :=
    let b2 := raise .knife (setCku (fun c => { c with fault := some code }) b1)
    if manualCycle b then b2 else holdCause .knifeFault b2
  match cause with
  | .pressure => faulted .pressureLost
  | .strokeTime => faulted .strokeTimeout
  | .curtain => if b.inputs.permitKey = .guardedAuto ∧ manualCycle b = false then holdCause .lightCurtain b1 else b1
  | _ => b1

end Sys2Proof.Machine
end

