-- ==== Sys2Proof/Machine/Library.lean ====
section
/-! DEFINITION. The Job Library's own operations (chapter 11): sections and records, the scan and the index, placing a
record, entering CLOSED, the knife record's store, compaction, the erase of all, and start-up. -/

namespace Sys2Proof.Machine

open Sys2Proof

/-! ## Sections and records (R177) -/

/-- The bytes a record of a body length occupies: 12 and the body padded to a multiple of 4 (R177). -/
def recordSize (bodyLength : Nat) : Nat := 12 + (bodyLength + 3) / 4 * 4

/-- The bytes a slot occupies; after an inconsistent length the room counts as used (R177, R179). -/
def Slot.size : Slot → Nat
  | .valid r => recordSize r.body.length
  | .damaged n => n
  | .torn => Config.sectionRoom

/-- The room used in a section. -/
def usedRoom (slots : List Slot) : Nat := min Config.sectionRoom ((slots.map Slot.size).foldl (· + ·) 0)

/-- The section is erased. -/
def Section.isErased : Section → Bool
  | .erased => true
  | _ => false

/-- The section is bad. -/
def Section.isBad : Section → Bool
  | .bad => true
  | _ => false

/-- The order number of a begun section. -/
def Section.order : Section → Option Nat
  | .begun n _ => some n
  | _ => none

/-- The slots of a begun section. -/
def Section.slots : Section → List Slot
  | .begun _ l => l
  | _ => []

/-- The sections erased. -/
def erasedCount (flash : List Section) : Nat := (flash.filter Section.isErased).length

/-- The sections in use: begun or bad (R177). -/
def inUseCount (flash : List Section) : Nat := (flash.filter fun c => !c.isErased).length

/-- A begun section put in its place by order number. -/
def insertByOrder (x : Nat × Nat) : List (Nat × Nat) → List (Nat × Nat)
  | [] => [x]
  | y :: rest => if x.1 ≤ y.1 then x :: y :: rest else y :: insertByOrder x rest

/-- The begun sections with their order numbers, by rising order number. -/
def begunSections (flash : List Section) : List (Nat × Nat) :=
  (flash.zipIdx.filterMap fun p => p.1.order.map fun n => (n, p.2)).foldr insertByOrder []

/-- The open section: the begun section of highest order number (R177). -/
def openSection (flash : List Section) : Option Nat := ((begunSections flash).getLast?).map (·.2)

/-- The highest order number in use, 0 with no begun section. -/
def highestOrder (flash : List Section) : Nat := (((begunSections flash).getLast?).map (·.1)).getD 0

/-- The next erased section in section number order after the open one, going from 95 back to 0; from section 0 with no
open section (R177). With no section begun and section 0 bad it is the first erased one counted from 0, the model's choice
(log 83). -/
def nextErased (flash : List Section) : Option Nat :=
  let first := match openSection flash with | some i => i + 1 | none => 0
  ((List.range Config.sections).map fun k => (first + k) % Config.sections).find? fun i =>
    (flash[i]?.map Section.isErased).getD false

/-- The slots of a section by its number. -/
def slotsAt (flash : List Section) (i : Nat) : List Slot := (flash[i]?.map Section.slots).getD []

/-- A slot appended to a section. -/
def appendSlot (flash : List Section) (i : Nat) (x : Slot) : List Section :=
  flash.modify i fun c => match c with | .begun n l => .begun n (l ++ [x]) | c => c

/-! ## The scan and the index (R178, R179) -/

/-- The records of a section with their places; the scan of a section ends at an inconsistent length (R179). -/
def sectionRecords (sect : Nat) : Nat → List Slot → List (Place × Rec)
  | _, [] => []
  | i, .valid r :: rest => (⟨sect, i⟩, r) :: sectionRecords sect (i + 1) rest
  | i, .damaged _ :: rest => sectionRecords sect (i + 1) rest
  | _, .torn :: _ => []

/-- The damaged records the scan of a section skips (R179). -/
def sectionDamaged : List Slot → Nat
  | [] => 0
  | .valid _ :: rest => sectionDamaged rest
  | .damaged _ :: rest => sectionDamaged rest + 1
  | .torn :: _ => 0

/-- Every valid record with its place, by rising order number of its section. -/
def allRecords (flash : List Section) : List (Place × Rec) :=
  (begunSections flash).flatMap fun p => sectionRecords p.2 0 (slotsAt flash p.2)

/-- A record enters the index: the highest sequence number of its kind and key is current; of equal ones the later read
serves (R178, log 17). -/
def indexInsert (index : List IndexEntry) (place : Place) (r : Rec) : List IndexEntry :=
  let e : IndexEntry := ⟨r.kind, r.key, r.seq, place⟩
  match index with
  | [] => [e]
  | x :: rest =>
    if x.kind = r.kind ∧ x.key = r.key then (if x.seq ≤ r.seq then e :: rest else x :: rest)
    else x :: indexInsert rest place r

/-- The index of current JOB, SUB, STOCK and KNIFE records (R178). -/
def buildIndex (records : List (Place × Rec)) : List IndexEntry :=
  records.foldl (fun ix p => if p.2.kind = .corr then ix else indexInsert ix p.1 p.2) []

/-- The range of points of a CORR record: its start and its count (chapter 11, head). -/
def corrRange (r : Rec) : Nat × Nat := (r.key, (decodeCorr r.body).length)

/-- The record supplies point j. -/
def corrCovers (r : Rec) (j : Nat) : Bool := decide ((corrRange r).1 ≤ j) && decide (j < (corrRange r).1 + (corrRange r).2)

/-- The place of the CORR record of highest sequence number that covers point j (R178). -/
def corrSource (records : List (Place × Rec)) (j : Nat) : Option Place :=
  (records.foldl (fun (best : Option (Nat × Place)) p =>
    if p.2.kind = .corr && corrCovers p.2 j then
      match best with
      | some (n, _) => if n ≤ p.2.seq then some (p.2.seq, p.1) else best
      | none => some (p.2.seq, p.1)
    else best) none).map (·.2)

/-- The place of the record that supplies each of the 232 points. -/
def buildCorrIndex (records : List (Place × Rec)) : List (Option Place) :=
  let corrs := records.filter fun p => p.2.kind == .corr
  (List.range Config.corrPoints).map (corrSource corrs)

/-- The index made from the flash (R179). -/
def reindex (l : Lib) : Lib :=
  { l with index := buildIndex (allRecords l.flash), corrIndex := buildCorrIndex (allRecords l.flash) }

/-- The record at a place. -/
def recordAt (l : Lib) (p : Place) : Option Rec :=
  match (slotsAt l.flash p.sect)[p.pos]? with
  | some (.valid r) => some r
  | _ => none

/-- The current record of a kind and key, a tombstone included (R178). -/
def currentRecord (l : Lib) (kind : RecKind) (key : Nat) : Option Rec :=
  match l.index.find? fun e => e.kind == kind && e.key == key with
  | some e => recordAt l e.place
  | none => none

/-- The current record of an item that is not absent (R178). -/
def currentItem (l : Lib) (kind : RecKind) (key : Nat) : Option Rec :=
  match currentRecord l kind key with
  | some r => if r.body = [] then none else some r
  | none => none

/-- The current value of a correction point (R178). -/
def currentPoint (l : Lib) (j : Nat) : Option Int :=
  match (l.corrIndex[j]?).join with
  | some p => match recordAt l p with | some r => ((decodeCorr r.body)[j - r.key]?).join | none => none
  | none => none

/-- The current values of the 232 points (R104). -/
def currentPoints (l : Lib) : List (Option Int) := (List.range Config.corrPoints).map (currentPoint l)

/-- The highest sequence number found, 0 with none. -/
def highestSeq (records : List (Place × Rec)) : Nat := records.foldl (fun n p => max n p.2.seq) 0

/-! ## Entering CLOSED (R186) -/

/-- The library's last event; notice LIBRARY (R187). -/
def libEvent (e : LibEvent) (b : Blocks) : Blocks := raise .library (setLib (fun l => { l with lastEvent := some e }) b)

/-- A store that was deferred fails when the library closes (R128). -/
def deferredStoreFails (b : Blocks) : Blocks :=
  if b.cku.storeDeferred then raise .knife (setCku (fun c => { c with storeDeferred := false, unstored := true }) b) else b

/-- LIB enters CLOSED (R186). -/
def libClose (why : LibFailure) (b : Blocks) : Blocks :=
  deferredStoreFails (libEvent .closed (setLib (fun l =>
    { l with state := .closed, work := none, staging := none, failure := some why, deadline := none }) b))

/-- A free value is taken (log 14, log 31, log 36). -/
def nextFree (b : Blocks) : Blocks := { b with freeIndex := b.freeIndex + 1 }

/-! ## Placing a record (R180) -/

/-- What an attempt on the flash gives. -/
inductive Placed where
  | done
  | failed
deriving DecidableEq, Repr

/-- What a failed programming leaves in the section: a free value (log 14). -/
def failedSlot (r : Rec) : Config.FailedProgram → Option Slot
  | .nothing => none
  | .damaged => some (.damaged (recordSize r.body.length))
  | .torn => some .torn
  | .whole => some (.valid r)

/-- A record is programmed into a section; a failure of the flash makes LIB CLOSED, with the index as it was (R180, R186). -/
def programRecord (i : Nat) (r : Rec) (b : Blocks) : Blocks × Placed :=
  if b.inputs.programFails then
    let left := failedSlot r (Config.failedProgram b.freeIndex)
    (libClose .program (nextFree (setLib (fun l =>
      { l with flash := match left with | some x => appendSlot l.flash i x | none => l.flash }) b)), .failed)
  else (setLib (fun l => reindex { l with flash := appendSlot l.flash i (.valid r) }) b, .done)

/-- What a failed beginning leaves in the section: a free value (log 14). -/
def failedSection (order : Nat) : Config.FailedBegin → Section
  | .erased => .erased
  | .bad => .bad
  | .begun => .begun order []

/-- The next erased section is begun; an order number that would pass the highest, no erased section, and a failure of the
flash are failures to begin (R177, R186). -/
def beginSection (b : Blocks) : Blocks × Option Nat :=
  let order := highestOrder b.lib.flash + 1
  match nextErased b.lib.flash with
  | none => (libClose .beginSection b, none)
  | some i =>
    if Config.maxOrder < order then (libClose .beginSection b, none)
    else if b.inputs.beginFails then
      (libClose .beginSection (nextFree (setLib (fun l =>
        { l with flash := l.flash.set i (failedSection order (Config.failedBegin b.freeIndex)) }) b)), none)
    else (setLib (fun l => { l with flash := l.flash.set i (.begun order []) }) b, some i)

/-- The room left in the open section (R177); with no open section it is shown as 0, the model's choice (log 46). -/
def roomLeft (l : Lib) : Nat :=
  match openSection l.flash with
  | some i => Config.sectionRoom - usedRoom (slotsAt l.flash i)
  | none => 0

/-- A record with the next sequence number is programmed into the open section, or into the next one begun; LIBRARY_FULL
leaves everything as it was but for the notice (R180, steps 2 to 4). -/
def programNext (kind : RecKind) (key : Nat) (body : List Byte) (b : Blocks) : Blocks × Status :=
  let r : Rec := ⟨kind, key, b.lib.nextSeq, body⟩
  let finish (p : Blocks × Placed) : Blocks × Status :=
    match p.2 with
    | .done => (setLib (fun l => { l with nextSeq := l.nextSeq + 1 }) p.1, .ok)
    | .failed => (p.1, .libraryClosed)
  if Config.maxOrder < b.lib.nextSeq then (libEvent .libraryFull b, .libraryFull)
  else
    match openSection b.lib.flash with
    | some i =>
      if recordSize body.length ≤ roomLeft b.lib then finish (programRecord i r b)
      else if erasedCount b.lib.flash < 2 then (libEvent .libraryFull b, .libraryFull)
      else
        match beginSection b with
        | (b1, some i) => finish (programRecord i r b1)
        | (b1, none) => (b1, .libraryClosed)
    | none =>
      if erasedCount b.lib.flash < 2 then (libEvent .libraryFull b, .libraryFull)
      else
        match beginSection b with
        | (b1, some i) => finish (programRecord i r b1)
        | (b1, none) => (b1, .libraryClosed)

/-- A write placed by R180, with the comparison of its first step. -/
def placeRecord (kind : RecKind) (key : Nat) (body : List Byte) (b : Blocks) : Blocks × Status :=
  match currentRecord b.lib kind key with
  | some r => if r.body = body then (b, .unchanged) else programNext kind key body b
  | none => programNext kind key body b

/-- CKU stores the working copy of its knife record (R128, R184). -/
def ckuStore (b : Blocks) : Blocks :=
  let failed (b : Blocks) : Blocks := raise .knife (setCku (fun c => { c with unstored := true }) b)
  match b.lib.state with
  | .compacting => setCku (fun c => { c with storeDeferred := true }) b
  | .closed => failed b
  | .opened =>
    match placeRecord .knife 0 b.cku.knife.encode b with
    | (b1, .ok) | (b1, .unchanged) => setCku (fun c => { c with unstored := false, lastStored := c.knife.C }) b1
    | (b1, _) => failed b1

/-- The store after a BDC: made when C is a whole multiple of 250 (R128). -/
def storeIfDue (b : Blocks) : Blocks := if b.cku.knife.C % 250 = 0 then ckuStore b else b

/-- LIB's part of start-up has ended: GAX fills its table and CKU loads its record (R175 step 3, R104, R128).
That the filling raises no notice GAUGE is the model's choice (log 93). -/
def libReady (b : Blocks) : Blocks :=
  if b.msu.phase = .waitLibrary then
    let record := if b.lib.state = .closed then none
      else (currentItem b.lib .knife 0).bind fun r => decodeKnife r.body
    ckuLoad record (setGax (fun g => { g with table := currentPoints b.lib })
      (setMsu (fun m => { m with phase := .statesTaken }) b))
  else b

/-! ## Compaction (R185) -/

/-- Another record of the kind and key lies in a section that is neither erased nor this one (R185). -/
def liesElsewhere (flash : List Section) (sect : Nat) (r : Rec) : Bool :=
  (allRecords flash).any fun p => p.1.sect != sect && p.2.kind == r.kind && p.2.key == r.key

/-- A record at a place is live (R185). -/
def isLive (l : Lib) (p : Place × Rec) : Bool :=
  if p.2.kind = .corr then l.corrIndex.any fun q => q == some p.1
  else
    match l.index.find? fun e => e.kind == p.2.kind && e.key == p.2.key with
    | some e => e.place == p.1 && (p.2.body != [] || liesElsewhere l.flash p.1.sect p.2)
    | none => false

/-- One record is copied to the destination, a new one begun where it does not fit (R185). -/
def copyRecord (r : Rec) (dest : Option Nat) (b : Blocks) : Blocks × Option Nat :=
  let fits := match dest with
    | some i => decide (recordSize r.body.length ≤ Config.sectionRoom - usedRoom (slotsAt b.lib.flash i))
    | none => false
  match if fits then (b, dest) else beginSection b with
  | (b1, some i) => match programRecord i r b1 with | (b2, .done) => (b2, some i) | (b2, .failed) => (b2, none)
  | (b1, none) => (b1, none)

/-- The live records of a source are copied in their order; the copying ends where the library closes (R185, R186). -/
def copyLive : List (Place × Rec) → Option Nat → Blocks → Blocks × Option Nat
  | [], dest, b => (b, dest)
  | p :: rest, dest, b =>
    if isLive b.lib p then
      match copyRecord p.2 dest b with
      | (b1, some i) => copyLive rest (some i) b1
      | (b1, none) => (b1, none)
    else copyLive rest dest b

/-- A section's erase begins; it takes 40 ms (R177). -/
def beginErase (b : Blocks) : Blocks := setLib (fun l => { l with deadline := after b Config.eraseMs }) b

/-- The sources of a compaction: the bad sections by rising section number, then the begun sections by rising order number
(R177, R185); the place and order of the bad ones are the model's choice (log 16). -/
def compactionSources (flash : List Section) : List Nat :=
  (flash.zipIdx.filterMap fun p => if p.1.isBad then some p.2 else none) ++ (begunSections flash).map (·.2)

/-- One source is taken: its live records are copied, and its erase begins (R185). -/
def takeSource (src : Nat) (rest : List Nat) (dest : Option Nat) (done total : Nat) (b : Blocks) : Blocks :=
  match copyLive (sectionRecords src 0 (slotsAt b.lib.flash src)) dest b with
  | (b1, dest') =>
    if b1.lib.state = .closed then libReady b1
    else beginErase (setLib (fun l => { l with work := some (.compact src rest dest' done total) }) b1)

/-- The deferred store of the knife record is made (R128). -/
def deferredStore (b : Blocks) : Blocks :=
  if b.cku.storeDeferred ∧ b.lib.state ≠ .compacting then
    ckuStore (setCku (fun c => { c with storeDeferred := false }) b)
  else b

/-- A staging's 10 s begin in full (R182). -/
def renewStaging (now : Ms) (l : Lib) : Lib := { l with staging := l.staging.map fun s => { s with since := now } }

/-- A compaction ends: OPEN, the damaged count 0, the staging's 10 s begin again, notice LIBRARY (R185). CKU's deferred
store is its own step (log 6). -/
def endCompaction (b : Blocks) : Blocks :=
  libReady (libEvent .compactionEnded (setLib (fun l =>
    renewStaging b.clock { l with state := .opened, work := none, damaged := 0, failure := none, deadline := none }) b))

/-- A compaction begins (R185): notice LIBRARY, and the first source is taken; with no source it ends at once. -/
def beginCompaction (b : Blocks) : Blocks :=
  let b1 := libEvent .compactionBegun (setLib (fun l => { l with state := .compacting }) b)
  match compactionSources b.lib.flash with
  | [] => endCompaction b1
  | src :: rest => takeSource src rest none 0 (rest.length + 1) b1

/-- A section is spent: each of its valid records is not live or has an equal copy in another section (R179). -/
def isSpent (l : Lib) (sect : Nat) : Bool :=
  (sectionRecords sect 0 (slotsAt l.flash sect)).all fun p =>
    !isLive l p || (allRecords l.flash).any fun q => q.1.sect != sect && q.2 == p.2

/-- The next spent section, in the order of a compaction's sources and judged afresh after each erase (R179): the model's choice
(log 69). -/
def nextSpent (l : Lib) : Option Nat := (compactionSources l.flash).find? (isSpent l)

/-- LIB after the scan and the erase of spent sections: at power-on above 72 sections in use it compacts (R179). -/
def afterSpent (powerOn : Bool) (b : Blocks) : Blocks :=
  let b1 := setLib (fun l => { l with state := .opened, work := none, deadline := none }) b
  if powerOn ∧ 72 < inUseCount b.lib.flash then beginCompaction b1 else libReady b1

/-- The spent sections are erased one after the other (R179). -/
def eraseSpent (powerOn : Bool) (b : Blocks) : Blocks :=
  match nextSpent b.lib with
  | some i => beginErase (setLib (fun l => { l with state := .compacting, work := some (.spent i powerOn) }) b)
  | none => afterSpent powerOn b

/-- What an erase that failed or was interrupted leaves in its section: a free value (log 14, log 31). -/
def failedEraseOf (c : Section) : Config.FailedErase → Section
  | .unchanged => c
  | .bad => .bad
  | .erased => .erased

/-- The section whose erase is under way. -/
def eraseTarget : LibWork → Nat
  | .spent i _ => i
  | .compact i _ _ _ _ => i
  | .eraseAll i => i

/-- A section whose erase failed or was interrupted. -/
def spoilSection (i : Nat) (b : Blocks) : Blocks :=
  nextFree (setLib (fun l => { l with flash := l.flash.modify i fun c => failedEraseOf c (Config.failedErase b.freeIndex) }) b)

/-- An erase under way when start-up begins is interrupted (log 31). -/
def interruptErase (b : Blocks) : Blocks :=
  match b.lib.work with
  | some w => spoilSection (eraseTarget w) b
  | none => b

/-- The damaged records of the whole flash (R179). -/
def scanDamaged (flash : List Section) : Nat := (flash.map fun c => sectionDamaged c.slots).foldl (· + ·) 0

/-- LIB at start-up: the scan, then, with no erased section, the erase of the spent sections, then the compaction of
power-on (R179). The last library event is dropped, the model's choice (log 89). -/
def libStart (powerOn : Bool) (b : Blocks) : Blocks :=
  let b0 := interruptErase b
  let b1 := setLib (fun l =>
    reindex { Lib.atReset with flash := l.flash, nextSeq := highestSeq (allRecords l.flash) + 1,
                               damaged := scanDamaged l.flash }) b0
  if erasedCount b1.lib.flash = 0 then eraseSpent powerOn b1 else afterSpent powerOn b1

/-! ## The end of an erase (R185, R186) -/

/-- The working table of GAX becomes all INVALID, a staging's 10 s begin in full, CKU stores, notice LIBRARY: the end of a
LIB_ERASE (R182, R186). -/
def endEraseAll (b : Blocks) : Blocks :=
  let b1 := setLib (fun l => renewStaging b.clock
    { l with state := .opened, work := none, nextSeq := 1, damaged := 0, failure := none, deadline := none }) b
  libEvent .eraseEnded (ckuStore (setCku (fun c => { c with storeDeferred := false }) (gaxTable allInvalid b1)))

/-- One section more is erased, and the work goes on or ends (R179, R185, R186). A LIB_ERASE goes on with the next section
number, the model's choice (log 84). -/
def sectionErased (w : LibWork) (b : Blocks) : Blocks :=
  let b1 := setLib (fun l => reindex { l with flash := l.flash.set (eraseTarget w) .erased, deadline := none }) b
  match w with
  | .spent _ powerOn => eraseSpent powerOn b1
  | .compact _ [] _ _ _ => endCompaction b1
  | .compact _ (src :: rest) dest done total => takeSource src rest dest (done + 1) total b1
  | .eraseAll i =>
    if i + 1 = Config.sections then endEraseAll b1
    else beginErase (setLib (fun l => { l with work := some (.eraseAll (i + 1)) }) b1)

/-- The flash fails to erase the section under way: LIB is CLOSED, with the index of the valid records that are left, so that an
equal copy in another section serves (R178, R186). -/
def eraseFailed (w : LibWork) (b : Blocks) : Blocks := libClose .erase (setLib reindex (spoilSection (eraseTarget w) b))

/-- The erase of the section under way ends: it has succeeded, or the flash failed (R177, R186). A library closed in start-up
ends its part of it (R179). -/
def eraseDone (w : LibWork) (b : Blocks) : Blocks :=
  if b.inputs.eraseFails then libReady (eraseFailed w b) else sectionErased w b

end Sys2Proof.Machine
end

