-- ==== Sys2Proof/Machine/Sequencer.lean ====
section
/-! DEFINITION. The Program Sequencer (chapter 02): what it asks of GAX, CKU and TRN, the taking of each kind of step, and
what it does at each report of a unit. -/

namespace Sys2Proof.Machine

open Sys2Proof

/-! ## What SEQ asks of the units -/

/-- SEQ asks GAX for a move (R92, R97): begun, pending, or failed with hold cause GAUGE_FAULT. Asked while the commanded stop
of a move of its own that is already void still runs, it becomes pending, the model's choice (log 58). -/
def askMove (kind : MoveKind) (p : Um) (b : Blocks) : Blocks :=
  let waits (b : Blocks) : Blocks := setGax (fun g => { g with pending := some ⟨kind, p⟩ }) b
  match b.gax.state with
  | .unreferenced | .homing | .fault => holdCause .gaugeFault b
  | .standstill =>
    match startingPosition b with
    | some start => if moveConditions b then gaxBegin kind .seq p false start b else waits b
    | none => waits b
  | .moving | .settling =>
    if moveInFlight b ∧ moveAsker b = some .seq then waits (gaxStop b) else waits b

/-- SEQ asks CKU to clamp (R110): a request not taken fails with hold cause KNIFE_FAULT. -/
def askClamp (target : Nat) (waste : Bool) (b : Blocks) : Blocks :=
  if clampRequestTaken b then makeCycle .seq target waste false b else holdCause .knifeFault b

/-- SEQ asks TRN for a turn (R133): begun, pending, or failed. -/
def askTurn (quarters : Nat) (b : Blocks) : Blocks :=
  let waits (b : Blocks) : Blocks := setTrn (fun t => { t with pending := some quarters }) b
  match b.trn.state with
  | .parked =>
    if !envelopeMet b then holdCause .turnEnvelope b
    else if turnConditions b then trnBegin .seq quarters b else waits b
  | .releasing => if !envelopeMet b then holdCause .turnEnvelope b else waits b
  | .gripping | .turning | .fault => holdCause .turnerFault b

/-! ## The running record -/

/-- The phase of the step, with the wait reason it sets (R22, R27). -/
def enterPhase (p : Phase) (w : WaitReason) (b : Blocks) : Blocks := setRun (fun r => { r with phase := p, wait := w }) b

/-- A wait reason whose setting raises notice SEQUENCE (R27, R50). -/
def waitFor (w : WaitReason) (b : Blocks) : Blocks := raise .sequence (setRun (fun r => { r with wait := w }) b)

/-- The block's nominal depth as a base; with no block the manual names no value: a free value (log 36). -/
def baseNow (b : Blocks) : Um :=
  match b.trk.block with
  | some k => k.nomDepth
  | none => Config.freeBase b.freeIndex

/-- The free value of a base, taken with no block, is used up (log 36). -/
def baseTaken (b : Blocks) : Blocks := if b.trk.block.isSome then b else nextFree b

/-- The base in force set to the block's nominal depth: the top frame's, or the main base (R34, R39). -/
def setBaseInForce (b : Blocks) : Blocks :=
  baseTaken (setSeq (fun q =>
    match q.stack with
    | [] => { q with run := { q.run with mainBase := baseNow b } }
    | f :: rest => { q with stack := { f with base := baseNow b } :: rest }) b)

/-! ## CUT -/

/-- Stages 1 to 4 of the target of a CUT, with TRK's check, in the order of R73: the target, or the hold cause. -/
def cutTarget (mode : CutMode) (dim : Um) (b : Blocks) : HoldCause ⊕ CutTarget :=
  match b.trk.block, b.seq.snapshot with
  | some k, some snap =>
    let n := nominalTarget mode dim k.nomDepth (baseInForce b)
    if n < 1 ∨ k.nomDepth ≤ n then .inl .dimensionRange
    else
      match k.orientation with
      | none => .inl .orientationUnknown
      | some o =>
        let s := stretched n (stretchFor snap.stock o)
        if s < Config.travelFront ∨ k.strDepth ≤ s then .inl .dimensionRange
        else
          let p := s + snap.stock.squeeze + knifeTermOf b.cku.knife
          if inTravel p then .inr ⟨n, s, p⟩ else .inl .dimensionRange
  | _, _ => .inl .dimensionRange

/-- The queue has room for the strip of a cut (R8, R28). -/
def roomForStrip (waste : Bool) (b : Blocks) : Bool :=
  if waste then b.trk.queue.isEmpty else decide (b.trk.queue.length < Config.maxPieces)

/-- COMPUTE of a CUT: hold, wait FRONT_CLEAR, or POSITION (R28, R29). -/
def computeCut (mode : CutMode) (waste : Bool) (dim : Um) (b : Blocks) : Blocks :=
  let b1 := enterPhase .compute .none b
  match cutTarget mode dim b with
  | .inl cause => holdCause cause b1
  | .inr g =>
    if roomForStrip waste b then
      askMove .cut g.physical (enterPhase .position .unit (setSeq (fun q => { q with target := some g }) b1))
    else waitFor .frontClear b1

/-- SEQ asks for the stroke: PERMIT, with the stroke armed (R31, R113). -/
def toPermit (b : Blocks) : Blocks :=
  setCku (fun c => { c with cycle := c.cycle.map fun y => { y with armed := true } }) (enterPhase .permit .permit b)

/-! ## TURN, EJECT, PAUSE -/

/-- The TURN phase: TRN is asked for the quarters remaining (R34). -/
def turnPhase (b : Blocks) : Blocks := askTurn b.seq.run.quartersLeft (enterPhase .turn .unit b)

/-- The gauge stands below 960,000 µm, or has no position (R34). -/
def gaugeBelowClearance (b : Blocks) : Bool :=
  match gaxPosition b with
  | some p => decide (p < Config.clearancePos)
  | none => true

/-- A TURN is taken, or resumed with its quarters kept: the envelope, then CLEARANCE (R34, R47). -/
def turnTaken (quarters : Nat) (b : Blocks) : Blocks :=
  if !envelopeMet b then holdCause .turnEnvelope b
  else
    let b1 := enterPhase .clearance .unit (setRun (fun r => { r with quartersLeft := quarters }) b)
    if gaugeBelowClearance b1 then askMove .clearance Config.clearancePos b1 else turnPhase b1

/-- An EJECT is taken: the block check, the queue check, then PUSH (R35). -/
def ejectTaken (b : Blocks) : Blocks :=
  if b.trk.block.isNone then holdCause .ejectNoBlock b
  else if Config.maxPieces ≤ b.trk.queue.length then waitFor .frontClear b
  else askMove .push Config.travelFront (enterPhase .push .unit b)

/-- The LOAD phase of an EJECT (R35). -/
def ejectLoad (b : Blocks) : Blocks :=
  match loadPosition b with
  | some p => askMove .load p (enterPhase .load .unit b)
  | none => b

/-- A PAUSE is taken (R36). -/
def pauseTaken (code : Nat) (b : Blocks) : Blocks :=
  waitFor .operator (setRun (fun r => { r with phase := .none, operatorCode := some code }) b)

/-- SEQ waits for a portion: the load move is asked (R14, R24, R26). -/
def waitPortion (b : Blocks) : Blocks :=
  match loadPosition b with
  | some p => askMove .load p (waitFor .portion b)
  | none => waitFor .portion b

/-- An END is taken (R14, R26). -/
def endTaken (b : Blocks) : Blocks :=
  if b.trk.block.isSome then holdCause .blockNotEjected b
  else
    let b1 := setRun (fun r => { r with finished := r.finished + 1, loc := ⟨.main, 0⟩, phase := .none, wait := .none }) b
    if b1.seq.run.finished = b1.seq.run.lot then raise .sequence (setSeq (fun q => { q with state := .finished }) b1)
    else waitPortion b1

/-! ## CALL, RETURN, SKIP_IF -/

/-- A CALL with room on the stack pushes a frame (R12, R37, R38). -/
def pushFrame (sub count : Nat) (own : Option Nat) (b : Blocks) : Blocks :=
  baseTaken (setSeq (fun q =>
    { q with stack := { caller := q.run.loc.prog, retIndex := q.run.loc.index + 1, sub := sub, repeats := count - 1,
                        base := baseNow b, saved := q.run.override } :: q.stack,
             run := { q.run with loc := ⟨.sub sub, 0⟩, phase := .none, wait := .none,
                                 override := match own with | some p => some p | none => q.run.override } }) b)

/-- A RETURN repeats the top frame or pops it (R12, R38, R39). -/
def returnFrame (f : Frame) (rest : List Frame) (b : Blocks) : Blocks :=
  if 0 < f.repeats then
    baseTaken (setSeq (fun q =>
      { q with stack := { f with repeats := f.repeats - 1, base := baseNow b } :: rest,
               run := { q.run with loc := ⟨.sub f.sub, 0⟩, phase := .none, wait := .none } }) b)
  else
    setSeq (fun q =>
      { q with stack := rest,
               run := { q.run with loc := ⟨f.caller, f.retIndex⟩, phase := .none, wait := .none, override := f.saved } }) b

/-- What a step does that takes no time: the block with the location moved on, or none for a step that ends the taking. -/
def instantStep (s : ProgStep) (b : Blocks) : Option Blocks :=
  match s with
  | .call sub count own => if b.seq.stack.length < Config.maxFrames then some (pushFrame sub count own b) else none
  | .ret => match b.seq.stack with | f :: rest => some (returnFrame f rest b) | [] => none
  | .skipIf c operand => some (advanceBy (if skipHolds c operand b then 2 else 1) b)
  | _ => none

/-- A step that ends the taking: a CUT, a TURN, an EJECT, a PAUSE, an END, or a CALL with 6 frames on the stack. -/
def endingStep (s : ProgStep) (b : Blocks) : Blocks :=
  match s with
  | .cut mode count waste dim _ => computeCut mode waste dim (setRun (fun r => { r with cutsLeft := count }) b)
  | .turn q => turnTaken q b
  | .eject => ejectTaken b
  | .pause code => pauseTaken code b
  | .call _ _ _ => holdCause .stackLimit b
  | .endStep => endTaken b
  | .ret | .skipIf _ _ => b

/-- The step at the location is taken, and those after it that take no time (R4, R12, R40); the fuel is log 13's. -/
def takeSteps : Nat → Blocks → Blocks
  | 0, b => b
  | n + 1, b =>
    match currentStep b with
    | none => b
    | some s =>
      match instantStep s b with
      | some b1 => takeSteps n b1
      | none => endingStep s b

/-- The step at the location is taken, with phase NONE and no wait before it (R4, R22, R27). -/
def takeStep (b : Blocks) : Blocks := takeSteps Config.stepBound (enterPhase .none .none b)

/-- The step is done: the location advances and the next step is taken (R4). -/
def nextStep (b : Blocks) : Blocks := takeStep (advanceBy 1 b)

/-- The step at the location, when it is a CUT, goes to COMPUTE with its repeats kept (R28, R33, R47). -/
def recompute (b : Blocks) : Blocks :=
  match currentStep b with
  | some (.cut mode _ waste dim _) => computeCut mode waste dim b
  | _ => b

/-- The cut of a repeat is complete: the next repeat, or the next step (R33). -/
def goOn (b : Blocks) : Blocks := if 0 < b.seq.run.cutsLeft then recompute b else nextStep b

/-! ## What the units report -/

/-- GAX reports a move of SEQ in position (R29, R34, R35, R44). -/
def seqInPosition (kind : MoveKind) (b : Blocks) : Blocks :=
  match b.seq.state, kind, b.seq.run.phase with
  | .running, .cut, .position =>
    match currentStep b with
    | some (.cut _ _ waste _ own) => askClamp (cutPressure own b) waste (enterPhase .clamp .unit b)
    | _ => b
  | .running, .clearance, .clearance => turnPhase b
  | .running, .push, .push => ejectLoad (ejectPiece b)
  | .running, .load, .load => nextStep b
  | .held, .push, .push => setRun (fun r => { r with phase := .load }) (ejectPiece b)
  | _, _, _ => b

/-- CKU reports the clamp at pressure (R30). -/
def seqAtPressure (b : Blocks) : Blocks :=
  if b.seq.state = .running ∧ b.seq.run.phase = .clamp then
    match b.cku.cycle with
    | some c =>
      if c.waste then
        if b.cku.flap = .opened then toPermit b else flapOpen (enterPhase .flapOpen .unit b)
      else toPermit b
    | none => b
  else b

/-- CKU reports the flap open (R30). -/
def seqFlapOpen (b : Blocks) : Blocks :=
  if b.seq.state = .running ∧ b.seq.run.phase = .flapOpen then toPermit b else b

/-- CKU reports the stroke begun (R31). -/
def seqStrokeBegun (b : Blocks) : Blocks :=
  if b.seq.state = .running ∧ b.seq.run.phase = .permit then enterPhase .stroke .unit b else b

/-- CKU reports the BDC of a programmed cut: TRK updates the block and the phase becomes RETURN (R31, R44, R56). -/
def seqBdc (b : Blocks) : Blocks :=
  match b.cku.cycle with
  | some c =>
    let b1 := cutBdcUpdate c.waste b
    if jobUnderWay b = true ∧ b.seq.run.phase = .stroke then setRun (fun r => { r with phase := .returning }) b1 else b1
  | none => b

/-- CKU reports TDC after a BDC (R33). -/
def seqTdc (b : Blocks) : Blocks :=
  if b.seq.state = .running ∧ b.seq.run.phase = .returning then setRun (fun r => { r with phase := .release }) b else b

/-- CKU reports TDC after a reversal: back to PERMIT (R32, R117). -/
def seqBackToPermit (b : Blocks) : Blocks :=
  if b.seq.state = .running ∧ b.seq.run.phase = .stroke then enterPhase .permit .permit b else b

/-- The step at the location is a WASTE CUT. -/
def wasteStep (b : Blocks) : Bool :=
  match currentStep b with
  | some (.cut _ _ waste _ _) => waste
  | _ => false

/-- CKU reports the clamp at its upper stop after a release (R33, R44). -/
def seqReleased (b : Blocks) : Blocks :=
  if b.seq.state = .running ∧ b.seq.run.phase = .release then
    let b1 := setRun (fun r => { r with cutsLeft := r.cutsLeft - 1 }) b
    if wasteStep b then
      if b.cku.flap = .closed then goOn b1 else flapClose (enterPhase .flapClose .unit b1)
    else goOn b1
  else heldRelease b

/-- CKU reports the flap closed (R33). -/
def seqFlapClosed (b : Blocks) : Blocks :=
  if b.seq.state = .running ∧ b.seq.run.phase = .flapClose then goOn b else b

/-- TRN hands SEQ a quarter completion: the quarters remaining fall, and at 0 the base in force is set and the location
advances (R34, R44). The taking of the next step is nextStep's, after TRN has judged whether to go on (log 12). -/
def seqQuarter (b : Blocks) : Blocks :=
  if jobUnderWay b = true ∧ b.seq.run.phase = .turn then
    let b1 := setRun (fun r => { r with quartersLeft := r.quartersLeft - 1 }) b
    if b1.seq.run.quartersLeft = 0 then
      setRun (fun r => { r with loc := ⟨r.loc.prog, r.loc.index + 1⟩, phase := .none }) (setBaseInForce b1)
    else b1
  else b

/-- A portion arrives, RUNNING with wait reason PORTION; in any other state SEQ does not act (R25). -/
def portionArrival (b : Blocks) : Blocks :=
  if b.seq.state = .running ∧ b.seq.run.wait = .portion then
    takeStep (baseTaken (setRun (fun r => { r with mainBase := baseNow b, override := none, wait := .none }) b))
  else b

/-- TRK has taken a clear: a wait FRONT_CLEAR ends and its check is made again (R27, R28, R35, R67). -/
def clearTold (b : Blocks) : Blocks :=
  if b.seq.state = .running ∧ b.seq.run.wait = .frontClear then
    match currentStep b with
    | some .eject => ejectTaken (setRun (fun r => { r with wait := .none }) b)
    | _ => recompute b
  else b

/-- A clear is taken (R67). -/
def takeClear (b : Blocks) : Blocks := clearTold (deliverQueue b)

/-- The resumption point of the step (R47). A resumed EJECT (PUSH) has phase NONE at its checks, and a resumed TURN keeps its
phase where its envelope refuses it: the model's choices (log 59). The load move is asked again during a transfer too, which
it ends in INTERLOCK_LOST: the model's choice (log 82). -/
def resumeStep (b : Blocks) : Blocks :=
  if b.seq.run.wait = .portion then
    if b.trk.block.isSome then portionArrival b else waitPortion b
  else
    let b1 := setRun (fun r => { r with wait := .none }) b
    match b.seq.run.phase, currentStep b with
    | .none, _ => takeStep b
    | .flapClose, _ => goOn b1
    | .load, _ => ejectLoad b1
    | _, some (.cut _ _ _ _ _) => recompute b1
    | _, some (.turn _) => turnTaken b.seq.run.quartersLeft b1
    | _, some .eject => ejectTaken (setRun (fun r => { r with phase := .none }) b1)
    | _, _ => takeStep b

/-- CKU's release is over at OPEN: it is reported to SEQ, but for a manual cut, in which SEQ takes no part (R118, R33, R44,
R126). A reset that finds CKU in OPEN with the clamp up already makes no release to report, the model's choice (log 79). -/
def reportOpened (before after : Blocks) : Blocks :=
  if before.cku.state ≠ .open_ ∧ after.cku.state = .open_ ∧ manualCycle before = false then seqReleased after else after

/-- A transfer's arrival: the count, the block, EMPTY with the carriage drawn back, notice FEED, and the portion arrival
(R163, R54, R25; the report to SEQ is made last, log 12). -/
def transferArrives (f : TransferFigures) (b : Blocks) : Blocks :=
  let b1 := setJog (fun j => { j with transferred := j.transferred + 1 }) b
  let b2 := createBlock f b1.jog.transferred b1
  let b3 := raise .feed (setJog (fun j =>
    { j with state := .empty, figures := none, carriageReturning := true, deadline := after b Config.carriageMs }) b2)
  portionArrival b3

end Sys2Proof.Machine
end

