-- ==== Sys2Proof/Machine/Feed.lean ====
section
/-! DEFINITION. The Stack Lift's own operations (chapter 08): measurements, the states of the lift, a parting, the
baseline, the chain, the reset and start-up. -/

namespace Sys2Proof.Machine

open Sys2Proof

/-- LFT enters FAULT and raises notice FEED; a code already there stays (R147, R150, R153). The sensor fault pending mark
clears with LEVEL_SENSOR and PART_TIMEOUT, and stands at CHAIN_OPENED until the reset (R147, R150, R153, R154). That it clears
too where a failed baseline measurement faults in PARTING (log 57), and that a parting or a reset's withdrawal ends with the
fault (log 66), are the model's choices. -/
def lftFault (code : LftFault) (b : Blocks) : Blocks :=
  raise .feed (setLft (fun l =>
    { l with state := .fault, fault := some (l.fault.getD code),
             sensorFaultPending := code == .chainOpened && l.sensorFaultPending, withdrawing := false,
             resetting := false, deadline := none }) b)

/-- The drive goes up, when the chain lets it: the lower limit switch uncovers (R151, R153; log 4). -/
def liftRises (b : Blocks) : Blocks := if chainOk b then setInputs (fun i => { i with lowerLimit := false }) b else b

/-- The drive goes down, when the chain lets it: the top limit switch uncovers (R151, R153; log 4). -/
def liftSinks (b : Blocks) : Blocks := if chainOk b then setInputs (fun i => { i with topLimit := false }) b else b

/-- RAISING begins (R148, R150, R151). -/
def liftRaises (b : Blocks) : Blocks := liftRises (setLft (fun l => { l with state := .raising, deadline := none }) b)

/-- LOWERING begins (R151, R154). With the lower limit switch covered already it waits for a further LOWER_LIMIT_COVERED, the
model's choice (log 65). -/
def liftLowers (b : Blocks) : Blocks := liftSinks (setLft (fun l => { l with state := .lowering, deadline := none }) b)

/-- EMPTY, with notice FEED (R148). -/
def liftEmpty (b : Blocks) : Blocks := raise .feed (setLft (fun l => { l with state := .empty, paperAtTop := false }) b)

/-- A measurement is kept with its judgement (R144). -/
def keepCount (n : Nat) (j : Judgement) (b : Blocks) : Blocks :=
  setLft (fun l => { l with latest := some n, judgement := j }) b

/-- A count below 16 by state (R147). -/
def sensorFault (b : Blocks) : Blocks :=
  match b.lft.state with
  | .raising | .atLevel | .empty => lftFault .levelSensor b
  | .parting => setLft (fun l => { l with sensorFaultPending := true }) b
  | .lowered | .lowering | .fault => b

/-- A measurement that judges paper, by state (R148). -/
def paperSeen (b : Blocks) : Blocks :=
  match b.lft.state with
  | .raising | .atLevel =>
    setLft (fun l => { l with state := .atLevel, paperAtTop := l.paperAtTop || b.inputs.topLimit }) b
  | _ => b

/-- A measurement that judges no paper, by state: the baseline is tracked in RAISING, the top limit gives EMPTY, and
AT_LEVEL is lost (R145, R148; log 18, log 39). -/
def noPaperSeen (n : Nat) (b : Blocks) : Blocks :=
  match b.lft.state with
  | .raising =>
    let b1 := setLft (fun l => { l with baseline := trackedBaseline l.baseline n }) b
    if b.inputs.topLimit ∧ b.lft.paperAtTop = false then liftEmpty b1 else b1
  | .atLevel => liftRaises b
  | _ => b

/-- A measurement of the level sensor (R144). That a count of 16 or more in PARTING and EMPTY is kept as PRESENT or ABSENT is the
model's choice (log 94). -/
def levelMeasured (count : Nat) (b : Blocks) : Blocks :=
  let n := min Config.counterTop count
  match b.lft.state with
  | .lowered => b
  | .lowering | .fault => keepCount n .notJudged b
  | _ =>
    if n < 16 then sensorFault (keepCount n .faultCount b)
    else if paperPresent n b.lft.baseline b.lft.depth then paperSeen (keepCount n .present b)
    else noPaperSeen n (keepCount n .absent b)

/-- The baseline measurement asked by SENSOR_BASELINE (R146), used in whatever state it finds LFT; that a fault or a reset leaves
it pending, and that a count below 16 ends a parting or a reset's withdrawal at once (log 66), and that its judgement is
NOT_JUDGED (log 56) are the model's choices. -/
def baselineMeasured (count : Nat) (b : Blocks) : Blocks :=
  match b.lft.baselinePending with
  | none => b
  | some q =>
    let n := min Config.counterTop count
    let b1 := keepCount n .notJudged (setLft (fun l => { l with baselinePending := none }) b)
    if n < 16 then lftFault .levelSensor b1
    else raise .feed (setLft (fun l => { l with window := q.window, depth := q.depth, baseline := n }) b1)

/-- The top limit switch becomes covered (R143, R148). -/
def topLimitCovers (b : Blocks) : Blocks :=
  let b1 := setLft (fun l => { l with height := l.height.map fun _ => 1400, paperAtTop := false })
    (setInputs (fun i => { i with topLimit := true }) b)
  if b.lft.state = .raising then liftEmpty b1 else b1

/-- The lower limit switch becomes covered: the height is 0, and LOWERING ends in LOWERED with notice FEED (R143, R151, R154). -/
def lowerLimitCovers (b : Blocks) : Blocks :=
  let b1 := setLft (fun l => { l with height := some 0 }) (setInputs (fun i => { i with lowerLimit := true }) b)
  if b.lft.state = .lowering then raise .feed (setLft (fun l => { l with state := .lowered, resetting := false }) b1) else b1

/-- A parting begins: the blade goes in at the portion height of the loaded snapshot, and the pusher across (R149; log 4,
log 60). -/
def partingBegins (b : Blocks) : Blocks :=
  setInputs (fun i => { i with bladeHome := false, pusherHome := false })
    (setLft (fun l =>
      { l with state := .parting, deadline := after b Config.partMs, gearReturning := false,
               bladeDepth := b.seq.snapshot.map (·.height) }) b)

/-- Both home switches of the gear covered end its way back from a parting (R150). -/
def gearArrives (b : Blocks) : Blocks :=
  if gearAtRest b then setLft (fun l => { l with gearReturning := false }) b else b

/-- The entry-sensor event ends a parting: it is counted, the pusher and the blade are withdrawn, and LFT raises again, or
faults on the pending sensor fault (R150). -/
def partingEnds (b : Blocks) : Blocks :=
  let b1 := setLft (fun l => { l with partedOff := l.partedOff + 1, gearReturning := true, deadline := none }) b
  if b.lft.sensorFaultPending then lftFault .levelSensor b1 else liftRaises b1

/-- The gear is withdrawn in a UNIT_RESET: down to the lower limit, or up to level again; notice FEED at the end of the
part (R154; log 19). -/
def gearWithdrawn (b : Blocks) : Blocks :=
  let b1 := setLft (fun l => { l with withdrawing := false, deadline := none }) b
  if b.lft.height.isNone ∨ b.lft.baseline = 0 then
    if b.inputs.lowerLimit then raise .feed (setLft (fun l => { l with state := .lowered, height := some 0 }) b1)
    else liftLowers (setLft (fun l => { l with resetting := true }) b1)
  else raise .feed (liftRaises b1)

/-- LFT's part of a UNIT_RESET, with the chain closed (R154). That a second one taken during the withdrawal begins the 6 s again
is the model's choice (log 97). -/
def lftReset (b : Blocks) : Blocks :=
  if b.lft.state ≠ .fault then b
  else
    let b1 := setLft (fun l => { l with fault := none, sensorFaultPending := false }) b
    if gearAtRest b then gearWithdrawn b1
    else setLft (fun l => { l with withdrawing := true, gearReturning := false, deadline := after b Config.partMs }) b1

/-- The chain opens: a parting faults (R153). -/
def lftEstop (b : Blocks) : Blocks := if b.lft.state = .parting then lftFault .chainOpened b else b

/-- The chain is CHAIN_OK again: RAISING and LOWERING move on (R153). -/
def lftChainReset (b : Blocks) : Blocks :=
  match b.lft.state with
  | .raising => liftRises b
  | .lowering => liftSinks b
  | _ => b

/-- LFT after start-up, with the first measurement in LOWERED (R143, R146). That measurement is NOT_JUDGED, the height stays 0
in a FAULT of the level sensor, and with POSITION_UNKNOWN there is no latest measurement: the model's choices (log 56). -/
def lftStart (b : Blocks) : Blocks :=
  let n := min Config.counterTop b.inputs.levelCount
  setLft (fun _ =>
    if b.inputs.lowerLimit && gearAtRest b then
      if n < 16 then
        { Lft.atReset with state := .fault, fault := some .levelSensor, baseline := 0, latest := some n }
      else { Lft.atReset with baseline := n, latest := some n }
    else { Lft.atReset with state := .fault, fault := some .positionUnknown, height := none, baseline := 0, latest := none }) b

end Sys2Proof.Machine
end

