-- ==== Sys2Proof/Machine/Startup.lean ====
section
/-! DEFINITION. Start-up and the orderly stop (R175), the e-stop chain (R169, R170) and UNIT_RESET (R174). -/

namespace Sys2Proof.Machine

open Sys2Proof

/-- MSU's own values after start-up (R175). -/
def msuStart (cause : StartupCause) (b : Blocks) : Blocks :=
  setMsu (fun _ =>
    { mode := .standby, estop := if b.inputs.chainClosed then .readyToReset else .stopped,
      resets := ⟨none, none, none, none, none⟩, cause := cause, phase := .waitLibrary }) b

/-- Steps 2 to 4 of start-up (R175): every block takes its state from its own switches and sensors, and LIB scans its flash,
GAX's table and CKU's record following when LIB has ended. A RESTART that brings SEQ to IDLE from another state owes the notice
of that change (R18). That these states are taken at once and not after LIB's scan is the model's choice (log 68), as
is that SEQ's target kept for a cut is dropped (log 89). -/
def startBlocks (cause : StartupCause) (b : Blocks) : Blocks :=
  let b1 := msuStart cause b
  let b2 := setSeq (fun q => { Seq.atReset with startNotice := cause == .restart && q.state != .idle }) b1
  libStart (cause == .powerOn) (jogStart (lftStart (trnStart (ckuStart (gaxStart (trkStart b2))))))

/-- The orderly stop of a RESTART: GAX stops a move or homing run in flight, the knife record is stored when the library is
OPEN, and the staging is discarded; the other units stop by their start-up rules (R88, R100, R128, R175). -/
def orderlyStop (b : Blocks) : Blocks :=
  let b1 := gaxStop b
  setLib (fun l => { l with staging := none }) (if b.lib.state = .opened then ckuStore b1 else b1)

/-- Start-up ends: notice CELL, then SEQUENCE for SEQ's change to IDLE, KNIFE for a knife off TDC or a wear cap, and FEED for a
faulted lift or jogger (R175 step 5, R18, R77, R108; SEQUENCE with these notices, log 62). -/
def startupEnds (b : Blocks) : Blocks :=
  let b1 := raise .cell (setMsu (fun m => { m with phase := .ended }) b)
  let b2 := setSeq (fun q => { q with startNotice := false }) (raiseIf b.seq.startNotice .sequence b1)
  raiseIf (b.lft.state == .fault || b.jog.state == .fault) .feed
    (raiseIf (b.cku.state == .knifeReturnNeeded || b.cku.wearCap) .knife b2)

/-- The chain opens in CHAIN_OK: SEQ's hold cause ESTOP, then every unit stops by its own rule (R169; log 11). -/
def chainOpens (b : Blocks) : Blocks :=
  let b1 := raise .cell (setMsu (fun m => { m with estop := .stopped }) b)
  let b2 := jogEstop (holdEstop b1)
  let b3 := if b.trn.state = .gripping ∨ b.trn.state = .turning ∨ b.trn.state = .releasing then trnFaults .chainOpened b2
    else setTrn (fun t => { t with pending := none }) b2
  lftEstop (ckuEstop (gaxEstop b3))

/-- ESTOP_RESET in READY_TO_RESET: CHAIN_OK, handed to every unit, notice CELL (R170). -/
def chainResets (b : Blocks) : Blocks :=
  jogChainReset (lftChainReset (gaxChainReset (raise .cell (setMsu (fun m => { m with estop := .chainOk }) b))))

/-! ## UNIT_RESET (R174) -/

/-- The time of the last reset of a unit. -/
def ResetTimes.get (r : ResetTimes) : UnitName → Option Ms
  | .gax => r.gax
  | .cku => r.cku
  | .trn => r.trn
  | .lft => r.lft
  | .jog => r.jog

/-- The time of a reset taken. -/
def ResetTimes.set (r : ResetTimes) (u : UnitName) (t : Ms) : ResetTimes :=
  match u with
  | .gax => { r with gax := some t }
  | .cku => { r with cku := some t }
  | .trn => { r with trn := some t }
  | .lft => { r with lft := some t }
  | .jog => { r with jog := some t }

/-- The time left of a cool-down at a time, or none (R174, R176). -/
def coolDownLeft (now : Ms) (taken : Option Ms) : Option Ms :=
  match taken with
  | none => none
  | some t => if now < t + Config.coolDownMs then some (t + Config.coolDownMs - now) else none

/-- The named unit's part has its conditions (R174). -/
def resetAllowed (u : UnitName) (b : Blocks) : Bool :=
  match u with
  | .gax => true
  | .cku | .lft => chainOk b
  | .trn => trnResetAllowed b
  | .jog => jogResetAllowed b

/-- The named unit's part (R174); CKU's release that ends at once is reported to SEQ (R118). -/
def resetPart (u : UnitName) (b : Blocks) : Blocks :=
  match u with
  | .gax => gaxReset b
  | .cku => reportOpened b (ckuReset b)
  | .trn => trnReset b
  | .lft => lftReset b
  | .jog => jogReset b

/-- The part has begun a motion that goes on (R174). A lift's climb back to level counts as one, though R174's list of motions
does not name it: the model's choice (log 73). -/
def resetMoves (u : UnitName) (b : Blocks) : Bool :=
  match u with
  | .gax => false
  | .cku => b.cku.resetting
  | .trn => b.trn.resetting
  | .lft => b.lft.withdrawing || b.lft.resetting || b.lft.state == .raising
  | .jog => b.jog.resetting

/-- The unit is in a state that its part changes (R103, R124, R140, R154, R165). -/
def resetActs (u : UnitName) (b : Blocks) : Bool :=
  match u with
  | .gax => b.gax.state == .fault
  | .cku =>
    b.cku.state == .fault || (b.cku.state == .open_ && !(b.inputs.upperStop && b.cku.flap == .closed))
  | .trn => b.trn.state == .fault
  | .lft => b.lft.state == .fault
  | .jog => b.jog.state == .fault || b.jog.state == .receiving || b.jog.state == .aligned

/-- A reset that is taken records its time, runs the unit's part and answers (R174). -/
def resetTaken (u : UnitName) (b : Blocks) : Blocks :=
  let b1 := resetPart u (setMsu (fun m => { m with resets := m.resets.set u b.clock }) b)
  answer (if resetActs u b && resetMoves u b1 then .accepted else .ok) .nothing b1

end Sys2Proof.Machine
end

