-- ==== Sys2Proof/Machine/Results.lean ====
section
/-! DEFINITION. The bytes of the results of replies and of the snapshots of notices (R192, R193): the fields in the order the
owner's rule names them, each in the width R192 gives it, high byte first. What R192 leaves open is the model's choice
(log 8): a mark is one byte, 0 or 1; an absent name is 0, and what else may be absent is led by a mark that says whether it is
there; the numbers of a load, a piece, a portion and a record go in four bytes as counts, the index of a step in one; the bytes
received of a body go in two, as a body length. -/

namespace Sys2Proof.Machine

open Sys2Proof

/-! ## Figures -/

/-- A mark, or a switch. -/
def flagByte (v : Bool) : List Byte := [if v then 1 else 0]

/-- A name as its place in the list of its rule, counted from 1 (R192); the types of State.lean name the values in the order
of that list. -/
def place (index : Nat) : List Byte := [BitVec.ofNat 8 (index + 1)]

/-- A name that may be absent. -/
def placeOr : Option Nat → List Byte
  | none => [0]
  | some i => place i

/-- What may be absent: a mark, and the figure where it is there. -/
def given {α : Type} (f : α → List Byte) : Option α → List Byte
  | none => flagByte false
  | some x => flagByte true ++ f x

/-- An orientation, quarters, the detection depth, an operator code, a step index, a notice number (R192). -/
def byte1 (n : Nat) : List Byte := beBytes 1 n

/-- A pressure, a height, a key, a point, a body length, the window, k, w, G, a correction (R192). -/
def byte2 (n : Int) : List Byte := beBytes 2 n

/-- A length in µm, a count, a time (R192). -/
def byte4 (n : Int) : List Byte := beBytes 4 n

/-- A natural number in two bytes. -/
def nat2 (n : Nat) : List Byte := byte2 n

/-- A natural number in four bytes. -/
def nat4 (n : Nat) : List Byte := byte4 n

/-! ## Records -/

/-- A program: MAIN or SUB, and the number of the subprogram. -/
def ProgId.bytes : ProgId → List Byte
  | .main => place 0 ++ byte2 0
  | .sub n => place 1 ++ byte2 n

/-- A location: the program and the index (section 1.4). -/
def Loc.bytes (l : Loc) : List Byte := l.prog.bytes ++ byte1 l.index

/-- The running record (R22). -/
def Running.bytes (r : Running) : List Byte :=
  byte2 r.job ++ byte4 r.lot ++ byte2 r.stock ++ byte4 r.finished ++ r.loc.bytes ++ place r.phase.ctorIdx ++ byte4 r.cutsLeft
    ++ byte1 r.quartersLeft ++ place r.wait.ctorIdx ++ byte4 r.mainBase ++ given nat2 r.override
    ++ given byte1 r.operatorCode

/-- A frame of the call stack (R37). -/
def Frame.bytes (f : Frame) : List Byte :=
  f.caller.bytes ++ byte1 f.retIndex ++ byte2 f.sub ++ byte4 f.repeats ++ byte4 f.base ++ given nat2 f.saved

/-- The hold record (R49). -/
def HoldRecord.bytes (h : HoldRecord) : List Byte :=
  placeOr (h.cause.map (·.ctorIdx)) ++ flagByte h.more ++ given Loc.bytes h.loc ++ place h.phase.ctorIdx ++ byte4 h.depth
    ++ byte4 h.holds

/-- The block record (R51); an edge goes as a mark, RAW 0 and TRIMMED 1, the model's choice (log 8). -/
def Block.bytes (k : Block) : List Byte :=
  byte4 k.portion ++ byte4 k.nomDepth ++ byte4 k.nomWidth ++ byte4 k.strDepth ++ byte4 k.strWidth ++ byte2 k.height
    ++ given byte1 k.orientation ++ place k.axis.ctorIdx
    ++ (flagByte k.edges.head ++ flagByte k.edges.foot ++ flagByte k.edges.left ++ flagByte k.edges.right)
    ++ flagByte k.partialCut

/-- A piece record (R62); an absent location is MANUAL. -/
def Piece.bytes (p : Piece) : List Byte :=
  byte4 p.load ++ byte4 p.number ++ byte4 p.portion ++ given Loc.bytes p.loc ++ byte4 p.nomWidth ++ byte4 p.strWidth
    ++ byte4 p.nomLength ++ byte4 p.strLength ++ byte2 p.height ++ given byte1 p.orientation ++ place p.kind.ctorIdx

/-- The move record (R94). -/
def MoveRecord.bytes (m : MoveRecord) : List Byte :=
  place m.kind.ctorIdx ++ place m.asker.ctorIdx ++ byte4 m.target ++ byte2 m.corr ++ flagByte m.uncorrected
    ++ byte4 m.encoderTarget ++ byte4 m.countTarget ++ flagByte m.clamped ++ place m.approach.ctorIdx
    ++ given (fun o => byte4 o.pos ++ byte4 o.count) m.overshoot ++ place m.leg.ctorIdx ++ byte4 m.start ++ byte4 m.moveTime
    ++ given flagByte m.completed

/-- The cycle record (R107). -/
def Cycle.bytes (c : Cycle) : List Byte :=
  place c.asker.ctorIdx ++ byte2 c.target ++ flagByte c.waste ++ flagByte c.armed ++ flagByte c.restAsked
    ++ placeOr (c.lastReversal.map (·.ctorIdx)) ++ given byte4 c.knifeTerm ++ flagByte c.bdcTaken

/-- The working copy of the knife record: k, w, C and G (R130). -/
def KnifeRecord.bytes (r : KnifeRecord) : List Byte := byte2 r.k ++ byte2 r.w ++ byte4 r.C ++ byte2 r.G

/-- What stays readable of a turn (R142). -/
def LastTurn.bytes (t : LastTurn) : List Byte := byte1 t.done ++ place t.ended.ctorIdx

/-- TRN's status (R142). -/
def TurnerStatus.bytes (t : TurnerStatus) : List Byte :=
  place t.state.ctorIdx ++ placeOr (t.fault.map (·.ctorIdx)) ++ flagByte t.armsOpen ++ flagByte t.gripClosed
    ++ flagByte t.quarter ++ given byte1 t.pending
    ++ given (fun r => place r.asker.ctorIdx ++ byte1 r.requested ++ byte1 r.done ++ flagByte r.restAsked) t.record
    ++ given LastTurn.bytes t.lastTurn

/-- The jog record: its figures, the on-time and the periods run (R166). -/
def JogRecord.bytes (r : JogRecord) : List Byte :=
  byte2 r.jogTime ++ byte2 r.period ++ byte2 r.duty ++ byte2 r.gap ++ byte4 r.onTime ++ byte4 r.periods

/-- JOG's status (R166). -/
def JoggerStatus.bytes (j : JoggerStatus) : List Byte :=
  place j.state.ctorIdx ++ placeOr (j.fault.map (·.ctorIdx))
    ++ (flagByte j.entry ++ flagByte j.frontStop ++ flagByte j.sideStop ++ flagByte j.carriageHome ++ flagByte j.backTable)
    ++ byte4 j.retries ++ flagByte j.repeatWaiting ++ given (fun c => flagByte c.front ++ flagByte c.side) j.lastCheck
    ++ given JogRecord.bytes j.record ++ byte4 j.transferred ++ flagByte j.mayTransfer
    ++ placeOr (j.transferRefusal.map (·.ctorIdx))

/-- A check code with the step index (R15, R17). -/
def CheckFailure.bytes (f : CheckFailure) : List Byte := place f.code.ctorIdx ++ given byte1 f.step

/-- The pending flags by their kind numbers (R194). -/
def Flags.bytes (f : Flags) : List Byte :=
  flagByte f.cell ++ flagByte f.sequence ++ flagByte f.hold ++ flagByte f.front ++ flagByte f.feed ++ flagByte f.gauge
    ++ flagByte f.knife ++ flagByte f.library

/-! ## The results of the status requests -/

/-- The result of CELL_STATUS (R176); what is not yet known is absent. -/
def CellStatusData.bytes (d : CellStatusData) : List Byte :=
  place d.mode.ctorIdx ++ place d.estop.ctorIdx ++ place d.permitKey.ctorIdx ++ flagByte d.locked ++ flagByte d.curtainClear
    ++ flagByte d.guardClosed ++ given (fun p => flagByte p.1 ++ flagByte p.2) d.buttons
    ++ (given nat4 d.coolDowns.gax ++ given nat4 d.coolDowns.cku ++ given nat4 d.coolDowns.trn
      ++ given nat4 d.coolDowns.lft ++ given nat4 d.coolDowns.jog)
    ++ place d.cause.ctorIdx ++ flagByte d.startupEnded ++ d.turner.bytes

/-- The result of RUN_STATUS (R23): in IDLE the state alone; else the record and the frames with their number. -/
def RunStatusData.bytes (d : RunStatusData) : List Byte :=
  place d.state.ctorIdx
    ++ (match d.record with
        | none => []
        | some (r, stack) => r.bytes ++ byte4 stack.length ++ (stack.map Frame.bytes).flatten)

/-- The result of BLOCK_STATUS (R70); ready is no failing condition. -/
def BlockStatusData.bytes (d : BlockStatusData) : List Byte :=
  given Block.bytes d.block ++ flagByte d.unknown ++ flagByte d.sensor ++ placeOr (d.notReady.map (·.ctorIdx))
    ++ byte4 d.queueLength ++ flagByte d.clearPending ++ byte4 d.made ++ byte4 d.delivered ++ byte4 d.trims

/-- The result of GAUGE_STATUS (R105). -/
def GaugeStatusData.bytes (d : GaugeStatusData) : List Byte :=
  place d.state.ctorIdx ++ placeOr (d.homing.map (·.ctorIdx)) ++ placeOr (d.fault.map (·.ctorIdx)) ++ flagByte d.referenced
    ++ flagByte d.inPosition ++ flagByte d.drive ++ byte4 d.encoder ++ given byte4 d.position ++ given byte4 d.start
    ++ given (fun p => place p.kind.ctorIdx ++ byte4 p.target) d.pending ++ given MoveRecord.bytes d.move
    ++ byte4 d.invalidPoints

/-- The result of KNIFE_STATUS (R130). -/
def KnifeStatusData.bytes (d : KnifeStatusData) : List Byte :=
  place d.state.ctorIdx ++ placeOr (d.fault.map (·.ctorIdx)) ++ given flagByte d.contactDetail ++ flagByte d.upperStop
    ++ flagByte d.tdc ++ flagByte d.bdc ++ place d.flap.ctorIdx ++ given nat2 d.sample ++ flagByte d.contact
    ++ given Cycle.bytes d.cycle ++ flagByte d.leftHeld ++ flagByte d.rightHeld ++ flagByte d.rearmed ++ d.knife.bytes
    ++ byte4 d.wearPart ++ byte4 d.knifeTerm ++ flagByte d.wearCap ++ byte4 d.lastStored ++ flagByte d.unstored
    ++ flagByte d.storeDeferred

/-- The result of FEED_STATUS (R155). -/
def FeedStatusData.bytes (d : FeedStatusData) : List Byte :=
  place d.state.ctorIdx ++ placeOr (d.fault.map (·.ctorIdx)) ++ given nat2 d.height ++ flagByte d.lowerLimit
    ++ flagByte d.topLimit ++ flagByte d.bladeHome ++ flagByte d.pusherHome ++ byte4 d.baseline ++ byte2 d.window ++ byte1 d.depth
    ++ given nat4 d.latest ++ place d.judgement.ctorIdx ++ flagByte d.baselinePending ++ byte4 d.partedOff
    ++ given nat4 d.lot ++ flagByte d.feedPaused ++ flagByte d.mayPart ++ placeOr (d.partRefusal.map (·.ctorIdx))
    ++ d.jogger.bytes

/-- The result of LIB_STATUS (R187). Once 4,294,967,295 has been used the next sequence number does not fit its four bytes and
goes as 0, the model's choice (log 75); the places of LIB's states and the width of the bytes received are log 8's. -/
def LibStatusData.bytes (d : LibStatusData) : List Byte :=
  place d.state.ctorIdx
    ++ given (fun w => place w.name.ctorIdx ++ byte4 w.sourcesDone ++ byte4 w.total) d.work
    ++ byte4 d.erased ++ byte4 d.inUse ++ byte4 d.bad ++ byte2 d.room ++ byte4 d.nextSeq ++ byte4 d.damaged
    ++ given (fun g => place g.kind.ctorIdx ++ byte2 g.key ++ byte2 g.declared ++ byte2 g.received ++ byte4 g.timeLeft) d.staging
    ++ flagByte d.locked ++ placeOr (d.failure.map (·.ctorIdx))

/-- The result of LINK_STATUS (R194). -/
def LinkStatusData.bytes (d : LinkStatusData) : List Byte :=
  byte4 d.counters.dropped ++ byte4 d.counters.length ++ byte4 d.counters.gap ++ byte4 d.counters.check ++ byte4 d.counters.kind
    ++ byte4 d.counters.overrun ++ byte4 d.counters.requests ++ byte4 d.counters.replies ++ byte4 d.counters.notices
    ++ byte4 d.queue ++ byte4 d.refusals ++ d.flags.bytes ++ byte1 d.nextNotice

/-! ## Every result and every snapshot -/

/-- The bytes of a result (R192). -/
def Result.bytes : Result → List Byte
  | .nothing => []
  | .autoRefusal first => place first.ctorIdx
  | .cell d => d.bytes
  | .failingRecord kind key failure => place kind.ctorIdx ++ byte2 key ++ given CheckFailure.bytes failure
  | .run d => d.bytes
  | .hold r => r.bytes
  | .block d => d.bytes
  | .pieces length shown => byte4 length ++ (shown.map Piece.bytes).flatten
  | .gauge d => d.bytes
  | .jog target count approach clamped uncorrected =>
    byte4 target ++ byte4 count ++ place approach.ctorIdx ++ flagByte clamped ++ flagByte uncorrected
  | .pressure limited => byte2 limited
  | .knife d => d.bytes
  | .feed d => d.bytes
  | .received bytes => byte2 bytes
  | .written kind key seq => place kind.ctorIdx ++ byte2 key ++ byte4 seq
  | .same kind key => place kind.ctorIdx ++ byte2 key
  | .transferCheck => place 0
  | .body seq length bytes => byte4 seq ++ byte2 length ++ bytes
  | .stock figures seq => StockFigures.encode figures ++ byte4 seq
  | .corrWritten first count => byte2 first ++ byte2 count
  | .corrValues values => (values.map corrValueBytes).flatten
  | .library d => d.bytes
  | .link d => d.bytes

/-- The bytes of a snapshot (R193). -/
def NoticeData.bytes : NoticeData → List Byte
  | .cell mode estop permitKey locked guardClosed cause turner =>
    place mode.ctorIdx ++ place estop.ctorIdx ++ place permitKey.ctorIdx ++ flagByte locked ++ flagByte guardClosed
      ++ place cause.ctorIdx ++ turner.bytes
  | .sequence state job lot finished loc phase wait operatorCode =>
    place state.ctorIdx ++ byte2 job ++ byte4 lot ++ byte4 finished ++ loc.bytes ++ place phase.ctorIdx ++ place wait.ctorIdx
      ++ given byte1 operatorCode
  | .hold state record => place state.ctorIdx ++ record.bytes
  | .front length newest clearPending made delivered trims =>
    byte4 length ++ given (fun p => byte4 p.1 ++ byte4 p.2) newest ++ flagByte clearPending ++ byte4 made ++ byte4 delivered
      ++ byte4 trims
  | .feed lift liftFault height partedOff feedPaused jogger joggerFault retries transferred =>
    place lift.ctorIdx ++ placeOr (liftFault.map (·.ctorIdx)) ++ given nat2 height ++ byte4 partedOff
      ++ flagByte feedPaused ++ place jogger.ctorIdx ++ placeOr (joggerFault.map (·.ctorIdx)) ++ byte4 retries
      ++ byte4 transferred
  | .gauge state fault referenced inPosition drive position uncorrected clamped kind completed invalidPoints =>
    place state.ctorIdx ++ placeOr (fault.map (·.ctorIdx)) ++ flagByte referenced ++ flagByte inPosition ++ flagByte drive
      ++ given byte4 position ++ flagByte uncorrected ++ flagByte clamped ++ placeOr (kind.map (·.ctorIdx))
      ++ given flagByte completed ++ byte4 invalidPoints
  | .knife state fault upperStop tdc flap cutCount wearPart wearCap unstored lastManual =>
    place state.ctorIdx ++ placeOr (fault.map (·.ctorIdx)) ++ flagByte upperStop ++ flagByte tdc ++ place flap.ctorIdx
      ++ byte4 cutCount ++ byte4 wearPart ++ flagByte wearCap ++ flagByte unstored ++ given flagByte lastManual
  | .library state erased inUse damaged staging last =>
    place state.ctorIdx ++ byte4 erased ++ byte4 inUse ++ byte4 damaged ++ flagByte staging ++ placeOr (last.map (·.ctorIdx))

end Sys2Proof.Machine
end

