-- ==== Sys2Proof/Machine/Link.lean ====
section
/-! DEFINITION. The Line Link's own operations (chapter 12): the receiver, the receive queue and the refusal list, the
snapshots of the notices and the choice of the next frame. -/

namespace Sys2Proof.Machine

open Sys2Proof

/-! ## The receiver (R188) -/

/-- The causes of a dropped frame (R194). -/
inductive DropCause where
  | length
  | gap
  | check
  | kind
  | overrun
deriving DecidableEq, Repr

/-- One more, stopping at 65,535 (R194). -/
def bump (n : Nat) : Nat := addUpTo Config.counterTop n 1

/-- The dropped-frame count and the count of the cause (R188, R194). -/
def LinkCounters.drop (c : LinkCounters) : DropCause → LinkCounters
  | .length => { c with dropped := bump c.dropped, length := bump c.length }
  | .gap => { c with dropped := bump c.dropped, gap := bump c.gap }
  | .check => { c with dropped := bump c.dropped, check := bump c.check }
  | .kind => { c with dropped := bump c.dropped, kind := bump c.kind }
  | .overrun => { c with dropped := bump c.dropped, overrun := bump c.overrun }

/-- A frame is abandoned or dropped with its cause. -/
def dropFrame (cause : DropCause) (l : Lnk) : Lnk := { l with counters := l.counters.drop cause }

/-- A request arrival (R189): the queue, the refusal list, or an overrun. -/
def requestArrives (tag : Byte) (body : List Byte) (l : Lnk) : Lnk :=
  let counted := { l with counters := { l.counters with requests := bump l.counters.requests } }
  if l.queue.length < Config.maxQueue then { counted with queue := l.queue ++ [⟨tag, body, none⟩] }
  else if l.refusals.length < Config.maxQueue then { counted with refusals := l.refusals ++ [⟨tag, body.headD 0⟩] }
  else dropFrame .overrun l

/-- What the bytes after a start byte make (R188): not yet a whole frame; abandoned at the length byte; abandoned at a late
byte, whose place is given; abandoned at the check; a sound frame of another kind or a request, with the bytes it took. -/
inductive Gathered where
  | more
  | length
  | gap (at_ : Nat)
  | check
  | otherKind (taken : Nat)
  | request (taken : Nat) (tag : Byte) (body : List Byte)
deriving DecidableEq, Repr

/-- A whole frame after its start byte, judged at its last check byte (R188, R195). -/
def judgeFrame (frame : List Byte) : Gathered :=
  let covered := frame.take (frame.length - 2)
  if (crc16 covered).toNat ≠ beNat (frame.drop (frame.length - 2)) then .check
  else
    match covered with
    | _ :: kind :: tag :: body => if kind = 1 then .request frame.length tag body else .otherKind frame.length
    | _ => .otherKind frame.length

/-- The bytes after a start byte judged in their order (R188). A length byte that is both late and above 240 counts GAP: the
byte's gap is judged before its value, the model's choice (log 70). -/
def gatherFrame (rest : List RxByte) : Gathered :=
  match rest with
  | [] => .more
  | first :: _ =>
    let late := rest.findIdx fun x => decide (Config.byteGapUs < x.gapUs)
    if late = 0 then .gap 0
    else if 240 < first.byte.toNat then .length
    else if late < min (first.byte.toNat + 5) rest.length then .gap late
    else if rest.length < first.byte.toNat + 5 then .more
    else judgeFrame ((rest.take (first.byte.toNat + 5)).map (·.byte))

/-- The bytes taken by the receiver in their order; the first number is how many bytes of a frame already judged are still
passed over (R188). The bytes of a frame not yet whole stay gathered. -/
def receive : Nat → List RxByte → Lnk → Lnk
  | _, [], l => { l with gathered := [] }
  | k + 1, _ :: rest, l => receive k rest l
  | 0, x :: rest, l =>
    if x.byte ≠ 0x7E then receive 0 rest l
    else
      match gatherFrame rest with
      | .more => { l with gathered := x :: rest }
      | .length => receive 0 rest (dropFrame .length l)
      | .check => receive 0 rest (dropFrame .check l)
      | .gap n => receive n rest (dropFrame .gap l)
      | .otherKind n => receive n rest (dropFrame .kind l)
      | .request n tag body => receive n rest (requestArrives tag body l)

/-! ## Notices (R193) -/

/-- The snapshot of a kind, with the state as it stands (R50, R69, R106, R130, R142, R155, R166, R176, R187). SEQUENCE in IDLE, where
the running record holds no job, carries what Running.empty holds: job, lot and finished 0, MAIN 0, NONE, the model's choice
(log 61). GAUGE with no move begun since start-up carries the marks UNCORRECTED and CLAMPED clear and no last move, the model's
choice (log 87). -/
def noticeSnapshot (k : NoticeKind) (b : Blocks) : NoticeData :=
  match k with
  | .cell =>
    .cell b.msu.mode b.msu.estop b.inputs.permitKey b.inputs.locked b.inputs.guardClosed b.msu.cause (turnerStatus b)
  | .sequence =>
    .sequence b.seq.state b.seq.run.job b.seq.run.lot b.seq.run.finished b.seq.run.loc b.seq.run.phase b.seq.run.wait
      b.seq.run.operatorCode
  | .hold => .hold b.seq.state b.seq.hold
  | .front =>
    .front b.trk.queue.length (b.trk.queue.getLast?.map fun p => (p.load, p.number)) b.trk.clearPending b.trk.made
      b.trk.delivered b.trk.trims
  | .feed =>
    .feed b.lft.state b.lft.fault b.lft.height b.lft.partedOff b.lft.feedPaused b.jog.state b.jog.fault b.jog.retries
      b.jog.transferred
  | .gauge =>
    .gauge b.gax.state b.gax.fault b.gax.referenced b.gax.inPosition b.gax.drive (gaxPosition b)
      ((b.gax.move.map (·.uncorrected)).getD false) ((b.gax.move.map (·.clamped)).getD false) (b.gax.move.map (·.kind))
      (b.gax.move.bind (·.completed)) (invalidPoints b.gax.table)
  | .knife =>
    .knife b.cku.state b.cku.fault b.inputs.upperStop b.inputs.tdc b.cku.flap b.cku.knife.C (wearPart b.cku.knife)
      b.cku.wearCap b.cku.unstored b.cku.lastManual
  | .library =>
    .library b.lib.state (erasedCount b.lib.flash) (inUseCount b.lib.flash) b.lib.damaged b.lib.staging.isSome b.lib.lastEvent

/-- The kinds by their kind numbers (R193). -/
def noticeKinds : List NoticeKind := [.cell, .sequence, .hold, .front, .feed, .gauge, .knife, .library]

/-- The kind number (R193). -/
def NoticeKind.number : NoticeKind → Nat
  | .cell => 1
  | .sequence => 2
  | .hold => 3
  | .front => 4
  | .feed => 5
  | .gauge => 6
  | .knife => 7
  | .library => 8

/-- The pending kind of lowest kind number (R191). -/
def nextNotice (f : Flags) : Option NoticeKind := noticeKinds.find? f.get

/-! ## The layout of a sent frame (R192, R193, R195) -/

/-- The status byte of a reply (R192). -/
def Status.code : Status → Nat
  | .ok => 0
  | .accepted => 1
  | .unchanged => 2
  | .badArgument => 3
  | .unknownRequest => 4
  | .refusedMode => 5
  | .refusedState => 6
  | .notFound => 7
  | .invalidProgram => 8
  | .locked => 9
  | .libraryFull => 10
  | .libraryClosed => 11
  | .busy => 12
  | .tooSoon => 13
  | .queueFull => 14
  | .noBaseline => 15

/-- The kind a snapshot is of. -/
def NoticeData.kind : NoticeData → NoticeKind
  | .cell _ _ _ _ _ _ _ => .cell
  | .sequence _ _ _ _ _ _ _ _ => .sequence
  | .hold _ _ => .hold
  | .front _ _ _ _ _ _ => .front
  | .feed _ _ _ _ _ _ _ _ _ => .feed
  | .gauge _ _ _ _ _ _ _ _ _ _ _ => .gauge
  | .knife _ _ _ _ _ _ _ _ _ _ => .knife
  | .library _ _ _ _ _ _ => .library

/-- The bytes of a frame: the start, the body length, the kind, the tag, the body, and the check over all but the start, high
byte first (R195). -/
def frameBytes (kind : Nat) (tag : Byte) (body : List Byte) : List Byte :=
  let covered : List Byte := BitVec.ofNat 8 body.length :: BitVec.ofNat 8 kind :: tag :: body
  0x7E :: covered ++ beBytes 2 (crc16 covered).toNat

/-- The bytes of a frame that is sent: a reply of kind 2 with the request code, the status and the result; a notice of kind 3
with the notice number as its tag, the kind number and the snapshot (R192, R193, R195). -/
def sentFrame : TxFrame → List Byte
  | .queueFull r => frameBytes 2 r.tag [r.code, BitVec.ofNat 8 Status.queueFull.code]
  | .reply tag code a => frameBytes 2 tag (code :: BitVec.ofNat 8 a.status.code :: a.result.bytes)
  | .notice n d => frameBytes 3 (BitVec.ofNat 8 n) (BitVec.ofNat 8 d.kind.number :: d.bytes)

/-! ## The transmitter (R191) -/

/-- The next frame, by the order of R191: a QUEUE_FULL reply, the reply at the head, a notice. A notice raised in start-up is sent
before its end, and carries the number 0 if it is the first: the model's choice (log 77). -/
def transmitNext (b : Blocks) : Blocks :=
  match b.lnk.tx with
  | some _ => b
  | none =>
    match b.lnk.refusals, b.lnk.queue with
    | r :: rest, _ => setLnk (fun l => { l with refusals := rest, tx := some (.queueFull r) }) b
    | [], ⟨tag, body, some a⟩ :: _ => setLnk (fun l => { l with tx := some (.reply tag (body.headD 0) a) }) b
    | [], _ =>
      match nextNotice b.lnk.flags with
      | some k =>
        setLnk (fun l =>
          { l with flags := l.flags.set k false, tx := some (.notice l.noticeNumber (noticeSnapshot k b)),
                   noticeNumber := (l.noticeNumber + 1) % 256 }) b
      | none => b

/-- The last byte of a frame has been sent: the counters, the request that leaves its place, and after the reply of a
RESTART the link's start-up, which empties the queue, the refusal list and the flags (R189, R190, R194; log 20, log 22). -/
def frameSentDone (b : Blocks) : Blocks :=
  match b.lnk.tx with
  | none => b
  | some (.queueFull _) =>
    setLnk (fun l => { l with tx := none, counters := { l.counters with replies := bump l.counters.replies } }) b
  | some (.notice _ _) =>
    setLnk (fun l => { l with tx := none, counters := { l.counters with notices := bump l.counters.notices } }) b
  | some (.reply _ _ _) =>
    if b.lnk.restartReply then setLnk (fun _ => Lnk.atReset) b
    else
      setLnk (fun l =>
        { l with tx := none, queue := l.queue.tail, counters := { l.counters with replies := bump l.counters.replies } }) b

end Sys2Proof.Machine
end

