-- ==== Sys2Proof/Machine/FeedCommands.lean ====
section
/-! DEFINITION. The commands of the Stack Lift and the Jogger (chapters 08 and 09): the lift's requests, FEED_STATUS, the
measurements, the switches, partings, jogs and transfers. -/

namespace Sys2Proof.Machine

open Sys2Proof

/-! ## Requests -/

/-- LIFT_LOWER, judged in the order of R151. -/
def liftLowerRequest (b : Blocks) : Blocks :=
  if b.msu.mode = .standby then answer .refusedMode .nothing b
  else
    match b.lft.state with
    | .parting => answer .busy .nothing b
    | .fault => answer .refusedState .nothing b
    | .lowered | .lowering => answer .ok .nothing b
    | .raising | .atLevel | .empty => answer .accepted .nothing (liftLowers b)

/-- LIFT_LOWER (R151). -/
def execLiftLower (s : State) : Host.Outcome State Fault Refusal := run (asRequest liftLowerRequest) s

/-- LIFT_RAISE, judged in the order of R151. -/
def liftRaiseRequest (b : Blocks) : Blocks :=
  if b.msu.mode = .standby then answer .refusedMode .nothing b
  else if ¬ (b.lft.state = .lowered ∨ b.lft.state = .empty) then answer .refusedState .nothing b
  else if b.lft.baselinePending.isSome then answer .busy .nothing b
  else if b.lft.baseline = 0 then answer .noBaseline .nothing b
  else answer .accepted .nothing (liftRaises (setLft (fun l => { l with paperAtTop := false }) b))

/-- LIFT_RAISE (R151). -/
def execLiftRaise (s : State) : Host.Outcome State Fault Refusal := run (asRequest liftRaiseRequest) s

/-- FEED_PAUSE: the mark is set, and a repeated jog that still waits in RECEIVING waits for the pause's end (R152, R161). -/
def feedPauseRequest (b : Blocks) : Blocks :=
  answer .ok .nothing
    (if b.lft.feedPaused then b
     else raise .feed (pauseRepeat (setLft (fun l => { l with feedPaused := true }) b)))

/-- FEED_PAUSE (R152). -/
def execFeedPause (s : State) : Host.Outcome State Fault Refusal := run (asRequest feedPauseRequest) s

/-- FEED_RESUME: the mark clears, and with it JOG's repeat waiting mark (R152, R161). -/
def feedResumeRequest (b : Blocks) : Blocks :=
  answer .ok .nothing
    (if b.lft.feedPaused then
      raise .feed (setJog (fun j => { j with repeatWaiting := false }) (setLft (fun l => { l with feedPaused := false }) b))
     else b)

/-- FEED_RESUME (R152). -/
def execFeedResume (s : State) : Host.Outcome State Fault Refusal := run (asRequest feedResumeRequest) s

/-- SENSOR_BASELINE, judged in the order of R146. -/
def sensorBaselineRequest (window depth : Nat) (b : Blocks) : Blocks :=
  if ¬ (256 ≤ window ∧ window ≤ 4095 ∧ 5 ≤ depth ∧ depth ≤ 40) then answer .badArgument .nothing b
  else if b.msu.mode = .standby then answer .refusedMode .nothing b
  else if b.lft.baselinePending.isSome then answer .busy .nothing b
  else if ¬ (b.lft.state = .lowered ∨ b.lft.state = .empty) then answer .refusedState .nothing b
  else answer .accepted .nothing (setLft (fun l => { l with baselinePending := some ⟨window, depth⟩ }) b)

/-- SENSOR_BASELINE (R146). -/
def execSensorBaseline (window depth : Nat) (s : State) : Host.Outcome State Fault Refusal :=
  run (asRequest (sensorBaselineRequest window depth)) s

/-- The jog record as it reads now: while a jog is in progress, the whole periods run so far (R156, R166). -/
def jogRecordNow (b : Blocks) : Option JogRecord :=
  b.jog.record.map fun r =>
    if b.jog.state = .jogging then { r with periods := (b.clock - r.start) / r.period } else r

/-- JOG's status (R166). -/
def joggerStatus (b : Blocks) : JoggerStatus :=
  { state := b.jog.state, fault := b.jog.fault, entry := b.inputs.entry, frontStop := b.inputs.frontStop,
    sideStop := b.inputs.sideStop, carriageHome := b.inputs.carriageHome, backTable := b.inputs.backTable,
    retries := b.jog.retries, repeatWaiting := b.jog.repeatWaiting, lastCheck := b.jog.lastCheck, record := jogRecordNow b,
    transferred := b.jog.transferred, mayTransfer := b.jog.state == .aligned && (transferRefusal b).isNone,
    transferRefusal := if b.jog.state = .aligned then transferRefusal b else none }

/-- The result of FEED_STATUS (R155). -/
def feedStatusData (b : Blocks) : FeedStatusData :=
  { state := b.lft.state, fault := b.lft.fault, height := b.lft.height, lowerLimit := b.inputs.lowerLimit,
    topLimit := b.inputs.topLimit, bladeHome := b.inputs.bladeHome, pusherHome := b.inputs.pusherHome,
    baseline := b.lft.baseline, window := b.lft.window, depth := b.lft.depth, latest := b.lft.latest,
    judgement := b.lft.judgement, baselinePending := b.lft.baselinePending.isSome, partedOff := b.lft.partedOff,
    lot := if jobUnderWay b then some b.seq.run.lot else none, feedPaused := b.lft.feedPaused,
    mayPart := b.lft.state == .atLevel && (partRefusal b).isNone,
    partRefusal := if b.lft.state = .atLevel then partRefusal b else none, jogger := joggerStatus b }

/-- FEED_STATUS (R155). -/
def feedStatusRequest (b : Blocks) : Blocks := answer .ok (.feed (feedStatusData b)) b

/-- FEED_STATUS (R155). -/
def execFeedStatus (s : State) : Host.Outcome State Fault Refusal := run (asRequest feedStatusRequest) s

/-! ## The lift's events -/

/-- LEVEL_MEASUREMENT (R144). -/
def execLevelMeasurement (count : Nat) (s : State) : Host.Outcome State Fault Refusal := run (levelMeasured count) s

/-- BASELINE_MEASUREMENT (R146). -/
def execBaselineMeasurement (count : Nat) (s : State) : Host.Outcome State Fault Refusal := run (baselineMeasured count) s

/-- TOP_LIMIT_COVERED (R148). -/
def execTopLimitCovered (s : State) : Host.Outcome State Fault Refusal := run topLimitCovers s

/-- LOWER_LIMIT_COVERED (R151). -/
def execLowerLimitCovered (s : State) : Host.Outcome State Fault Refusal := run lowerLimitCovers s

/-- A parting begins in AT_LEVEL when every condition of R149 holds. -/
def tryParting (b : Blocks) : Blocks := if b.lft.state = .atLevel ∧ (partRefusal b).isNone = true then partingBegins b else b

/-- PARTING_BEGIN (R149). -/
def execPartingBegin (s : State) : Host.Outcome State Fault Refusal := run tryParting s

/-- The entry sensor covers: the end of a parting, and what JOG takes of it (R150, R157). -/
def entryCovers (b : Blocks) : Blocks :=
  let b1 := setInputs (fun i => { i with entry := true }) b
  if b.lft.state = .parting then entryEvent true (partingEnds b1) else entryEvent false b1

/-- ENTRY_SENSOR_COVERED (R150). -/
def execEntrySensorCovered (s : State) : Host.Outcome State Fault Refusal := run entryCovers s

/-- PART_TIMEOUT: the 6 s expire in PARTING (R150). -/
def partTimeout (b : Blocks) : Blocks :=
  if b.lft.state = .parting then lftFault .partTimeout (clockAt b.lft.deadline b) else b

/-- PART_TIMEOUT (R150). -/
def execPartTimeout (s : State) : Host.Outcome State Fault Refusal := run partTimeout s

/-- Both home switches of the gear are covered: its way back from a parting ends, and a withdrawal of a reset goes on (R150,
R154). -/
def gearHomes (b : Blocks) : Blocks :=
  let b1 := gearArrives (setInputs (fun i => { i with bladeHome := true, pusherHome := true }) b)
  if b.lft.withdrawing then gearWithdrawn b1 else b1

/-- GEAR_HOME (R154). -/
def execGearHome (s : State) : Host.Outcome State Fault Refusal := run gearHomes s

/-- GEAR_WITHDRAW_TIMEOUT: the 6 s of a withdrawal expire (R154). -/
def gearWithdrawTimeout (b : Blocks) : Blocks :=
  if b.lft.withdrawing then lftFault .partTimeout (clockAt b.lft.deadline b) else b

/-- GEAR_WITHDRAW_TIMEOUT (R154). -/
def execGearWithdrawTimeout (s : State) : Host.Outcome State Fault Refusal := run gearWithdrawTimeout s

/-! ## The jogger's events -/

/-- JOG_BEGIN: a jog begins in RECEIVING when every condition of R157 holds, and no reset draws the carriage back. -/
def jogBegins (b : Blocks) : Blocks := if b.jog.resetting then b else tryJog b

/-- JOG_BEGIN (R157, R158). -/
def execJogBegin (s : State) : Host.Outcome State Fault Refusal := run jogBegins s

/-- JOG_END: the last whole period ends, with the stop-edge sensors as they then stand (R159, R160). -/
def jogEnds (front side : Bool) (b : Blocks) : Blocks :=
  if b.jog.state = .jogging then
    jogEnd (setInputs (fun i => { i with frontStop := front, sideStop := side }) (clockAt b.jog.deadline b))
  else b

/-- JOG_END (R159). -/
def execJogEnd (front side : Bool) (s : State) : Host.Outcome State Fault Refusal := run (jogEnds front side) s

/-- A stop edge is covered. -/
def stopCovered (edge : StopEdge) (b : Blocks) : Bool :=
  match edge with
  | .front => b.inputs.frontStop
  | .side => b.inputs.sideStop

/-- A stop edge uncovers: in ALIGNED the portion is disturbed, a failed check (R160). -/
def stopUncovers (edge : StopEdge) (b : Blocks) : Blocks :=
  if !stopCovered edge b then b
  else
    let b1 := match edge with
      | .front => setInputs (fun i => { i with frontStop := false }) b
      | .side => setInputs (fun i => { i with sideStop := false }) b
    if b.jog.state = .aligned then
      checkFailed (setJog (fun j => { j with lastCheck := some ⟨b1.inputs.frontStop, b1.inputs.sideStop⟩ }) b1)
    else b1

/-- STOP_EDGE_UNCOVERED (R160). -/
def execStopEdgeUncovered (edge : StopEdge) (s : State) : Host.Outcome State Fault Refusal := run (stopUncovers edge) s

/-- The entry sensor uncovers: PORTION_LOST in RECEIVING, JOGGING and ALIGNED (R164). -/
def entryUncovers (b : Blocks) : Blocks :=
  if !b.inputs.entry then b
  else
    let b1 := setInputs (fun i => { i with entry := false }) b
    match b.jog.state with
    | .receiving | .jogging | .aligned => jogFault .portionLost b1
    | _ => b1

/-- ENTRY_SENSOR_UNCOVERED (R164). -/
def execEntrySensorUncovered (s : State) : Host.Outcome State Fault Refusal := run entryUncovers s

/-- A transfer begins: the figures of the block are taken from the snapshot and the carriage goes out (R162; log 4). -/
def transferBegins (snap : Snapshot) (b : Blocks) : Blocks :=
  setInputs (fun i => { i with carriageHome := false }) (setJog (fun j =>
    { j with state := .transferring, deadline := after b Config.carriageMs,
             figures := some { depth := snap.depth, width := snap.width, height := snap.height,
                               stretchA := snap.stock.stretchA, stretchB := snap.stock.stretchB } }) b)

/-- TRANSFER_BEGIN: in ALIGNED when every condition of R162 holds. -/
def tryTransfer (b : Blocks) : Blocks :=
  match b.seq.snapshot with
  | some snap =>
    if b.jog.state = .aligned ∧ b.jog.resetting = false ∧ (transferRefusal b).isNone = true then transferBegins snap b else b
  | none => b

/-- TRANSFER_BEGIN (R162). -/
def execTransferBegin (s : State) : Host.Outcome State Fault Refusal := run tryTransfer s

/-- TRANSFER_TIMEOUT: the 4 s of a transfer expire (R163, R164). -/
def transferTimeout (b : Blocks) : Blocks :=
  if b.jog.state = .transferring then jogFault .transferTimeout (clockAt b.jog.deadline b) else b

/-- TRANSFER_TIMEOUT (R163). -/
def execTransferTimeout (s : State) : Host.Outcome State Fault Refusal := run transferTimeout s

/-- CARRIAGE_HOME: the carriage home switch covers (R163, R165). -/
def carriageHomes (b : Blocks) : Blocks := carriageIsHome (setInputs (fun i => { i with carriageHome := true }) b)

/-- CARRIAGE_HOME (R163). -/
def execCarriageHome (s : State) : Host.Outcome State Fault Refusal := run carriageHomes s

/-- The carriage's return runs: after a transfer in EMPTY or RECEIVING, or in a reset, and not suspended (R163 to R165). -/
def returnRuns (b : Blocks) : Bool :=
  b.jog.suspended.isNone && b.jog.deadline.isSome
    && (b.jog.resetting || (b.jog.carriageReturning && (b.jog.state == .empty || b.jog.state == .receiving)))

/-- CARRIAGE_TIMEOUT: the 4 s of the carriage's return expire (R163, R165). A reset under way leaves no code that could stay. -/
def carriageTimeout (b : Blocks) : Blocks :=
  if returnRuns b then
    let b1 := clockAt b.jog.deadline b
    raise .feed (setJog (fun j =>
      { j with state := .fault, fault := some .carriageTimeout, record := none, figures := none, resetting := false,
               deadline := none }) b1)
  else b

/-- CARRIAGE_TIMEOUT (R163). -/
def execCarriageTimeout (s : State) : Host.Outcome State Fault Refusal := run carriageTimeout s

end Sys2Proof.Machine
end

