-- ==== Sys2Proof/Machine/GaugeCommands.lean ====
section
/-! DEFINITION. The commands of the Gauge Axis: GAUGE_HOME, GAUGE_JOG, GAUGE_STATUS, and the events of the drive, the
encoder and the switches (chapter 05). -/

namespace Sys2Proof.Machine

open Sys2Proof

/-! ## Requests -/

/-- GAUGE_HOME, judged in the order of R89. -/
def gaugeHomeRequest (b : Blocks) : Blocks :=
  if b.msu.mode ≠ .setup then answer .refusedMode .nothing b
  else if gaxInMotion b then answer .busy .nothing b
  else if b.gax.state = .fault ∨ moveConditions b = false then answer .refusedState .nothing b
  else answer .accepted .nothing (gaxHome b)

/-- GAUGE_HOME (R89). -/
def execGaugeHome (s : State) : Host.Outcome State Fault Refusal := run (asRequest gaugeHomeRequest) s

/-- The result of a GAUGE_JOG, from the move record of the move begun (R99). -/
def jogResult (b : Blocks) : Result :=
  match b.gax.move with
  | some m => .jog m.target m.countTarget m.approach m.clamped m.uncorrected
  | none => .nothing

/-- A jog begins, with its target limited to the travel (R79, R99). -/
def jogMove (target : Int) (b : Blocks) : Blocks :=
  let p := limitToTravel target
  gaxBegin .jog .terminal p (p != target) ((startingPosition b).getD p) b

/-- GAUGE_JOG, judged in the order of R99. -/
def gaugeJogRequest (target : Int) (b : Blocks) : Blocks :=
  if b.msu.mode ≠ .setup then answer .refusedMode .nothing b
  else if gaxInMotion b then answer .busy .nothing b
  else if b.gax.state ≠ .standstill ∨ moveConditions b = false then answer .refusedState .nothing b
  else answer .accepted (jogResult (jogMove target b)) (jogMove target b)

/-- GAUGE_JOG (R99). -/
def execGaugeJog (target : Int) (s : State) : Host.Outcome State Fault Refusal := run (asRequest (gaugeJogRequest target)) s

/-- The result of GAUGE_STATUS (R105). -/
def gaugeStatusData (b : Blocks) : GaugeStatusData :=
  { state := b.gax.state, homing := if b.gax.state = .homing then some b.gax.homing else none, fault := b.gax.fault,
    referenced := b.gax.referenced, inPosition := b.gax.inPosition, drive := b.gax.drive, encoder := b.inputs.encoder,
    position := gaxPosition b, start := startingPosition b, pending := b.gax.pending, move := b.gax.move,
    invalidPoints := invalidPoints b.gax.table }

/-- GAUGE_STATUS (R105). -/
def gaugeStatusRequest (b : Blocks) : Blocks := answer .ok (.gauge (gaugeStatusData b)) b

/-- GAUGE_STATUS (R105). -/
def execGaugeStatus (s : State) : Host.Outcome State Fault Refusal := run (asRequest gaugeStatusRequest) s

/-! ## Moves -/

/-- PENDING_MOVE_BEGIN (R92). -/
def execPendingMoveBegin (s : State) : Host.Outcome State Fault Refusal := run beginPending s

/-- The count target of the last move. -/
def countTarget (b : Blocks) : Int := (b.gax.move.map (·.countTarget)).getD 0

/-- The encoder reads within the band of the count target (R82, R96). -/
def inBand (encoder : Int) (b : Blocks) : Bool := decide (|encoder - countTarget b| ≤ Config.band)

/-- The profile of the present leg is complete: the end of a stop, of the overshoot leg, or of the last leg (R95, R100). After the
overshoot the drive is given the count target (R95). -/
def profileComplete (encoder : Int) (b : Blocks) : Blocks :=
  let b1 := setInputs (fun i => { i with encoder := encoder }) b
  if b.gax.stopping then gaxStopped b1
  else
    match b.gax.state, b.gax.move with
    | .moving, some m =>
      if m.leg = .overshoot then setGax (fun g => { g with move := some { m with leg := .final }, driveCount := some m.countTarget }) b1
      else gaxSettle b1
    | .homing, _ => if b.gax.homing = .final ∧ b.gax.finalSettling = false then gaxSettle b1 else b1
    | _, _ => b1

/-- PROFILE_COMPLETE (R95). -/
def execProfileComplete (encoder : Int) (s : State) : Host.Outcome State Fault Refusal := run (profileComplete encoder) s

/-- The in-position test runs: SETTLING, or the settling of FINAL (R90, R96). -/
def settlingNow (b : Blocks) : Bool := b.gax.state == .settling || (b.gax.state == .homing && b.gax.finalSettling)

/-- The 60 ms are complete before the settle limit expires (R96). -/
def bandTimeFits (from_ : Ms) (b : Blocks) : Bool :=
  match b.gax.deadline with
  | some d => decide (from_ + Config.bandMs ≤ d)
  | none => true

/-- The 60 ms of an in-position test under way begin again (R96). -/
def bandRestarts (b : Blocks) : Blocks := setGax (fun g => { g with bandFrom := some b.clock }) b

/-- The encoder has read within the band for 60 ms, which end no later than the settle limit: STANDSTILL with the mark, and the
completion is reported to the asker (R96; the clock, log 1). -/
def bandHeld (m : MoveRecord) (from_ : Ms) (encoder : Int) (b : Blocks) : Blocks :=
  if bandTimeFits from_ b then
    let b1 := gaxInPosition m (setInputs (fun i => { i with encoder := encoder }) (clockAt (some (from_ + Config.bandMs)) b))
    if m.asker = .seq then seqInPosition m.kind b1 else raise .gauge b1
  else b

/-- The encoder reads within the band in an in-position test: the 60 ms have passed where the last reading stood within it too,
and begin with this reading where that one stood outside (R96; log 52). -/
def inPosition (encoder : Int) (b : Blocks) : Blocks :=
  match b.gax.move, b.gax.bandFrom with
  | some m, some t =>
    if settlingNow b = true ∧ inBand encoder b = true then
      if inBand b.inputs.encoder b then bandHeld m t encoder b
      else bandRestarts (setInputs (fun i => { i with encoder := encoder }) b)
    else b
  | _, _ => b

/-- IN_POSITION (R96). -/
def execInPosition (encoder : Int) (s : State) : Host.Outcome State Fault Refusal := run (inPosition encoder) s

/-- The encoder reads outside the band: in STANDSTILL the mark clears, in an in-position test the 60 ms begin again (R96). -/
def encoderOutOfBand (encoder : Int) (b : Blocks) : Blocks :=
  let b1 := setInputs (fun i => { i with encoder := encoder }) b
  if inBand encoder b then b1
  else if b.gax.state = .standstill ∧ b.gax.inPosition = true then
    raise .gauge (setGax (fun g => { g with inPosition := false, start := .estimate }) b1)
  else if settlingNow b then bandRestarts b1
  else b1

/-- ENCODER_OUT_OF_BAND (R96). -/
def execEncoderOutOfBand (encoder : Int) (s : State) : Host.Outcome State Fault Refusal := run (encoderOutOfBand encoder) s

/-! ## Timeouts -/

/-- A move time runs: MOVING, or the FINAL move of a homing run, not stopping and not settling (R84, R90). -/
def moveTimeRuns (b : Blocks) : Bool :=
  !b.gax.stopping && (b.gax.state == .moving || (b.gax.state == .homing && b.gax.homing == .final && !b.gax.finalSettling))

/-- The 8 s of a homing run before the mark run (R90). -/
def homingTimeRuns (b : Blocks) : Bool := !b.gax.stopping && b.gax.state == .homing && b.gax.homing != .final

/-- A time of GAX expires, when it runs: the clock stands at its end and the axis faults (R102; log 1). -/
def gaxExpires (runs : Bool) (code : GaxFault) (b : Blocks) : Blocks :=
  if runs then gaxFaults code (clockAt b.gax.deadline b) else b

/-- MOVE_TIMEOUT: the move time expires (R95, R102). -/
def execMoveTimeout (s : State) : Host.Outcome State Fault Refusal := run (fun b => gaxExpires (moveTimeRuns b) .moveTimeout b) s

/-- HOMING_TIMEOUT: the 8 s expire before the reference mark (R91, R102). -/
def execHomingTimeout (s : State) : Host.Outcome State Fault Refusal :=
  run (fun b => gaxExpires (homingTimeRuns b) .moveTimeout b) s

/-- STOP_TIMEOUT: the 800 ms of a commanded stop expire (R100, R102). -/
def execStopTimeout (s : State) : Host.Outcome State Fault Refusal := run (fun b => gaxExpires b.gax.stopping .moveTimeout b) s

/-- SETTLE_TIMEOUT: the settle limit expires (R96, R102). -/
def execSettleTimeout (s : State) : Host.Outcome State Fault Refusal :=
  run (fun b => gaxExpires (settlingNow b) .settleTimeout b) s

/-! ## Switches and the drive -/

/-- The reference switch uncovers: CLEAR goes on to SEEK (R90). -/
def referenceUncovered (b : Blocks) : Blocks :=
  let b1 := setInputs (fun i => { i with referenceSwitch := false }) b
  if b.gax.state = .homing ∧ b.gax.homing = .clear ∧ b.gax.stopping = false then
    setGax (fun g => { g with homing := .seek }) b1
  else b1

/-- REFERENCE_SWITCH_UNCOVERED (R90). -/
def execReferenceSwitchUncovered (s : State) : Host.Outcome State Fault Refusal := run referenceUncovered s

/-- The index pulse with the reference switch covered, taken in SEEK (R90). -/
def referenceMarkTaken (b : Blocks) : Blocks :=
  if b.gax.state = .homing ∧ b.gax.homing = .seek ∧ b.gax.stopping = false then gaxReference b else b

/-- REFERENCE_MARK (R90). -/
def execReferenceMark (s : State) : Host.Outcome State Fault Refusal := run referenceMarkTaken s

/-- A limit switch becomes actuated; one that remains actuated causes nothing (R102). -/
def limitActuated (which : LimitEnd) (b : Blocks) : Blocks :=
  match which with
  | .front =>
    if b.inputs.frontLimit then b else gaxFaults .limitSwitch (setInputs (fun i => { i with frontLimit := true }) b)
  | .rear =>
    if b.inputs.rearLimit then b else gaxFaults .limitSwitch (setInputs (fun i => { i with rearLimit := true }) b)

/-- LIMIT_SWITCH (R102). -/
def execLimitSwitch (which : LimitEnd) (s : State) : Host.Outcome State Fault Refusal := run (limitActuated which) s

/-- The drive reports a fault (R102). -/
def driveReportsFault (b : Blocks) : Blocks := gaxFaults .driveFault (setInputs (fun i => { i with driveFault := true }) b)

/-- DRIVE_FAULT (R102). -/
def execDriveFault (s : State) : Host.Outcome State Fault Refusal := run driveReportsFault s

end Sys2Proof.Machine
end

