-- ==== Sys2Proof/Machine/KnifeCommands.lean ====
section
/-! DEFINITION. The commands of the Clamp and Knife Unit: MANUAL_CUT, KNIFE_RETURN, KNIFE_CHANGED, KNIFE_STATUS, and the
events of its buttons, switches, transducer, valves and timers (chapter 06). -/

namespace Sys2Proof.Machine

open Sys2Proof

/-! ## Requests -/

/-- The pressure of a MANUAL_CUT limited to 50..550 (R126). -/
def limitPressure (p : Nat) : Nat := max 50 (min 550 p)

/-- The conditions of a MANUAL_CUT beside the mode (R126). -/
def manualCutConditions (b : Blocks) : Bool :=
  b.cku.state == .open_ && b.cku.cycle.isNone && b.inputs.upperStop && b.cku.flap == .closed
    && !(gaxInMotion b || b.gax.state == .fault || (b.trk.block.isSome && b.gax.state == .unreferenced))
    && b.trn.state == .parked && chainOk b && manualCutAllowed b

/-- The clamp request of a MANUAL_CUT; with the knife off TDC it fails at once (R110, R126). -/
def manualCutBegins (p : Nat) (b : Blocks) : Blocks :=
  if clampRequestTaken b then makeCycle .manual (limitPressure p) false true b else manualEnds false b

/-- MANUAL_CUT, judged in the order of R126. -/
def manualCutRequest (p : Nat) (b : Blocks) : Blocks :=
  if b.msu.mode ≠ .setup then answer .refusedMode .nothing b
  else if !manualCutConditions b then answer .refusedState .nothing b
  else answer .accepted (.pressure (limitPressure p)) (manualCutBegins p b)

/-- MANUAL_CUT (R126). -/
def execManualCut (pressure : Nat) (s : State) : Host.Outcome State Fault Refusal := run (asRequest (manualCutRequest pressure)) s

/-- The release that ends a KNIFE_RETURN, with the flap closed (R125). -/
def knifeReturnReleases (b : Blocks) : Blocks := ckuRelease (flapClose b)

/-- A KNIFE_RETURN that is taken: the gap with the lowering valve open, or the release with the knife already at TDC (R107,
R125; log 38). -/
def knifeReturnTaken (b : Blocks) : Blocks :=
  let b1 := setCku (fun c => { c with knifeReturn := true }) b
  if b.inputs.tdc then reportOpened b (knifeReturnReleases b1)
  else
    setCku (fun c =>
      { c with state := .gap, valves := { Valves.closed with lowering := true },
               deadline := some (max (b.clock + c.knife.G) (gapEnd c.downClosedAt b)) }) b1

/-- KNIFE_RETURN, judged in the order of R125. -/
def knifeReturnRequest (b : Blocks) : Blocks :=
  if b.msu.mode ≠ .setup then answer .refusedMode .nothing b
  else if b.cku.state ≠ .knifeReturnNeeded ∨ chainOk b = false ∨ ¬ (b.inputs.leftHeld = true ∧ b.inputs.rightHeld = true) then
    answer .refusedState .nothing b
  else answer .accepted .nothing (knifeReturnTaken b)

/-- KNIFE_RETURN (R125). -/
def execKnifeReturn (s : State) : Host.Outcome State Fault Refusal := run (asRequest knifeReturnRequest) s

/-- A KNIFE_CHANGED that is taken (R129). -/
def knifeChangedTaken (k : Int) (w gap : Nat) (b : Blocks) : Blocks :=
  raise .knife (ckuStore (judgeWear (setCku (fun c => { c with knife := { k := k, w := w, C := 0, G := gap } }) b)))

/-- The figures of a KNIFE_CHANGED are in range (R129). -/
def knifeArgsOk (k : Int) (w gap : Nat) : Bool := (-300 ≤ k && k ≤ 300) && w ≤ 20 && (4 ≤ gap && gap ≤ 15)

/-- KNIFE_CHANGED, judged in the order of R129. -/
def knifeChangedRequest (k : Int) (w gap : Nat) (b : Blocks) : Blocks :=
  if !knifeArgsOk k w gap then answer .badArgument .nothing b
  else if b.msu.mode ≠ .setup then answer .refusedMode .nothing b
  else if ¬ (b.cku.state = .open_ ∨ b.cku.state = .fault) ∨ b.inputs.tdc = false then answer .refusedState .nothing b
  else answer .ok .nothing (knifeChangedTaken k w gap b)

/-- KNIFE_CHANGED (R129). -/
def execKnifeChanged (k : Int) (w G : Nat) (s : State) : Host.Outcome State Fault Refusal :=
  run (asRequest (knifeChangedRequest k w G)) s

/-- The result of KNIFE_STATUS (R130). -/
def knifeStatusData (b : Blocks) : KnifeStatusData :=
  { state := b.cku.state, fault := b.cku.fault, contactDetail := b.cku.contactDetail, upperStop := b.inputs.upperStop,
    tdc := b.inputs.tdc, bdc := b.inputs.bdc, flap := b.cku.flap, sample := b.cku.sample, contact := b.cku.contact,
    cycle := b.cku.cycle, leftHeld := b.inputs.leftHeld, rightHeld := b.inputs.rightHeld, rearmed := b.cku.rearmed,
    knife := b.cku.knife, wearPart := wearPart b.cku.knife, knifeTerm := knifeTermOf b.cku.knife, wearCap := b.cku.wearCap,
    lastStored := b.cku.lastStored, unstored := b.cku.unstored, storeDeferred := b.cku.storeDeferred }

/-- KNIFE_STATUS (R130). -/
def knifeStatusRequest (b : Blocks) : Blocks := answer .ok (.knife (knifeStatusData b)) b

/-- KNIFE_STATUS (R130). -/
def execKnifeStatus (s : State) : Host.Outcome State Fault Refusal := run (asRequest knifeStatusRequest) s

/-! ## Clamping and pressure -/

/-- CLAMPING_BEGIN: a waiting clamp request begins to clamp when its conditions hold (R110). -/
def clampingBegins (b : Blocks) : Blocks :=
  match b.cku.cycle with
  | some c => if b.cku.state = .open_ ∧ clampingConditions c b = true then beginClamping b else b
  | none => b

/-- CLAMPING_BEGIN (R110). -/
def execClampingBegin (s : State) : Host.Outcome State Fault Refusal := run clampingBegins s

/-- The 10 s of a manual cut's permit begin at each entry of CLAMPED; a programmed cut has no limit (R111, R127). -/
def permitDeadline (b : Blocks) : Option Ms := if manualCycle b then after b Config.manualPermitMs else none

/-- CLAMPED is entered (R110, R117). -/
def enterClamped (b : Blocks) : Blocks := setCku (fun c => { c with state := .clamped, deadline := permitDeadline b }) b

/-- A sample is kept, with the contact mark it sets while the clamp is down or going down (R109). That a contact sample in
the GAP or RETURNING of a KNIFE_RETURN sets the mark too, with no clamping begun since start-up, is the model's choice (log
88). -/
def keepSample (n : Nat) (b : Blocks) : Blocks :=
  let bears : Bool := b.cku.state == .clamping || b.cku.state == .clamped || b.cku.state == .stroking
    || b.cku.state == .gap || b.cku.state == .returning
  setCku (fun c => { c with sample := some n, contact := c.contact || (bears && decide (20 ≤ n)) }) b

/-- A pressure sample, judged by state (R109 to R111, R116). -/
def pressureSample (sample : Nat) (b : Blocks) : Blocks :=
  let n := min 600 sample
  let b1 := keepSample n b
  match b.cku.state, b.cku.cycle with
  | .clamping, some c =>
    if c.target ≤ n then
      let b2 := enterClamped b1
      if c.asker = .seq then seqAtPressure b2 else b2
    else b1
  | .clamped, some c => if n + 30 < c.target then ckuFaults .pressureLost b1 else b1
  | .stroking, some c => if n + 30 < c.target then ckuReverses .pressure b1 else b1
  | _, _ => b1

/-- PRESSURE_SAMPLE (R109). -/
def execPressureSample (sample : Nat) (s : State) : Host.Outcome State Fault Refusal := run (pressureSample sample) s

/-- CLAMP_TIMEOUT: the 1,500 ms expire in CLAMPING (R110, R120). -/
def clampTimeout (b : Blocks) : Blocks :=
  if b.cku.state = .clamping then ckuFaults .clampTimeout (clockAt b.cku.deadline b) else b

/-- CLAMP_TIMEOUT (R110). -/
def execClampTimeout (s : State) : Host.Outcome State Fault Refusal := run clampTimeout s

/-! ## Buttons -/

/-- A button is held. -/
def buttonHeld (button : Button) (b : Blocks) : Bool :=
  match button with
  | .left => b.inputs.leftHeld
  | .right => b.inputs.rightHeld

/-- The level of a button. -/
def setButton (button : Button) (v : Bool) (b : Blocks) : Blocks :=
  match button with
  | .left => setInputs (fun i => { i with leftHeld := v }) b
  | .right => setInputs (fun i => { i with rightHeld := v }) b

/-- A button's onset: its change from released to pressed, with its time (R112). -/
def buttonPressed (button : Button) (b : Blocks) : Blocks :=
  if buttonHeld button b then b
  else
    setCku (fun c => match button with
      | .left => { c with leftOnset := some b.clock }
      | .right => { c with rightOnset := some b.clock }) (setButton button true b)

/-- TWO_HAND_BUTTON_PRESS (R112). -/
def execTwoHandButtonPress (button : Button) (s : State) : Host.Outcome State Fault Refusal := run (buttonPressed button) s

/-- The pair is re-armed by the release that leaves both buttons released (R112). -/
def rearm (b : Blocks) : Blocks := if bothReleased b then setCku (fun c => { c with rearmed := true }) b else b

/-- A button's release: it re-arms the pair, reverses a stroke, or stops a knife return (R112, R116, R125). -/
def buttonReleased (button : Button) (b : Blocks) : Blocks :=
  if !buttonHeld button b then b
  else
    let b1 := rearm (setButton button false b)
    if b.cku.state = .stroking then ckuReverses .twoHandRelease b1
    else if b.cku.knifeReturn = true ∧ (b.cku.state = .gap ∨ b.cku.state = .returning) then knifeReturnStops b1
    else b1

/-- TWO_HAND_BUTTON_RELEASE (R112). -/
def execTwoHandButtonRelease (button : Button) (s : State) : Host.Outcome State Fault Refusal := run (buttonReleased button) s

/-! ## The stroke -/

/-- STROKE_BEGIN: with the stroke permit satisfied and the valve gap passed, the down valve opens (R113, R114). -/
def strokeBegins (b : Blocks) : Blocks :=
  if strokePermit b then
    let b1 := beginStroke (clockAt (some (gapEnd b.cku.returnClosedAt b)) b)
    if seqCycle b then seqStrokeBegun b1 else b1
  else b

/-- STROKE_BEGIN (R114). -/
def execStrokeBegin (s : State) : Host.Outcome State Fault Refusal := run strokeBegins s

/-- The cycle record has taken a BDC (R115). -/
def markBdc (b : Blocks) : Blocks :=
  setCku (fun c => { c with cycle := c.cycle.map fun y => { y with bdcTaken := true } }) b

/-- BDC reported to the asker and to TRK (R115, R127). -/
def reportBdc (b : Blocks) : Blocks :=
  match b.cku.cycle with
  | some c => if c.asker = .seq then seqBdc b else manualBdcUpdate (c.knifeTerm.getD (knifeTermOf b.cku.knife)) b
  | none => b

/-- The BDC switch covers: in STROKING the cut is made (R115). -/
def bdcCovered (b : Blocks) : Blocks :=
  let b1 := setInputs (fun i => { i with bdc := true }) b
  if b.cku.state = .stroking then reportBdc (markBdc (storeIfDue (countCut (beginGap b1)))) else b1

/-- BDC_COVERED (R115). -/
def execBdcCovered (s : State) : Host.Outcome State Fault Refusal := run bdcCovered s

/-- STROKE_TIMEOUT: the 900 ms of the stroke expire: a reversal (R115, R116). -/
def strokeTimeout (b : Blocks) : Blocks :=
  if b.cku.state = .stroking then ckuReverses .strokeTime (clockAt b.cku.deadline b) else b

/-- STROKE_TIMEOUT (R115). -/
def execStrokeTimeout (s : State) : Host.Outcome State Fault Refusal := run strokeTimeout s

/-- The gap is over: the return valve opens (R107, R115, R125; the knife leaves BDC, log 4). With the TDC switch covered already
RETURNING waits for a further TDC_COVERED, the model's choice (log 76). -/
def valveGapEnds (b : Blocks) : Blocks :=
  if b.cku.state = .gap then
    let b1 := clockAt b.cku.deadline b
    setInputs (fun i => { i with bdc := false }) (setCku (fun c =>
      { c with state := .returning, valves := { Valves.closed with ret := true, lowering := true },
               deadline := after b1 Config.returnMs }) b1)
  else b

/-- VALVE_GAP_END (R114). -/
def execValveGapEnd (s : State) : Host.Outcome State Fault Refusal := run valveGapEnds s

/-- The return valve closes at TDC, and its closing is timed (R115). -/
def closeReturn (b : Blocks) : Blocks :=
  setCku (fun c => { c with valves := { c.valves with ret := false }, returnClosedAt := some b.clock, deadline := none }) b

/-- TDC at the end of a cut, or of a reversal with the rest asked: the release, with the flap closed at a rest (R115, R122). -/
def releaseAtTdc (c : Cycle) (b : Blocks) : Blocks :=
  let b1 := if c.bdcTaken = true ∧ c.asker = .seq then seqTdc b else b
  reportOpened b1 (ckuRelease (if c.restAsked then flapClose b1 else b1))

/-- TDC in RETURNING (R115, R117, R120, R125). -/
def returnedToTdc (b : Blocks) : Blocks :=
  let b1 := closeReturn b
  if b.cku.knifeReturn then reportOpened b1 (knifeReturnReleases b1)
  else
    match b.cku.fault, b.cku.cycle with
    | some code, _ => ckuEnterFault code b1
    | none, some c =>
      if c.bdcTaken = true ∨ c.restAsked = true then releaseAtTdc c b1
      else
        let b2 := enterClamped b1
        if c.asker = .seq then seqBackToPermit b2 else b2
    | none, none => reportOpened b1 (ckuRelease b1)

/-- The TDC switch covers (R115). In GAP it changes the level alone: the switch becoming covered ends RETURNING and nothing else,
the model's choice (log 76). -/
def tdcCovered (b : Blocks) : Blocks :=
  let b1 := setInputs (fun i => { i with tdc := true }) b
  if b.cku.state = .returning then returnedToTdc b1 else b1

/-- TDC_COVERED (R115). -/
def execTdcCovered (s : State) : Host.Outcome State Fault Refusal := run tdcCovered s

/-- RETURN_TIMEOUT: the 1,200 ms of the return expire; a fault recorded at the reversal keeps its code (R115, R120). -/
def returnTimeout (b : Blocks) : Blocks :=
  if b.cku.state = .returning then
    let b1 := clockAt b.cku.deadline b
    match b.cku.fault with
    | some code => ckuEnterFault code b1
    | none => ckuFaults .returnTimeout b1
  else b

/-- RETURN_TIMEOUT (R115). -/
def execReturnTimeout (s : State) : Host.Outcome State Fault Refusal := run returnTimeout s

/-! ## The release -/

/-- The upper-stop switch covers: RELEASING ends in OPEN, and the release is reported (R118). In OPEN it is no release, and is not
reported to SEQ in HELD: the model's choice (log 79). -/
def upperStopCovered (b : Blocks) : Blocks :=
  let b1 := setInputs (fun i => { i with upperStop := true }) b
  if b.cku.state = .releasing then reportOpened b (ckuOpened b1) else b1

/-- UPPER_STOP_COVERED (R118). -/
def execUpperStopCovered (s : State) : Host.Outcome State Fault Refusal := run upperStopCovered s

/-- RELEASE_TIMEOUT: the 1,500 ms of the release expire (R118, R120). -/
def releaseTimeout (b : Blocks) : Blocks :=
  if b.cku.state = .releasing then ckuFaults .releaseTimeout (clockAt b.cku.deadline b) else b

/-- RELEASE_TIMEOUT (R118). -/
def execReleaseTimeout (s : State) : Host.Outcome State Fault Refusal := run releaseTimeout s

/-- MANUAL_PERMIT_TIMEOUT: the 10 s expire in CLAMPED, and the manual cut is abandoned (R127). -/
def manualPermitTimeout (b : Blocks) : Blocks :=
  if b.cku.state = .clamped ∧ manualCycle b = true then
    let b1 := manualEnds false (clockAt b.cku.deadline b)
    reportOpened b1 (ckuRelease b1)
  else b

/-- MANUAL_PERMIT_TIMEOUT (R127). -/
def execManualPermitTimeout (s : State) : Host.Outcome State Fault Refusal := run manualPermitTimeout s

/-! ## Creep and the turner's interlock -/

/-- The clamp or the knife has left its rest: a turn in progress faults INTERLOCK_LOST (R137). -/
def turnInterlock (b : Blocks) : Blocks :=
  if b.trn.state = .gripping ∨ b.trn.state = .turning ∨ b.trn.state = .releasing then trnFaults .interlockLost b else b

/-- The TDC switch uncovers: KNIFE_CREEP with no stroke commanded, and the turner's interlock (R121, R137). CKU's fault is
the first cause, and TRN's the further one, the model's choice (log 54). -/
def tdcUncovered (b : Blocks) : Blocks :=
  if !b.inputs.tdc then b
  else
    let b1 := setInputs (fun i => { i with tdc := false }) b
    turnInterlock
      (match b.cku.state with
       | .open_ | .clamping | .clamped | .releasing => ckuFaults .knifeCreep b1
       | _ => b1)

/-- TDC_UNCOVERED (R121). -/
def execTdcUncovered (s : State) : Host.Outcome State Fault Refusal := run tdcUncovered s

/-- The upper-stop switch uncovers: CLAMP_CREEP in OPEN, and the interlocks of the gauge, the turner and a transfer (R93,
R121, R137, R162). CKU's fault, with the hold it makes, comes before the interlock stop and before TRN's fault, the model's
choice (log 54). -/
def upperStopUncovered (b : Blocks) : Blocks :=
  if !b.inputs.upperStop then b
  else
    let b1 := setInputs (fun i => { i with upperStop := false }) b
    let b2 := if b.cku.state = .open_ then ckuFaults .clampCreep b1 else b1
    jogWatch (turnInterlock (gaxInterlock b2))

/-- UPPER_STOP_UNCOVERED (R121). -/
def execUpperStopUncovered (s : State) : Host.Outcome State Fault Refusal := run upperStopUncovered s

/-! ## The flap (R119) -/

/-- The flap's open switch covers: OPENING ends, and the flap is reported open. -/
def flapOpens (b : Blocks) : Blocks :=
  let b1 := setInputs (fun i => { i with flapOpenSw := true }) b
  if b.cku.flap = .opening then seqFlapOpen (setCku (fun c => { c with flap := .opened, flapDeadline := none }) b1) else b1

/-- FLAP_OPEN_SWITCH_COVERED (R119). -/
def execFlapOpenSwitchCovered (s : State) : Host.Outcome State Fault Refusal := run flapOpens s

/-- The flap's closed switch covers: CLOSING ends, and the flap is reported closed. -/
def flapCloses (b : Blocks) : Blocks :=
  let b1 := setInputs (fun i => { i with flapClosedSw := true }) b
  if b.cku.flap = .closing then
    seqFlapClosed (ckuResetEnds (setCku (fun c => { c with flap := .closed, flapDeadline := none }) b1))
  else b1

/-- FLAP_CLOSED_SWITCH_COVERED (R119). -/
def execFlapClosedSwitchCovered (s : State) : Host.Outcome State Fault Refusal := run flapCloses s

/-- FLAP_TIMEOUT: the 600 ms of a movement expire; the flap is OPEN, not known to be closed (R119, R120). -/
def flapTimeout (b : Blocks) : Blocks :=
  if b.cku.flap = .opening ∨ b.cku.flap = .closing then
    ckuFaults .flapTimeout (setCku (fun c => { c with flap := .opened, flapDeadline := none }) (clockAt b.cku.flapDeadline b))
  else b

/-- FLAP_TIMEOUT (R119). -/
def execFlapTimeout (s : State) : Host.Outcome State Fault Refusal := run flapTimeout s

end Sys2Proof.Machine
end

