-- ==== Sys2Proof/Machine/LibraryCommands.lean ====
section
/-! DEFINITION. The commands of the Job Library: the staged transfer, the other writes and deletes, the reads, compaction
and LIB_ERASE (chapter 11). -/

namespace Sys2Proof.Machine

open Sys2Proof

/-! ## The order of the tests (R181) -/

/-- Tests 1 to 4 of R181 for a request: its fields in range, whether the lock key bars it, whether a closed library does,
whether COMPACTING does; the first that fails gives the reply. -/
def libJudge (fields lockable closable busy : Bool) (b : Blocks) : Option Status :=
  if !fields then some .badArgument
  else if lockable && b.inputs.locked then some .locked
  else if closable && b.lib.state == .closed then some .libraryClosed
  else if busy && b.lib.state == .compacting then some .busy
  else none

/-- A library request: the tests of R181, then its own part. -/
def libRequest (fields lockable closable busy : Bool) (f : Blocks → Blocks) (b : Blocks) : Blocks :=
  match libJudge fields lockable closable busy b with
  | some st => answer st .nothing b
  | none => f b

/-! ## The staged transfer (R182, R183) -/

/-- A kind that may be staged or read: JOB or SUB, with a key in its range (R182, R187). -/
def programKey (kind key : Nat) : Option RecKind :=
  match kindOf kind with
  | some .job => if keyInRange .job key then some .job else none
  | some .sub => if keyInRange .sub key then some .sub else none
  | _ => none

/-- A JOB_BEGIN that is taken: a new staging with nothing received (R182). -/
def stagingBegins (kind : RecKind) (key length : Nat) (b : Blocks) : Blocks :=
  answer .ok .nothing (setLib (fun l => { l with staging := some ⟨kind, key, length, [], b.clock⟩ }) b)

/-- JOB_BEGIN (R182). -/
def jobBeginRequest (kind key length : Nat) (b : Blocks) : Blocks :=
  match programKey kind key with
  | none => answer .badArgument .nothing b
  | some k => libRequest (1 ≤ length && length ≤ 2048) true true false (stagingBegins k key length) b

/-- JOB_BEGIN (R182). -/
def execJobBegin (kind key length : Nat) (s : State) : Host.Outcome State Fault Refusal :=
  run (asRequest (jobBeginRequest kind key length)) s

/-- JOB_PART past the tests of R181: it must follow what is received and end within the declared length (R182). -/
def stagingPart (offset : Nat) (data : List Byte) (b : Blocks) : Blocks :=
  match b.lib.staging with
  | none => answer .refusedState .nothing b
  | some g =>
    if offset ≠ g.body.length ∨ g.declared < g.body.length + data.length then answer .badArgument .nothing b
    else
      answer .ok (.received (g.body.length + data.length))
        (setLib (fun l => { l with staging := some { g with body := g.body ++ data, since := b.clock } }) b)

/-- JOB_PART (R182). -/
def jobPartRequest (offset : Nat) (data : List Byte) (b : Blocks) : Blocks :=
  libRequest (data != []) true true false (stagingPart offset data) b

/-- JOB_PART (R182). -/
def execJobPart (offset : Nat) (data : List Byte) (s : State) : Host.Outcome State Fault Refusal :=
  run (asRequest (jobPartRequest offset data)) s

/-- The staging is discarded. -/
def discardStaging (b : Blocks) : Blocks := setLib (fun l => { l with staging := none }) b

/-- Step 3 of a JOB_END: the staged body is placed, and the reply follows (R183). -/
def placeStaged (g : Staging) (b : Blocks) : Blocks :=
  match placeRecord g.kind g.key g.body b with
  | (b1, .ok) => answer .ok (.written g.kind g.key b.lib.nextSeq) (discardStaging b1)
  | (b1, .unchanged) => answer .unchanged (.same g.kind g.key) (discardStaging b1)
  | (b1, .libraryFull) => answer .libraryFull .nothing b1
  | (b1, st) => answer st .nothing (discardStaging b1)

/-- JOB_END past the tests of R181 (R16, R183). -/
def stagingEnds (check : Nat) (b : Blocks) : Blocks :=
  match b.lib.staging with
  | none => answer .refusedState .nothing b
  | some g =>
    if g.body.length < g.declared then answer .badArgument .nothing b
    else if (crc16 g.body).toNat ≠ check then answer .badArgument .transferCheck (discardStaging b)
    else
      match recordChecks g.kind g.key g.body with
      | some f => answer .invalidProgram (.failingRecord g.kind g.key (some f)) (discardStaging b)
      | none => placeStaged g b

/-- JOB_END (R183). -/
def jobEndRequest (check : Nat) (b : Blocks) : Blocks := libRequest true true true true (stagingEnds check) b

/-- JOB_END (R183). -/
def execJobEnd (check : Nat) (s : State) : Host.Outcome State Fault Refusal := run (asRequest (jobEndRequest check)) s

/-- STAGING_LAPSE: 10 s have passed since the last part; not while COMPACTING (R182). -/
def stagingLapses (b : Blocks) : Blocks :=
  match b.lib.staging with
  | none => b
  | some g =>
    if b.lib.state = .compacting then b
    else libEvent .stagingLapse (discardStaging (clockAt (some (g.since + Config.stagingMs)) b))

/-- STAGING_LAPSE (R182). -/
def execStagingLapse (s : State) : Host.Outcome State Fault Refusal := run stagingLapses s

/-! ## Reads (R187) -/

/-- JOB_READ past the tests of R181: at most 200 bytes of the current body (R187). -/
def readBody (kind : RecKind) (key offset : Nat) (b : Blocks) : Blocks :=
  match currentItem b.lib kind key with
  | none => answer .notFound .nothing b
  | some r =>
    if r.body.length ≤ offset then answer .badArgument .nothing b
    else answer .ok (.body r.seq r.body.length ((r.body.drop offset).take 200)) b

/-- JOB_READ (R187). -/
def jobReadRequest (kind key offset : Nat) (b : Blocks) : Blocks :=
  match programKey kind key with
  | none => answer .badArgument .nothing b
  | some k => libRequest true false true false (readBody k key offset) b

/-- JOB_READ (R187). -/
def execJobRead (kind key offset : Nat) (s : State) : Host.Outcome State Fault Refusal :=
  run (asRequest (jobReadRequest kind key offset)) s

/-- STOCK_READ past the tests of R181 (R187; log 15). -/
def readStock (key : Nat) (b : Blocks) : Blocks :=
  match currentItem b.lib .stock key with
  | none => answer .notFound .nothing b
  | some r =>
    match decodeStock r.body with
    | some f => answer .ok (.stock f r.seq) b
    | none => answer .notFound .nothing b

/-- STOCK_READ (R187). -/
def stockReadRequest (key : Nat) (b : Blocks) : Blocks :=
  libRequest (keyInRange .stock key) false true false (readStock key) b

/-- STOCK_READ (R187). -/
def execStockRead (key : Nat) (s : State) : Host.Outcome State Fault Refusal := run (asRequest (stockReadRequest key)) s

/-- A range of correction points (R184). -/
def corrRangeOk (start count : Nat) : Bool :=
  start ≤ 231 && (1 ≤ count && count ≤ 29) && start + count ≤ Config.corrPoints

/-- The current values of a range of points. -/
def currentRange (start count : Nat) (l : Lib) : List (Option Int) :=
  (List.range count).map fun i => currentPoint l (start + i)

/-- CORR_READ (R187). -/
def corrReadRequest (start count : Nat) (b : Blocks) : Blocks :=
  libRequest (corrRangeOk start count) false true false
    (fun b => answer .ok (.corrValues (currentRange start count b.lib)) b) b

/-- CORR_READ (R187). -/
def execCorrRead (start count : Nat) (s : State) : Host.Outcome State Fault Refusal :=
  run (asRequest (corrReadRequest start count)) s

/-- The work LIB_STATUS names while COMPACTING (R187). -/
def workStatus : Option LibWork → Option WorkStatus
  | some (.compact _ _ _ done total) => some ⟨.compact, done, total⟩
  | some (.eraseAll i) => some ⟨.erase, i, Config.sections⟩
  | _ => none

/-- The staging as LIB_STATUS shows it; while COMPACTING its 10 s stand in full (R182, R187). -/
def stagingStatus (b : Blocks) (g : Staging) : StagingStatus :=
  { kind := g.kind, key := g.key, declared := g.declared, received := g.body.length,
    timeLeft := if b.lib.state = .compacting then Config.stagingMs else g.since + Config.stagingMs - b.clock }

/-- The room in the open section; a compaction has closed it (R185, R187; log 46). -/
def roomShown (l : Lib) : Nat :=
  match l.work with
  | some (.compact _ _ _ _ _) => 0
  | _ => roomLeft l

/-- The result of LIB_STATUS (R187). -/
def libStatusData (b : Blocks) : LibStatusData :=
  { state := b.lib.state, work := workStatus b.lib.work, erased := erasedCount b.lib.flash, inUse := inUseCount b.lib.flash,
    bad := (b.lib.flash.filter Section.isBad).length,
    room := roomShown b.lib, nextSeq := b.lib.nextSeq,
    damaged := b.lib.damaged, staging := b.lib.staging.map (stagingStatus b), locked := b.inputs.locked,
    failure := if b.lib.state = .closed then b.lib.failure else none }

/-- LIB_STATUS, answered in every state (R187). -/
def libStatusRequest (b : Blocks) : Blocks := answer .ok (.library (libStatusData b)) b

/-- LIB_STATUS (R187). -/
def execLibStatus (s : State) : Host.Outcome State Fault Refusal := run (asRequest libStatusRequest) s

/-! ## Writes and deletes (R184) -/

/-- A write's outcome as its reply. -/
def answerWrite (p : Blocks × Status) : Blocks := answer p.2 .nothing p.1

/-- STOCK_WRITE (R3, R184). -/
def stockWriteRequest (key : Nat) (figures : StockFigures) (b : Blocks) : Blocks :=
  libRequest (keyInRange .stock key && StockFigures.inRange figures) true true true
    (fun b => answerWrite (placeRecord .stock key (StockFigures.encode figures) b)) b

/-- STOCK_WRITE (R184). -/
def execStockWrite (key : Nat) (figures : StockFigures) (s : State) : Host.Outcome State Fault Refusal :=
  run (asRequest (stockWriteRequest key figures)) s

/-- JOB_DELETE past the tests of R181: UNCHANGED when absent, otherwise a tombstone (R184). -/
def deleteItem (kind : RecKind) (key : Nat) (b : Blocks) : Blocks :=
  match currentItem b.lib kind key with
  | none => answer .unchanged .nothing b
  | some _ => answerWrite (programNext kind key [] b)

/-- A kind that may be deleted, with a key in its range (R184). -/
def deleteKey (kind key : Nat) : Option RecKind :=
  match kindOf kind with
  | some .job => if keyInRange .job key then some .job else none
  | some .sub => if keyInRange .sub key then some .sub else none
  | some .stock => if keyInRange .stock key then some .stock else none
  | _ => none

/-- JOB_DELETE (R184). -/
def jobDeleteRequest (kind key : Nat) (b : Blocks) : Blocks :=
  match deleteKey kind key with
  | none => answer .badArgument .nothing b
  | some k => libRequest true true true true (deleteItem k key) b

/-- JOB_DELETE (R184). -/
def execJobDelete (kind key : Nat) (s : State) : Host.Outcome State Fault Refusal :=
  run (asRequest (jobDeleteRequest kind key)) s

/-- A correction value that may be written (R184). -/
def corrValueOk : Option Int → Bool
  | none => true
  | some v => -250 ≤ v && v ≤ 250

/-- The first place at which two lists of values differ. -/
def firstDifference : List (Option Int) → List (Option Int) → Option Nat
  | a :: as, c :: cs => if a = c then (firstDifference as cs).map (· + 1) else some 0
  | _, _ => none

/-- Points of a table replaced from a place on. -/
def putPoints (table : List (Option Int)) (first : Nat) (values : List (Option Int)) : List (Option Int) :=
  table.take first ++ values ++ table.drop (first + values.length)

/-- CORR_WRITE past the tests of R181: one record from the first point that differs, which GAX then receives (R104, R184). -/
def writeCorrections (start : Nat) (values : List (Option Int)) (b : Blocks) : Blocks :=
  match firstDifference (currentRange start values.length b.lib) values with
  | none => answer .unchanged .nothing b
  | some i =>
    let rest := values.drop i
    match programNext .corr (start + i) (encodeCorr rest) b with
    | (b1, .ok) => answer .ok (.corrWritten (start + i) rest.length) (gaxTable (putPoints b1.gax.table (start + i) rest) b1)
    | p => answerWrite p

/-- CORR_WRITE (R184). -/
def corrWriteRequest (start count : Nat) (values : List (Option Int)) (b : Blocks) : Blocks :=
  libRequest (corrRangeOk start count && values.length == count && values.all corrValueOk) true true true
    (writeCorrections start values) b

/-- CORR_WRITE (R184). -/
def execCorrWrite (start count : Nat) (values : List (Option Int)) (s : State) : Host.Outcome State Fault Refusal :=
  run (asRequest (corrWriteRequest start count values)) s

/-! ## Compaction and LIB_ERASE (R185, R186) -/

/-- LIB_COMPACT (R185). -/
def libCompactRequest (b : Blocks) : Blocks :=
  libRequest true true true true (fun b => answer .accepted .nothing (beginCompaction b)) b

/-- LIB_COMPACT (R185). -/
def execLibCompact (s : State) : Host.Outcome State Fault Refusal := run (asRequest libCompactRequest) s

/-- A LIB_ERASE that is taken: the staging is discarded and the erase of the sections begins (R186), with section 0, the
model's choice (log 84). -/
def eraseAllBegins (b : Blocks) : Blocks :=
  beginErase (setLib (fun l => { l with state := .compacting, work := some (.eraseAll 0), staging := none }) b)

/-- LIB_ERASE past the tests of R181 (R186). -/
def eraseAllRequest (b : Blocks) : Blocks :=
  if b.seq.state = .running then answer .refusedState .nothing b else answer .accepted .nothing (eraseAllBegins b)

/-- LIB_ERASE (R186). -/
def libEraseRequest (b : Blocks) : Blocks := libRequest true true false true eraseAllRequest b

/-- LIB_ERASE (R186). -/
def execLibErase (s : State) : Host.Outcome State Fault Refusal := run (asRequest libEraseRequest) s

/-- SECTION_ERASE_DONE: the 40 ms of the erase under way have passed (R177). -/
def sectionEraseDone (b : Blocks) : Blocks :=
  match b.lib.work with
  | some w => if b.lib.deadline.isSome then eraseDone w (clockAt b.lib.deadline b) else b
  | none => b

/-- SECTION_ERASE_DONE (R177, R185, R186). -/
def execSectionEraseDone (s : State) : Host.Outcome State Fault Refusal := run sectionEraseDone s

/-- DEFERRED_KNIFE_STORE: CKU makes the store it deferred (R128, R185; log 6). -/
def execDeferredKnifeStore (s : State) : Host.Outcome State Fault Refusal := run deferredStore s

end Sys2Proof.Machine
end

