-- ==== Sys2Proof/Machine/ModeCommands.lean ====
section
/-! DEFINITION. The commands of the Mode and Safety Unit: power-on and the end of start-up, MODE_SET, ESTOP_RESET, RESTART,
UNIT_RESET, CELL_STATUS, and the changes of the safety inputs (chapter 10). -/

namespace Sys2Proof.Machine

open Sys2Proof

/-! ## Start-up -/

/-- POWER_ON with the levels of everything wired to the part: LNK begins afresh and every block starts, a stop of the gauge
and a grip of the turner ending with the power; the flash and the clock are kept (R88, R131, R175, R194; log 7, log 30,
log 72). -/
def powerOn (inp : Inputs) (b : Blocks) : Blocks :=
  startBlocks .powerOn
    (setLnk (fun _ => Lnk.atReset)
      (setTrn (fun _ => Trn.atReset) (setGax (fun g => { g with stopping := false }) (setInputs (fun _ => inp) b))))

/-- POWER_ON (R175). -/
def execPowerOn (inp : Inputs) (s : State) : Host.Outcome State Fault Refusal := run (powerOn inp) s

/-- STARTUP_END: when every block has taken its state, the gauge's commanded stop included, and no RESTART reply is owed
(R88, R175 step 5; log 20, log 51). -/
def startupEnd (b : Blocks) : Blocks :=
  if b.msu.phase = .statesTaken ∧ b.lnk.restartReply = false ∧ b.gax.stopping = false then startupEnds b else b

/-- STARTUP_END (R175). -/
def execStartupEnd (s : State) : Host.Outcome State Fault Refusal := run startupEnd s

/-! ## Requests -/

/-- The hand work of SETUP is brought to rest (R168). -/
def leaveSetup (b : Blocks) : Blocks :=
  let b1 := gaxModeRest b
  trnModeRest (reportOpened b1 (ckuModeRest b1))

/-- A MODE_SET that is taken (R167, R168). -/
def modeTaken (m : CellMode) (b : Blocks) : Blocks :=
  let b1 := raise .cell (setMsu (fun u => { u with mode := m }) b)
  if b.msu.mode = .setup then leaveSetup b1 else b1

/-- MODE_SET, judged in the order of R167. -/
def modeSetRequest (mode : Nat) (b : Blocks) : Blocks :=
  match modeOf mode with
  | none => answer .badArgument .nothing b
  | some m =>
    if m = b.msu.mode then answer .ok .nothing b
    else if b.msu.mode = .auto ∧ b.seq.state = .running then answer .refusedState .nothing b
    else
      match if m = .auto then autoRefusal b else none with
      | some r => answer .refusedState (.autoRefusal r) b
      | none => answer .ok .nothing (modeTaken m b)

/-- MODE_SET (R167). -/
def execModeSet (mode : Nat) (s : State) : Host.Outcome State Fault Refusal := run (asRequest (modeSetRequest mode)) s

/-- ESTOP_RESET (R170). -/
def estopResetRequest (b : Blocks) : Blocks :=
  match b.msu.estop with
  | .readyToReset => answer .ok .nothing (chainResets b)
  | .chainOk => answer .ok .nothing b
  | .stopped => answer .refusedState .nothing b

/-- ESTOP_RESET (R170). -/
def execEstopReset (s : State) : Host.Outcome State Fault Refusal := run (asRequest estopResetRequest) s

/-- RESTART as a frame's request: the orderly stop and start-up; the reply is the last frame of the old session, so the queue,
the refusal list and the flags are emptied when it has been sent (R175, R190, R194; log 20). -/
def restartByLink (b : Blocks) : Blocks :=
  if b.seq.state = .running then answer .refusedState .nothing b
  else
    answer .ok .nothing (startBlocks .restart (setLnk (fun l => { l with restartReply := true }) (orderlyStop b)))

/-- RESTART as a command of its own: it has no frame to reply with, so LNK begins afresh after the orderly stop, as step 1 of
start-up (R175; log 9, log 20). -/
def restartRequest (b : Blocks) : Blocks :=
  if b.seq.state = .running then answer .refusedState .nothing b
  else answer .ok .nothing (startBlocks .restart (setLnk (fun _ => Lnk.atReset) (orderlyStop b)))

/-- RESTART (R175). -/
def execRestart (s : State) : Host.Outcome State Fault Refusal := run (asRequest restartRequest) s

/-- UNIT_RESET, judged in the order of R174. -/
def unitResetRequest (name : Nat) (b : Blocks) : Blocks :=
  match unitOf name with
  | none => answer .badArgument .nothing b
  | some u =>
    if b.msu.mode = .standby then answer .refusedMode .nothing b
    else if (coolDownLeft b.clock (b.msu.resets.get u)).isSome then answer .tooSoon .nothing b
    else if !resetAllowed u b then answer .refusedState .nothing b
    else resetTaken u b

/-- UNIT_RESET (R174). -/
def execUnitReset (name : Nat) (s : State) : Host.Outcome State Fault Refusal := run (asRequest (unitResetRequest name)) s

/-- The result of CELL_STATUS; the buttons, which CKU hands over, are not known until CKU has taken its state (R176). -/
def cellStatusData (b : Blocks) : CellStatusData :=
  { mode := b.msu.mode, estop := b.msu.estop, permitKey := b.inputs.permitKey, locked := b.inputs.locked,
    curtainClear := b.inputs.curtainClear, guardClosed := b.inputs.guardClosed,
    buttons := if b.msu.phase = .waitLibrary then none else some (b.inputs.leftHeld, b.inputs.rightHeld),
    coolDowns := ⟨coolDownLeft b.clock b.msu.resets.gax, coolDownLeft b.clock b.msu.resets.cku,
      coolDownLeft b.clock b.msu.resets.trn, coolDownLeft b.clock b.msu.resets.lft, coolDownLeft b.clock b.msu.resets.jog⟩,
    cause := b.msu.cause, startupEnded := b.msu.phase == .ended, turner := turnerStatus b }

/-- CELL_STATUS, answered during start-up too (R176). -/
def cellStatusRequest (b : Blocks) : Blocks := answer .ok (.cell (cellStatusData b)) b

/-- CELL_STATUS (R176). -/
def execCellStatus (s : State) : Host.Outcome State Fault Refusal := run cellStatusRequest s

/-! ## Safety inputs -/

/-- The chain opens: by the e-stop state (R169). Opened again in READY_TO_RESET no unit moves; what a hold makes void is
void. -/
def estopChainOpening (b : Blocks) : Blocks :=
  let b1 := setInputs (fun i => { i with chainClosed := false }) b
  match b.msu.estop with
  | .chainOk => chainOpens b1
  | .readyToReset => holdCause .estop (raise .cell (setMsu (fun m => { m with estop := .stopped }) b1))
  | .stopped => b1

/-- ESTOP_CHAIN_OPENING (R169). -/
def execEstopChainOpening (s : State) : Host.Outcome State Fault Refusal := run estopChainOpening s

/-- The chain closes: in STOPPED the state becomes READY_TO_RESET and nothing moves (R169). -/
def estopChainClosing (b : Blocks) : Blocks :=
  let b1 := setInputs (fun i => { i with chainClosed := true }) b
  if b.msu.estop = .stopped then raise .cell (setMsu (fun m => { m with estop := .readyToReset }) b1) else b1

/-- ESTOP_CHAIN_CLOSING (R169). -/
def execEstopChainClosing (s : State) : Host.Outcome State Fault Refusal := run estopChainClosing s

/-- The permit key turns: notice CELL, and PERMIT_CHANGED while SEQ is RUNNING (R171). -/
def permitKeyChange (key : PermitKey) (b : Blocks) : Blocks :=
  if b.inputs.permitKey = key then b
  else
    let b1 := raise .cell (setInputs (fun i => { i with permitKey := key }) b)
    if b.seq.state = .running then holdCause .permitChanged b1 else b1

/-- PERMIT_KEY_CHANGE (R171). -/
def execPermitKeyChange (key : PermitKey) (s : State) : Host.Outcome State Fault Refusal := run (permitKeyChange key) s

/-- The program-lock key turns: notice CELL (R173). -/
def programLockKeyChange (locked : Bool) (b : Blocks) : Blocks :=
  if b.inputs.locked = locked then b else raise .cell (setInputs (fun i => { i with locked := locked }) b)

/-- PROGRAM_LOCK_KEY_CHANGE (R173). -/
def execProgramLockKeyChange (locked : Bool) (s : State) : Host.Outcome State Fault Refusal :=
  run (programLockKeyChange locked) s

/-- The light curtain changes: a break in STROKING is a reversal cause (R116, R172). -/
def lightCurtainChange (clear : Bool) (b : Blocks) : Blocks :=
  if b.inputs.curtainClear = clear then b
  else
    let b1 := setInputs (fun i => { i with curtainClear := clear }) b
    if clear = false ∧ b.cku.state = .stroking then ckuReverses .curtain b1 else b1

/-- LIGHT_CURTAIN_CHANGE (R172). -/
def execLightCurtainChange (clear : Bool) (s : State) : Host.Outcome State Fault Refusal := run (lightCurtainChange clear) s

/-- The guard door changes: notice CELL, and GUARD_OPEN when it opens in GUARDED_AUTO with the clamp off its upper stop (R172). -/
def guardDoorChange (closed : Bool) (b : Blocks) : Blocks :=
  if b.inputs.guardClosed = closed then b
  else
    let b1 := raise .cell (setInputs (fun i => { i with guardClosed := closed }) b)
    if closed = false ∧ b.inputs.permitKey = .guardedAuto ∧ b.inputs.upperStop = false then holdCause .guardOpen b1 else b1

/-- GUARD_DOOR_CHANGE (R172). -/
def execGuardDoorChange (closed : Bool) (s : State) : Host.Outcome State Fault Refusal := run (guardDoorChange closed) s

end Sys2Proof.Machine
end

