-- ==== Sys2Proof/Machine/SequencerCommands.lean ====
section
/-! DEFINITION. The requests of the Program Sequencer: JOB_LOAD, JOB_START, JOB_HOLD, JOB_RESUME, JOB_ABORT, CONTINUE,
RUN_STATUS and HOLD_READ (chapter 02, R17). -/

namespace Sys2Proof.Machine

open Sys2Proof

/-! ## JOB_LOAD -/

/-- What gathering the records of a job gives (R17): the first failure, or what was gathered. -/
inductive Loaded (α : Type) where
  | fails (st : Status) (r : Result)
  | got (x : α)

/-- A record that is absent (R17). -/
def missing {α : Type} (kind : RecKind) (key : Nat) : Loaded α := .fails .notFound (.failingRecord kind key none)

/-- A record that fails its checks (R17). -/
def defective {α : Type} (kind : RecKind) (key : Nat) (f : CheckFailure) : Loaded α :=
  .fails .invalidProgram (.failingRecord kind key (some f))

/-- Stage 3: the JOB record (R17). -/
def loadJob (job : Nat) (l : Lib) : Loaded (List Byte) :=
  match currentItem l .job job with
  | none => missing .job job
  | some r => match checkJob job r.body with | some f => defective .job job f | none => .got r.body

/-- Stage 4: the STOCK record (R17). A stored body that is not the 16-byte layout fails HEADER_RANGE, the model's choice
(log 15). -/
def loadStock (stock : Nat) (l : Lib) : Loaded StockFigures :=
  match currentItem l .stock stock with
  | none => missing .stock stock
  | some r =>
    match decodeStock r.body with
    | some f => if StockFigures.inRange f then .got f else defective .stock stock ⟨.headerRange, none⟩
    | none => defective .stock stock ⟨.headerRange, none⟩

/-- Stage 5: the subprograms, each fetched and checked in the order they are listed; those it calls that are not yet listed
are appended (R17). There are 32 subprograms, so the list ends within 32 fetches. -/
def loadSubs (l : Lib) : Nat → List Nat → List Nat → Loaded (List (Nat × List ProgStep))
  | 0, _, _ => .got []
  | _ + 1, [], _ => .got []
  | k + 1, n :: rest, listed =>
    match currentItem l .sub n with
    | none => missing .sub n
    | some r =>
      match checkSub r.body with
      | some f => defective .sub n f
      | none =>
        let more := calledSubs (stepsOf r.body) listed
        match loadSubs l k (rest ++ more) (listed ++ more) with
        | .fails st e => .fails st e
        | .got others => .got ((n, stepsOf r.body) :: others)

/-- Stages 3 to 5: the snapshot (R17, R20). -/
def gatherJob (job stock : Nat) (l : Lib) : Loaded Snapshot :=
  match loadJob job l with
  | .fails st e => .fails st e
  | .got body =>
    match loadStock stock l with
    | .fails st e => .fails st e
    | .got figures =>
      let steps := stepsOf (body.drop 28)
      let first := calledSubs steps []
      match loadSubs l 33 first first with
      | .fails st e => .fails st e
      | .got subs =>
        let h := readHeader body
        .got { job := job, name := h.name.takeWhile (· != 0), depth := h.depth, width := h.width, height := h.height,
               steps := steps, subs := subs, stockNumber := stock, stock := figures,
               loadPosition := loadPositionOf h.depth figures.stretchA }

/-- A successful JOB_LOAD (R21, R62). -/
def jobLoaded (job lot stock : Nat) (snap : Snapshot) (b : Blocks) : Blocks :=
  let b1 := setSeq (fun q =>
    { q with state := .loaded, snapshot := some snap, run := { Running.empty with job := job, lot := lot, stock := stock },
             hold := HoldRecord.cleared, stack := [], target := none }) b
  raise .sequence (setTrk (fun t =>
    { t with made := 0, delivered := 0, trims := 0, loadNumber := freshLoadNumber t.queue 8 t.loadNumber, lastPiece := 0 }) b1)

/-- The arguments of a JOB_LOAD are in range (R17 stage 1). -/
def loadArgsOk (job lot stock : Nat) : Bool :=
  (1 ≤ job && job ≤ 999) && (1 ≤ lot && lot ≤ 9999) && (1 ≤ stock && stock ≤ 63)

/-- JOB_LOAD: the state, the mode, then the stages of R17 (R17, R19). -/
def jobLoadRequest (job lot stock : Nat) (b : Blocks) : Blocks :=
  if ¬ (b.seq.state = .idle ∨ b.seq.state = .finished) then answer .refusedState .nothing b
  else if b.msu.mode = .standby then answer .refusedMode .nothing b
  else if !loadArgsOk job lot stock then answer .badArgument .nothing b
  else
    match b.lib.state with
    | .closed => answer .libraryClosed .nothing b
    | .compacting => answer .busy .nothing b
    | .opened =>
      match gatherJob job stock b.lib with
      | .fails st e => answer st e b
      | .got snap => answer .ok .nothing (jobLoaded job lot stock snap b)

/-- JOB_LOAD (R19). -/
def execJobLoad (job lot stock : Nat) (s : State) : Host.Outcome State Fault Refusal :=
  run (asRequest (jobLoadRequest job lot stock)) s

/-! ## Starting, holding, resuming, aborting -/

/-- A JOB_START that is taken (R24). -/
def jobStarted (b : Blocks) : Blocks :=
  waitPortion (setJog (fun j => { j with transferred := 0 }) (setLft (fun l => { l with partedOff := 0 })
    (setSeq (fun q =>
      { q with state := .running, run := { q.run with loc := ⟨.main, 0⟩, phase := .none, operatorCode := none } }) b)))

/-- JOB_START (R24). -/
def jobStartRequest (b : Blocks) : Blocks :=
  if b.seq.state ≠ .loaded then answer .refusedState .nothing b
  else if b.msu.mode ≠ .auto then answer .refusedMode .nothing b
  else if b.trk.block.isSome ∨ b.trk.unknown = true ∨ b.jog.state ≠ .empty then answer .refusedState .nothing b
  else answer .ok .nothing (jobStarted b)

/-- JOB_START (R24). -/
def execJobStart (s : State) : Host.Outcome State Fault Refusal := run (asRequest jobStartRequest) s

/-- JOB_HOLD (R45). -/
def jobHoldRequest (b : Blocks) : Blocks :=
  if jobUnderWay b then answer .ok .nothing (holdCause .operatorHold b) else answer .refusedState .nothing b

/-- JOB_HOLD (R45). -/
def execJobHold (s : State) : Host.Outcome State Fault Refusal := run (asRequest jobHoldRequest) s

/-- A JOB_RESUME that is taken (R46, R47). -/
def jobResumed (b : Blocks) : Blocks :=
  resumeStep (raise .sequence (raise .hold (setSeq (fun q => { q with state := .running }) b)))

/-- JOB_RESUME (R46). -/
def jobResumeRequest (b : Blocks) : Blocks :=
  if b.seq.state ≠ .held then answer .refusedState .nothing b
  else if b.msu.mode ≠ .auto then answer .refusedMode .nothing b
  else if !resumeConditions b then answer .refusedState .nothing b
  else answer .ok .nothing (jobResumed b)

/-- JOB_RESUME (R46). -/
def execJobResume (s : State) : Host.Outcome State Fault Refusal := run (asRequest jobResumeRequest) s

/-- A JOB_ABORT that is taken: IDLE, the stack empty, the snapshot discarded, the hold record kept; the units are brought to
rest when SEQ was RUNNING (R48, R50). -/
def jobAborted (b : Blocks) : Blocks :=
  let b1 := raiseIf (b.seq.state == .held) .hold (raise .sequence (setSeq (fun q =>
    { q with state := .idle, snapshot := none, run := Running.empty, stack := [], target := none }) b))
  if b.seq.state = .running then unitsToRest b1 else b1

/-- JOB_ABORT (R48). -/
def jobAbortRequest (b : Blocks) : Blocks :=
  if b.seq.state = .idle then answer .refusedState .nothing b else answer .ok .nothing (jobAborted b)

/-- JOB_ABORT (R48). -/
def execJobAbort (s : State) : Host.Outcome State Fault Refusal := run (asRequest jobAbortRequest) s

/-- CONTINUE (R36). -/
def continueRequest (b : Blocks) : Blocks :=
  if b.seq.state = .running ∧ b.seq.run.wait = .operator then answer .ok .nothing (nextStep b)
  else answer .refusedState .nothing b

/-- CONTINUE (R36). -/
def execContinue (s : State) : Host.Outcome State Fault Refusal := run (asRequest continueRequest) s

/-! ## Status -/

/-- RUN_STATUS (R23). -/
def runStatusRequest (b : Blocks) : Blocks :=
  answer .ok (.run { state := b.seq.state,
                     record := if b.seq.state = .idle then none else some (b.seq.run, b.seq.stack.reverse) }) b

/-- RUN_STATUS (R23). -/
def execRunStatus (s : State) : Host.Outcome State Fault Refusal := run (asRequest runStatusRequest) s

/-- HOLD_READ (R49). -/
def holdReadRequest (b : Blocks) : Blocks := answer .ok (.hold b.seq.hold) b

/-- HOLD_READ (R49). -/
def execHoldRead (s : State) : Host.Outcome State Fault Refusal := run (asRequest holdReadRequest) s

end Sys2Proof.Machine
end

