-- ==== Sys2Proof/Machine/TrackerCommands.lean ====
section
/-! DEFINITION. The commands of the Block Tracker: BLOCK_STATUS, PIECES_READ, the clears, BLOCK_CLEAR, SET_ORIENTATION and
the back-table sensor (chapter 03). -/

namespace Sys2Proof.Machine

open Sys2Proof

/-- BLOCK_STATUS (R70). -/
def blockStatusRequest (b : Blocks) : Blocks :=
  answer .ok (.block
    { block := b.trk.block, unknown := b.trk.unknown, sensor := b.inputs.backTable, notReady := tableNotReady b,
      queueLength := b.trk.queue.length, clearPending := b.trk.clearPending, made := b.trk.made,
      delivered := b.trk.delivered, trims := b.trk.trims }) b

/-- BLOCK_STATUS (R70). -/
def execBlockStatus (s : State) : Host.Outcome State Fault Refusal := run (asRequest blockStatusRequest) s

/-- PIECES_READ: the queue length and at most four pieces from the first position (R65). -/
def piecesReadRequest (first : Nat) (b : Blocks) : Blocks :=
  if 7 < first then answer .badArgument .nothing b
  else answer .ok (.pieces b.trk.queue.length ((b.trk.queue.drop first).take 4)) b

/-- PIECES_READ (R65). -/
def execPiecesRead (first : Nat) (s : State) : Host.Outcome State Fault Refusal := run (asRequest (piecesReadRequest first)) s

/-- A clear is deferred: the mark is set, with notice FRONT when it becomes set (R66). -/
def deferClear (b : Blocks) : Blocks :=
  if b.trk.clearPending then b else raise .front (setTrk (fun t => { t with clearPending := true }) b)

/-- A clear reaches TRK: taken with the clamp at its upper stop, deferred anywhere else (R66). -/
def clearReaches (b : Blocks) : Blocks := if b.inputs.upperStop then takeClear b else deferClear b

/-- FRONT_CLEARED (R66). -/
def frontClearedRequest (b : Blocks) : Blocks :=
  answer (if b.inputs.upperStop then .ok else .accepted) .nothing (clearReaches b)

/-- FRONT_CLEARED (R66). -/
def execFrontCleared (s : State) : Host.Outcome State Fault Refusal := run (asRequest frontClearedRequest) s

/-- FRONT_CLEAR_BUTTON: the button's change from released to pressed (R66). -/
def execFrontClearButton (s : State) : Host.Outcome State Fault Refusal := run clearReaches s

/-- DEFERRED_CLEAR_TAKEN: the pending clear is taken when the clamp is at its upper stop (R66). -/
def deferredClear (b : Blocks) : Blocks := if b.trk.clearPending ∧ b.inputs.upperStop = true then takeClear b else b

/-- DEFERRED_CLEAR_TAKEN (R66). -/
def execDeferredClearTaken (s : State) : Host.Outcome State Fault Refusal := run deferredClear s

/-- BLOCK_CLEAR, judged in the order of R72. -/
def blockClearRequest (b : Blocks) : Blocks :=
  if b.msu.mode = .standby then answer .refusedMode .nothing b
  else if b.seq.state = .running ∨ b.inputs.upperStop = false ∨ b.inputs.backTable = true then
    answer .refusedState .nothing b
  else answer .ok .nothing (setTrk (fun t => { t with block := none, unknown := false }) b)

/-- BLOCK_CLEAR (R72). -/
def execBlockClear (s : State) : Host.Outcome State Fault Refusal := run (asRequest blockClearRequest) s

/-- The block declared at an orientation: exchanged when the depth axis does not match (R61). -/
def Block.declared (k : Block) (o : Nat) : Block :=
  if k.axis = axisOf o then { k with orientation := some o }
  else
    { k with orientation := some o, nomDepth := k.nomWidth, nomWidth := k.nomDepth, strDepth := k.strWidth,
             strWidth := k.strDepth, axis := k.axis.other }

/-- SET_ORIENTATION, judged in the order of R61. -/
def setOrientationRequest (o : Nat) (b : Blocks) : Blocks :=
  if 3 < o then answer .badArgument .nothing b
  else if b.msu.mode = .standby then answer .refusedMode .nothing b
  else
    match b.trk.block with
    | none => answer .refusedState .nothing b
    | some k =>
      if b.seq.state = .running ∨ k.orientation.isSome then answer .refusedState .nothing b
      else answer .ok .nothing (setBlock (some (k.declared o)) b)

/-- SET_ORIENTATION (R61). -/
def execSetOrientation (orientation : Nat) (s : State) : Host.Outcome State Fault Refusal :=
  run (asRequest (setOrientationRequest orientation)) s

/-- The back-table sensor covers: the arrival of a transfer, or paper of which TRK has no record (R71, R163). -/
def backTableCovered (b : Blocks) : Blocks :=
  let b1 := setInputs (fun i => { i with backTable := true }) b
  if b.jog.state = .transferring then
    match b.jog.figures with
    | some f => transferArrives f b1
    | none => b1
  else if b.trk.block.isSome then b1
  else setTrk (fun t => { t with unknown := true }) b1

/-- BACK_TABLE_SENSOR_COVERED (R71). -/
def execBackTableSensorCovered (s : State) : Host.Outcome State Fault Refusal := run backTableCovered s

end Sys2Proof.Machine
end

