-- ==== Sys2Proof/Machine/TurnerCommands.lean ====
section
/-! DEFINITION. The commands of the Pile Turner: TURN_MANUAL and the events of its switches and timers (chapter 07). -/

namespace Sys2Proof.Machine

open Sys2Proof

/-- TURN_MANUAL, judged in the order of R141. -/
def turnManualRequest (quarters : Nat) (b : Blocks) : Blocks :=
  if ¬ (1 ≤ quarters ∧ quarters ≤ 3) then answer .badArgument .nothing b
  else if b.msu.mode ≠ .setup then answer .refusedMode .nothing b
  else
    match b.trn.state with
    | .gripping | .turning | .releasing => answer .busy .nothing b
    | .fault => answer .refusedState .nothing b
    | .parked =>
      if envelopeMet b && b.cku.state == .open_ && turnConditions b then
        answer .accepted .nothing (trnBegin .terminal quarters b)
      else answer .refusedState .nothing b

/-- TURN_MANUAL (R141). -/
def execTurnManual (quarters : Nat) (s : State) : Host.Outcome State Fault Refusal :=
  run (asRequest (turnManualRequest quarters)) s

/-- A pending turn begins when the turn conditions hold in PARKED (R133). -/
def pendingTurnBegins (b : Blocks) : Blocks :=
  match b.trn.pending with
  | some q => if b.trn.state = .parked ∧ turnConditions b = true then trnBegin .seq q b else b
  | none => b

/-- PENDING_TURN_BEGIN (R133). -/
def execPendingTurnBegin (s : State) : Host.Outcome State Fault Refusal := run pendingTurnBegins s

/-- A quarter begins: the quarter time runs (R134, R135). -/
def quarterBegins (b : Blocks) : Blocks :=
  setTrn (fun t =>
    { t with state := .turning, deadline := after b Config.quarterMs,
             record := t.record.map fun r => { r with since := b.clock } }) b

/-- The grip-closed switch covers: GRIPPING goes on to TURNING, the arms having left their open switch (R134; log 4). In any
other state the switch is read alone. -/
def gripCloses (b : Blocks) : Blocks :=
  let b1 := setInputs (fun i => { i with gripClosed := true }) b
  if b.trn.state = .gripping then quarterBegins (setInputs (fun i => { i with armsOpen := false }) b1) else b1

/-- GRIP_CLOSED (R134). -/
def execGripClosed (s : State) : Host.Outcome State Fault Refusal := run gripCloses s

/-- GRIP_TIMEOUT: the 800 ms expire in GRIPPING (R134, R138). -/
def gripTimeout (b : Blocks) : Blocks :=
  if b.trn.state = .gripping then trnFaults .gripTimeout (clockAt b.trn.deadline b) else b

/-- GRIP_TIMEOUT (R134). -/
def execGripTimeout (s : State) : Host.Outcome State Fault Refusal := run gripTimeout s

/-- TRN judges whether to go on after a quarter (R135, item 4). -/
def judgeTurn (r : TurnRecord) (b : Blocks) : Blocks :=
  if r.done + 1 = r.requested ∨ r.restAsked = true then trnRelease b else quarterBegins b

/-- A programmed turn has just completed its step in RUNNING (R34). -/
def turnStepDone (before after : Blocks) : Bool :=
  after.seq.state == .running && before.seq.run.phase == .turn && after.seq.run.phase == .none

/-- A quarter completion in TURNING: the quarters done, TRK, SEQ for a turn of its own, then whether to go on; SEQ takes its
next step last (R135; log 12). -/
def quarterCompletes (r : TurnRecord) (b : Blocks) : Blocks :=
  let b1 := quarterUpdate (setTrn (fun t => { t with record := some { r with done := r.done + 1 } }) b)
  let b2 := if r.asker = .seq then seqQuarter b1 else b1
  let b3 := judgeTurn r b2
  if r.asker = .seq ∧ turnStepDone b b2 = true then takeStep b3 else b3

/-- The quarter sensor covers while the head rotates (R135). -/
def quarterCompletion (b : Blocks) : Blocks :=
  let b1 := setInputs (fun i => { i with quarter := true }) b
  match b.trn.record with
  | some r => if b.trn.state = .turning then quarterCompletes r b1 else b1
  | none => b1

/-- QUARTER_COMPLETION (R135). -/
def execQuarterCompletion (s : State) : Host.Outcome State Fault Refusal := run quarterCompletion s

/-- TURN_TIMEOUT: the 1,500 ms of a quarter expire, in TURNING or with the empty head carried on (R135, R140). -/
def turnTimeout (b : Blocks) : Blocks :=
  if b.trn.state = .turning ∨ (b.trn.state = .releasing ∧ b.trn.carrying = true) then
    trnFaults .turnTimeout (clockAt b.trn.deadline b)
  else b

/-- TURN_TIMEOUT (R135). -/
def execTurnTimeout (s : State) : Host.Outcome State Fault Refusal := run turnTimeout s

/-- The arms-open switch covers (R136, R140; the grip is open, log 4). -/
def armsOpenCovers (b : Blocks) : Blocks :=
  armsAreOpen (setInputs (fun i => { i with armsOpen := true, gripClosed := false }) b)

/-- ARMS_OPEN (R136). -/
def execArmsOpen (s : State) : Host.Outcome State Fault Refusal := run armsOpenCovers s

/-- TURNER_RELEASE_TIMEOUT: the 800 ms of a release expire (R136, R138, R140). -/
def turnerReleaseTimeout (b : Blocks) : Blocks :=
  if b.trn.state = .releasing ∧ b.trn.carrying = false then trnFaults .releaseTimeout (clockAt b.trn.deadline b) else b

/-- TURNER_RELEASE_TIMEOUT (R136). -/
def execTurnerReleaseTimeout (s : State) : Host.Outcome State Fault Refusal := run turnerReleaseTimeout s

/-- The head or an arm has left its rest: POSITION_LOST in PARKED (R137). -/
def restLost (b : Blocks) : Blocks := if b.trn.state = .parked then trnFaults .positionLost b else b

/-- QUARTER_SENSOR_UNCOVERED (R137). -/
def quarterUncovers (b : Blocks) : Blocks :=
  if b.inputs.quarter then restLost (setInputs (fun i => { i with quarter := false }) b) else b

/-- QUARTER_SENSOR_UNCOVERED (R137). -/
def execQuarterSensorUncovered (s : State) : Host.Outcome State Fault Refusal := run quarterUncovers s

/-- The arms-open switch uncovers (R137). -/
def armsUncover (b : Blocks) : Blocks :=
  if b.inputs.armsOpen then restLost (setInputs (fun i => { i with armsOpen := false }) b) else b

/-- ARMS_OPEN_SWITCH_UNCOVERED (R137). -/
def execArmsOpenSwitchUncovered (s : State) : Host.Outcome State Fault Refusal := run armsUncover s

/-- The quarter sensor covers with the arms open in RELEASING: PARKED (R136, R140). With the arms-open switch uncovered while
the empty head is carried on it parks nothing, and the 1,500 ms end in TURN_TIMEOUT, the model's choice (log 64). -/
def quarterSensorCovers (b : Blocks) : Blocks :=
  let b1 := setInputs (fun i => { i with quarter := true }) b
  if b.trn.state = .releasing ∧ b.inputs.armsOpen = true then trnPark b1 else b1

/-- QUARTER_SENSOR_COVERED (R140). -/
def execQuarterSensorCovered (s : State) : Host.Outcome State Fault Refusal := run quarterSensorCovers s

end Sys2Proof.Machine
end

