-- ==== Sys2Proof/Machine/LinkCommands.lean ====
section
/-! DEFINITION. The commands of the Line Link: a frame received, the request at the head handed to its owner (with the
arguments of R192), the transmitter, and LINK_STATUS (chapter 12). -/

namespace Sys2Proof.Machine

open Sys2Proof

/-! ## LINK_STATUS (R194) -/

/-- The result of LINK_STATUS (R194). A LINK_STATUS that came as a frame is still in the queue and counts itself; given as a
row of its own it is in no queue and the figure leaves it out, the model's choice (log 90). -/
def linkStatusData (b : Blocks) : LinkStatusData :=
  { counters := b.lnk.counters, queue := b.lnk.queue.length, refusals := b.lnk.refusals.length, flags := b.lnk.flags,
    nextNotice := b.lnk.noticeNumber }

/-- LINK_STATUS, answered in every state (R194). -/
def linkStatusRequest (b : Blocks) : Blocks := answer .ok (.link (linkStatusData b)) b

/-- LINK_STATUS (R194). -/
def execLinkStatus (s : State) : Host.Outcome State Fault Refusal := run linkStatusRequest s

/-! ## The receiver (R188) -/

/-- Bytes taken by the receiver after those it has gathered (R188, R189). -/
def frameReceived (bytes : List RxByte) (b : Blocks) : Blocks := setLnk (fun l => receive 0 (l.gathered ++ bytes) l) b

/-- FRAME_RECEIVED (R188). -/
def execFrameReceived (bytes : List RxByte) (s : State) : Host.Outcome State Fault Refusal := run (frameReceived bytes) s

/-! ## Request codes and arguments (R192) -/

/-- The codes of the table of R192. -/
def requestCodes : List Nat :=
  [1, 2, 3, 4, 5] ++ [10, 11, 12, 13, 14, 15, 16, 17] ++ [20, 21, 22, 23, 24] ++ [30, 31, 32] ++ [40, 41, 42, 43]
    ++ [50] ++ [60, 61, 62, 63, 64, 65] ++ [70, 71, 72, 73, 74, 75, 76, 77, 78, 79, 80, 81] ++ [90]

/-- The requests without arguments. -/
def plainRequest : Nat → Option Instr
  | 2 => some .estopReset
  | 3 => some .restart
  | 5 => some .cellStatus
  | 11 => some .jobStart
  | 12 => some .jobHold
  | 13 => some .jobResume
  | 14 => some .jobAbort
  | 15 => some .continue_
  | 16 => some .runStatus
  | 17 => some .holdRead
  | 20 => some .blockStatus
  | 22 => some .frontCleared
  | 23 => some .blockClear
  | 30 => some .gaugeHome
  | 32 => some .gaugeStatus
  | 41 => some .knifeReturn
  | 43 => some .knifeStatus
  | 60 => some .liftLower
  | 61 => some .liftRaise
  | 62 => some .feedPause
  | 63 => some .feedResume
  | 65 => some .feedStatus
  | 79 => some .libStatus
  | 80 => some .libCompact
  | 81 => some .libErase
  | 90 => some .linkStatus
  | _ => none

/-- The requests with one argument of a byte: a mode, a unit, a first position, an orientation, quarters. -/
def byteRequest (n : Nat) : Nat → Option Instr
  | 1 => some (.modeSet n)
  | 4 => some (.unitReset n)
  | 21 => some (.piecesRead n)
  | 24 => some (.setOrientation n)
  | 50 => some (.turnManual n)
  | _ => none

/-- The requests with arguments of more bytes, in the order their rules name them (R17, R98, R126, R128, R146, R182 to R184,
R187). -/
def longRequest (code : Nat) (args : List Byte) : Option Instr :=
  match code, args with
  | 10, [j, j', l0, l1, l2, l3, k, k'] => some (.jobLoad (beNat [j, j']) (beNat [l0, l1, l2, l3]) (beNat [k, k']))
  | 31, [a, b, c, d] => some (.gaugeJog (beInt [a, b, c, d]))
  | 40, [p, p'] => some (.manualCut (beNat [p, p']))
  | 42, [k, k', w, w', g, g'] => some (.knifeChanged (beInt [k, k']) (beNat [w, w']) (beNat [g, g']))
  | 64, [w, w', d] => some (.sensorBaseline (beNat [w, w']) d.toNat)
  | 70, [k, n, n', l, l'] => some (.jobBegin k.toNat (beNat [n, n']) (beNat [l, l']))
  | 71, o :: o' :: x :: data => some (.jobPart (beNat [o, o']) (x :: data))
  | 72, [c, c'] => some (.jobEnd (beNat [c, c']))
  | 73, [k, n, n', o, o'] => some (.jobRead k.toNat (beNat [n, n']) (beNat [o, o']))
  | 74, [k, n, n'] => some (.jobDelete k.toNat (beNat [n, n']))
  | 75, n :: n' :: figures => (decodeStock figures).map (.stockWrite (beNat [n, n']))
  | 76, [n, n'] => some (.stockRead (beNat [n, n']))
  | 77, a :: a' :: n :: n' :: values =>
    if values.length = 2 * beNat [n, n'] then some (.corrWrite (beNat [a, a']) (beNat [n, n']) (corrValuesOf values)) else none
  | 78, [a, a', n, n'] => some (.corrRead (beNat [a, a']) (beNat [n, n']))
  | _, _ => none

/-- The request a code and its arguments spell; none where the body is shorter or longer than the request carries (R190,
R192; log 9). -/
def readRequest (code : Nat) (args : List Byte) : Option Instr :=
  match args with
  | [] => plainRequest code
  | [x] => byteRequest x.toNat code
  | _ => longRequest code args

/-- A request handed to its owner, which answers at once (R190, R192). Commands that are no requests are not handed on. -/
def serve : Instr → Blocks → Blocks
  | .modeSet m => modeSetRequest m
  | .estopReset => estopResetRequest
  | .restart => restartByLink
  | .unitReset n => unitResetRequest n
  | .cellStatus => cellStatusRequest
  | .jobLoad j l k => jobLoadRequest j l k
  | .jobStart => jobStartRequest
  | .jobHold => jobHoldRequest
  | .jobResume => jobResumeRequest
  | .jobAbort => jobAbortRequest
  | .continue_ => continueRequest
  | .runStatus => runStatusRequest
  | .holdRead => holdReadRequest
  | .blockStatus => blockStatusRequest
  | .piecesRead n => piecesReadRequest n
  | .frontCleared => frontClearedRequest
  | .blockClear => blockClearRequest
  | .setOrientation o => setOrientationRequest o
  | .gaugeHome => gaugeHomeRequest
  | .gaugeJog t => gaugeJogRequest t
  | .gaugeStatus => gaugeStatusRequest
  | .manualCut p => manualCutRequest p
  | .knifeReturn => knifeReturnRequest
  | .knifeChanged k w g => knifeChangedRequest k w g
  | .knifeStatus => knifeStatusRequest
  | .turnManual q => turnManualRequest q
  | .liftLower => liftLowerRequest
  | .liftRaise => liftRaiseRequest
  | .feedPause => feedPauseRequest
  | .feedResume => feedResumeRequest
  | .sensorBaseline w d => sensorBaselineRequest w d
  | .feedStatus => feedStatusRequest
  | .jobBegin k n l => jobBeginRequest k n l
  | .jobPart o d => jobPartRequest o d
  | .jobEnd c => jobEndRequest c
  | .jobRead k n o => jobReadRequest k n o
  | .jobDelete k n => jobDeleteRequest k n
  | .stockWrite k f => stockWriteRequest k f
  | .stockRead k => stockReadRequest k
  | .corrWrite a n v => corrWriteRequest a n v
  | .corrRead a n => corrReadRequest a n
  | .libStatus => libStatusRequest
  | .libCompact => libCompactRequest
  | .libErase => libEraseRequest
  | .linkStatus => linkStatusRequest
  | _ => id

/-! ## Handing on (R190) -/

/-- The tests of R190 on a body, then its owner. -/
def handBody (body : List Byte) (b : Blocks) : Blocks :=
  match body with
  | [] => answer .unknownRequest .nothing b
  | code :: args =>
    if !requestCodes.contains code.toNat then answer .unknownRequest .nothing b
    else if b.msu.phase ≠ .ended ∧ code.toNat ≠ 5 ∧ code.toNat ≠ 90 then answer .busy .nothing b
    else
      match readRequest code.toNat args with
      | none => answer .badArgument .nothing b
      | some r => serve r b

/-- The reply of the request at the head. -/
def replyHead (a : Option Answer) (b : Blocks) : Blocks :=
  setLnk (fun l =>
    { l with queue := match l.queue with | r :: rest => { r with reply := a } :: rest | [] => [] }) b

/-- The request at the head, not yet answered, is handed on (R190). -/
def requestHandOn (b : Blocks) : Blocks :=
  match b.lnk.queue with
  | ⟨_, body, none⟩ :: _ => let b1 := handBody body b; replyHead b1.answer b1
  | _ => b

/-- REQUEST_HAND_ON (R190). -/
def execRequestHandOn (s : State) : Host.Outcome State Fault Refusal := run requestHandOn s

/-! ## The transmitter (R191) -/

/-- TRANSMIT_NEXT_FRAME (R191, R193). -/
def execTransmitNextFrame (s : State) : Host.Outcome State Fault Refusal := run transmitNext s

/-- FRAME_SENT (R191, R194). -/
def execFrameSent (s : State) : Host.Outcome State Fault Refusal := run frameSentDone s

end Sys2Proof.Machine
end

