-- ==== Sys2Proof/Machine/Dispatch.lean ====
section
/-! DEFINITION. The meaning of every command: one arm per constructor of Instr, each one call of the meaning of its own. -/

namespace Sys2Proof.Machine

open Sys2Proof

/-- A command runs on the block; the queue of waiting commands is untouched. -/
def exec (i : Instr) (s : State) : Host.Outcome State Fault Refusal :=
  match i with
  | .powerOn inp => Sys2Proof.Machine.execPowerOn inp s
  | .startupEnd => Sys2Proof.Machine.execStartupEnd s
  | .frameReceived bytes => Sys2Proof.Machine.execFrameReceived bytes s
  | .requestHandOn => Sys2Proof.Machine.execRequestHandOn s
  | .transmitNextFrame => Sys2Proof.Machine.execTransmitNextFrame s
  | .frameSent => Sys2Proof.Machine.execFrameSent s
  | .modeSet mode => Sys2Proof.Machine.execModeSet mode s
  | .estopReset => Sys2Proof.Machine.execEstopReset s
  | .restart => Sys2Proof.Machine.execRestart s
  | .unitReset name => Sys2Proof.Machine.execUnitReset name s
  | .cellStatus => Sys2Proof.Machine.execCellStatus s
  | .jobLoad job lot stock => Sys2Proof.Machine.execJobLoad job lot stock s
  | .jobStart => Sys2Proof.Machine.execJobStart s
  | .jobHold => Sys2Proof.Machine.execJobHold s
  | .jobResume => Sys2Proof.Machine.execJobResume s
  | .jobAbort => Sys2Proof.Machine.execJobAbort s
  | .continue_ => Sys2Proof.Machine.execContinue s
  | .runStatus => Sys2Proof.Machine.execRunStatus s
  | .holdRead => Sys2Proof.Machine.execHoldRead s
  | .blockStatus => Sys2Proof.Machine.execBlockStatus s
  | .piecesRead first => Sys2Proof.Machine.execPiecesRead first s
  | .frontCleared => Sys2Proof.Machine.execFrontCleared s
  | .blockClear => Sys2Proof.Machine.execBlockClear s
  | .setOrientation orientation => Sys2Proof.Machine.execSetOrientation orientation s
  | .gaugeHome => Sys2Proof.Machine.execGaugeHome s
  | .gaugeJog target => Sys2Proof.Machine.execGaugeJog target s
  | .gaugeStatus => Sys2Proof.Machine.execGaugeStatus s
  | .manualCut pressure => Sys2Proof.Machine.execManualCut pressure s
  | .knifeReturn => Sys2Proof.Machine.execKnifeReturn s
  | .knifeChanged k w G => Sys2Proof.Machine.execKnifeChanged k w G s
  | .knifeStatus => Sys2Proof.Machine.execKnifeStatus s
  | .turnManual quarters => Sys2Proof.Machine.execTurnManual quarters s
  | .liftLower => Sys2Proof.Machine.execLiftLower s
  | .liftRaise => Sys2Proof.Machine.execLiftRaise s
  | .feedPause => Sys2Proof.Machine.execFeedPause s
  | .feedResume => Sys2Proof.Machine.execFeedResume s
  | .sensorBaseline window depth => Sys2Proof.Machine.execSensorBaseline window depth s
  | .feedStatus => Sys2Proof.Machine.execFeedStatus s
  | .jobBegin kind key length => Sys2Proof.Machine.execJobBegin kind key length s
  | .jobPart offset data => Sys2Proof.Machine.execJobPart offset data s
  | .jobEnd check => Sys2Proof.Machine.execJobEnd check s
  | .jobRead kind key offset => Sys2Proof.Machine.execJobRead kind key offset s
  | .jobDelete kind key => Sys2Proof.Machine.execJobDelete kind key s
  | .stockWrite key figures => Sys2Proof.Machine.execStockWrite key figures s
  | .stockRead key => Sys2Proof.Machine.execStockRead key s
  | .corrWrite start count values => Sys2Proof.Machine.execCorrWrite start count values s
  | .corrRead start count => Sys2Proof.Machine.execCorrRead start count s
  | .libStatus => Sys2Proof.Machine.execLibStatus s
  | .libCompact => Sys2Proof.Machine.execLibCompact s
  | .libErase => Sys2Proof.Machine.execLibErase s
  | .linkStatus => Sys2Proof.Machine.execLinkStatus s
  | .sectionEraseDone => Sys2Proof.Machine.execSectionEraseDone s
  | .stagingLapse => Sys2Proof.Machine.execStagingLapse s
  | .deferredKnifeStore => Sys2Proof.Machine.execDeferredKnifeStore s
  | .estopChainOpening => Sys2Proof.Machine.execEstopChainOpening s
  | .estopChainClosing => Sys2Proof.Machine.execEstopChainClosing s
  | .permitKeyChange key => Sys2Proof.Machine.execPermitKeyChange key s
  | .programLockKeyChange locked => Sys2Proof.Machine.execProgramLockKeyChange locked s
  | .lightCurtainChange clear => Sys2Proof.Machine.execLightCurtainChange clear s
  | .guardDoorChange closed => Sys2Proof.Machine.execGuardDoorChange closed s
  | .frontClearButton => Sys2Proof.Machine.execFrontClearButton s
  | .deferredClearTaken => Sys2Proof.Machine.execDeferredClearTaken s
  | .backTableSensorCovered => Sys2Proof.Machine.execBackTableSensorCovered s
  | .pendingMoveBegin => Sys2Proof.Machine.execPendingMoveBegin s
  | .referenceSwitchUncovered => Sys2Proof.Machine.execReferenceSwitchUncovered s
  | .referenceMark => Sys2Proof.Machine.execReferenceMark s
  | .homingTimeout => Sys2Proof.Machine.execHomingTimeout s
  | .profileComplete encoder => Sys2Proof.Machine.execProfileComplete encoder s
  | .moveTimeout => Sys2Proof.Machine.execMoveTimeout s
  | .stopTimeout => Sys2Proof.Machine.execStopTimeout s
  | .inPosition encoder => Sys2Proof.Machine.execInPosition encoder s
  | .settleTimeout => Sys2Proof.Machine.execSettleTimeout s
  | .encoderOutOfBand encoder => Sys2Proof.Machine.execEncoderOutOfBand encoder s
  | .limitSwitch which => Sys2Proof.Machine.execLimitSwitch which s
  | .driveFault => Sys2Proof.Machine.execDriveFault s
  | .clampingBegin => Sys2Proof.Machine.execClampingBegin s
  | .pressureSample sample => Sys2Proof.Machine.execPressureSample sample s
  | .clampTimeout => Sys2Proof.Machine.execClampTimeout s
  | .twoHandButtonPress button => Sys2Proof.Machine.execTwoHandButtonPress button s
  | .twoHandButtonRelease button => Sys2Proof.Machine.execTwoHandButtonRelease button s
  | .strokeBegin => Sys2Proof.Machine.execStrokeBegin s
  | .bdcCovered => Sys2Proof.Machine.execBdcCovered s
  | .strokeTimeout => Sys2Proof.Machine.execStrokeTimeout s
  | .valveGapEnd => Sys2Proof.Machine.execValveGapEnd s
  | .tdcCovered => Sys2Proof.Machine.execTdcCovered s
  | .returnTimeout => Sys2Proof.Machine.execReturnTimeout s
  | .upperStopCovered => Sys2Proof.Machine.execUpperStopCovered s
  | .releaseTimeout => Sys2Proof.Machine.execReleaseTimeout s
  | .tdcUncovered => Sys2Proof.Machine.execTdcUncovered s
  | .upperStopUncovered => Sys2Proof.Machine.execUpperStopUncovered s
  | .flapOpenSwitchCovered => Sys2Proof.Machine.execFlapOpenSwitchCovered s
  | .flapClosedSwitchCovered => Sys2Proof.Machine.execFlapClosedSwitchCovered s
  | .flapTimeout => Sys2Proof.Machine.execFlapTimeout s
  | .manualPermitTimeout => Sys2Proof.Machine.execManualPermitTimeout s
  | .pendingTurnBegin => Sys2Proof.Machine.execPendingTurnBegin s
  | .gripClosed => Sys2Proof.Machine.execGripClosed s
  | .gripTimeout => Sys2Proof.Machine.execGripTimeout s
  | .quarterCompletion => Sys2Proof.Machine.execQuarterCompletion s
  | .turnTimeout => Sys2Proof.Machine.execTurnTimeout s
  | .armsOpen => Sys2Proof.Machine.execArmsOpen s
  | .turnerReleaseTimeout => Sys2Proof.Machine.execTurnerReleaseTimeout s
  | .quarterSensorUncovered => Sys2Proof.Machine.execQuarterSensorUncovered s
  | .armsOpenSwitchUncovered => Sys2Proof.Machine.execArmsOpenSwitchUncovered s
  | .levelMeasurement count => Sys2Proof.Machine.execLevelMeasurement count s
  | .baselineMeasurement count => Sys2Proof.Machine.execBaselineMeasurement count s
  | .topLimitCovered => Sys2Proof.Machine.execTopLimitCovered s
  | .lowerLimitCovered => Sys2Proof.Machine.execLowerLimitCovered s
  | .partingBegin => Sys2Proof.Machine.execPartingBegin s
  | .entrySensorCovered => Sys2Proof.Machine.execEntrySensorCovered s
  | .partTimeout => Sys2Proof.Machine.execPartTimeout s
  | .gearHome => Sys2Proof.Machine.execGearHome s
  | .gearWithdrawTimeout => Sys2Proof.Machine.execGearWithdrawTimeout s
  | .jogBegin => Sys2Proof.Machine.execJogBegin s
  | .jogEnd front side => Sys2Proof.Machine.execJogEnd front side s
  | .stopEdgeUncovered edge => Sys2Proof.Machine.execStopEdgeUncovered edge s
  | .entrySensorUncovered => Sys2Proof.Machine.execEntrySensorUncovered s
  | .transferBegin => Sys2Proof.Machine.execTransferBegin s
  | .transferTimeout => Sys2Proof.Machine.execTransferTimeout s
  | .carriageHome => Sys2Proof.Machine.execCarriageHome s
  | .carriageTimeout => Sys2Proof.Machine.execCarriageTimeout s
  | .quarterSensorCovered => Sys2Proof.Machine.execQuarterSensorCovered s

end Sys2Proof.Machine
end

