-- ==== Sys2Proof/Machine/Idle.lean ====
section
/-! DEFINITION. What the block does with no command waiting (log 2): the first of its own steps that is due is taken; with
none due, one millisecond passes and the first waiting level change takes place (log 3). -/

namespace Sys2Proof.Machine

open Sys2Proof

/-- The steps the units take of themselves as soon as their conditions hold (R63, R92, R110, R113, R128, R132, R149, R157,
R162, R175, R190, R191). -/
def ownSteps : List Instr :=
  [.deferredClearTaken, .pendingMoveBegin, .pendingTurnBegin, .clampingBegin, .partingBegin, .jogBegin, .transferBegin,
   .deferredKnifeStore, .startupEnd, .requestHandOn, .transmitNextFrame]

/-- The steps a time brings, each with the time. -/
def timedSteps (b : Blocks) : List (Option Ms × Instr) :=
  let gauge : List (Option Ms × Instr) :=
    [(b.gax.bandFrom.map fun t => t + Config.bandMs, .inPosition b.inputs.encoder), (b.gax.deadline, .moveTimeout),
     (b.gax.deadline, .settleTimeout), (b.gax.deadline, .stopTimeout), (b.gax.deadline, .homingTimeout)]
  let knife : List (Option Ms × Instr) :=
    [(some (gapEnd b.cku.returnClosedAt b), .strokeBegin), (b.cku.deadline, .clampTimeout), (b.cku.deadline, .strokeTimeout),
     (b.cku.deadline, .valveGapEnd), (b.cku.deadline, .returnTimeout), (b.cku.deadline, .releaseTimeout),
     (b.cku.deadline, .manualPermitTimeout), (b.cku.flapDeadline, .flapTimeout)]
  let turner : List (Option Ms × Instr) :=
    [(b.trn.deadline, .gripTimeout), (b.trn.deadline, .turnTimeout), (b.trn.deadline, .turnerReleaseTimeout)]
  let feed : List (Option Ms × Instr) :=
    [(b.lft.deadline, .partTimeout), (b.lft.deadline, .gearWithdrawTimeout),
     (b.jog.deadline, .jogEnd b.inputs.frontStop b.inputs.sideStop), (b.jog.deadline, .transferTimeout),
     (b.jog.deadline, .carriageTimeout)]
  let library : List (Option Ms × Instr) :=
    [(b.lib.deadline, .sectionEraseDone), (b.lib.staging.map fun g => g.since + Config.stagingMs, .stagingLapse)]
  gauge ++ knife ++ turner ++ feed ++ library

/-- A time has come. -/
def timeCome (b : Blocks) : Option Ms → Bool
  | some t => t ≤ b.clock
  | none => false

/-- A command changes the block as it stands. -/
def changesBlock (s : State) (i : Instr) : Bool :=
  match exec i s with
  | .next t => t.blocks != s.blocks
  | _ => false

/-- The first of the block's own steps that is due: its condition holds, or its time has come, and it changes something. -/
def ownStep (s : State) : Option Instr :=
  (ownSteps ++ ((timedSteps s.blocks).filter fun p => timeCome s.blocks p.1).map (·.2)).find? (changesBlock s)

/-! ## Time passes -/

/-- The encoder turns: a reading that comes into the band of an in-position test begins its 60 ms again, and one outside the
band is judged as ENCODER_OUT_OF_BAND is (R96). -/
def encoderTurns (n : Int) (b : Blocks) : Blocks :=
  if settlingNow b = true ∧ inBand b.inputs.encoder b = false then bandRestarts (setInputs (fun i => { i with encoder := n }) b)
  else encoderOutOfBand n b

/-- A home switch of the part-off gear has changed: with both covered, what GEAR_HOME does (R150, R154). -/
def gearLevel (b : Blocks) : Blocks := if gearAtRest b then gearHomes b else b

/-- A level change on its way at a tick (log 3). One that a row of the table reports too has that row's meaning. A lift of known
height follows its encoder (R143, R148). -/
def applyLevel (c : LevelChange) (b : Blocks) : Blocks :=
  match c with
  | .elapse ms => { b with clock := b.clock + ms }
  | .encoder n => encoderTurns n b
  | .liftHeight mm => setLft (fun l => { l with height := l.height.map fun _ => min 1400 mm }) b
  | .levelCount n => setInputs (fun i => { i with levelCount := n }) b
  | .backTableUncovered => setInputs (fun i => { i with backTable := false }) b
  | .referenceSwitch true => setInputs (fun i => { i with referenceSwitch := true }) b
  | .referenceSwitch false => referenceUncovered b
  | .limitReleased .front => setInputs (fun i => { i with frontLimit := false }) b
  | .limitReleased .rear => setInputs (fun i => { i with rearLimit := false }) b
  | .driveFaultCleared => setInputs (fun i => { i with driveFault := false }) b
  | .bdcUncovered => setInputs (fun i => { i with bdc := false }) b
  | .flapOpenSw true => flapOpens b
  | .flapOpenSw false => setInputs (fun i => { i with flapOpenSw := false }) b
  | .flapClosedSw true => flapCloses b
  | .flapClosedSw false => setInputs (fun i => { i with flapClosedSw := false }) b
  | .gripClosed true => gripCloses b
  | .gripClosed false => setInputs (fun i => { i with gripClosed := false }) b
  | .lowerLimitUncovered => setInputs (fun i => { i with lowerLimit := false }) b
  | .topLimitUncovered => setInputs (fun i => { i with topLimit := false }) b
  | .bladeHome v => gearLevel (setInputs (fun i => { i with bladeHome := v }) b)
  | .pusherHome v => gearLevel (setInputs (fun i => { i with pusherHome := v }) b)
  | .frontStop true => setInputs (fun i => { i with frontStop := true }) b
  | .frontStop false => stopUncovers .front b
  | .sideStop true => setInputs (fun i => { i with sideStop := true }) b
  | .sideStop false => stopUncovers .side b
  | .carriageUncovered => setInputs (fun i => { i with carriageHome := false }) b
  | .flashFails p g e => setInputs (fun i => { i with programFails := p, beginFails := g, eraseFails := e }) b

/-- One millisecond passes, and the first waiting level change takes place. -/
def tick (s : State) : State :=
  let b := { s.blocks with clock := s.blocks.clock + 1 }
  match s.silent with
  | [] => { s with blocks := b }
  | c :: rest => { s with blocks := applyLevel c b, silent := rest }

/-- The step of a block with no command waiting (log 2). -/
def idle (s : State) : Host.Outcome State Fault Refusal :=
  match ownStep s with
  | some i => exec i s
  | none => .next (tick s)

end Sys2Proof.Machine
end

