-- ==== Sys2Proof/Machine/Step.lean ====
section
/-! DEFINITION. One step of the CX48: the command at the front of the queue runs; with none waiting the block idles (log 2). -/

namespace Sys2Proof.Machine

open Sys2Proof

/-- The next step. -/
def step (s : State) : Host.Outcome State Fault Refusal :=
  match s.pending with
  | c :: rest => exec c { s with pending := rest }
  | [] => idle s

/-- The command a word spells, put at the front of the queue. -/
def State.withFetchWord (s : State) (nbits w : Nat) : State :=
  match decodeTableWord nbits w with
  | some c => { s with pending := c :: s.pending }
  | none => s

end Sys2Proof.Machine
end

