-- ==== Sys2Proof/Machine/Outputs.lean ====
section
/-! DEFINITION. What the part drives, as functions of the state: the lift (R143, R153), the part-off gear (R149, R154), the air
bed, the coils and the carriage of the jogger (R156, R158, R163, R165), the gauge (R90, R94, R101), the waste flap (R119) and
the turner (R131, R134, R138, R140). The valves of CKU are state of their own (R107). -/

namespace Sys2Proof.Machine

open Sys2Proof

/-- Where a drive with two directions goes. -/
inductive Drive where
  | stopped
  | ahead
  | back
deriving DecidableEq, Repr

/-- The lift drive: ahead is up; stopped while the chain is open (R143, R153). -/
def liftDrive (b : Blocks) : Drive :=
  if !chainOk b then .stopped
  else match b.lft.state with
    | .raising => .ahead
    | .lowering => .back
    | _ => .stopped

/-- The blade and the pusher: ahead in PARTING, back after a parting and in a reset's withdrawal, stopped while the chain is
open (R149, R150, R153, R154; log 60). -/
def gearDrive (b : Blocks) : Drive :=
  if !chainOk b then .stopped
  else if b.lft.state = .parting then .ahead
  else if b.lft.withdrawing || b.lft.gearReturning then .back
  else .stopped

/-- The depth the blade is driven in at, in 0.1 mm below the take-off plane: in PARTING (R149). -/
def bladeCommand (b : Blocks) : Option Nat := if b.lft.state = .parting then b.lft.bladeDepth else none

/-- The air bed valve is open in JOGGING (R156, R158, R159). -/
def airBedOpen (b : Blocks) : Bool := b.jog.state == .jogging

/-- A coil is energised from gv ms after the start of its half, for the on-time (R158). -/
def coilOn (half : Nat) (r : JogRecord) (now : Ms) : Bool :=
  let t := (now - r.start) % r.period
  half + r.gap ≤ t && t < half + r.gap + r.onTime

/-- Coil A, in the first half of each period of a jog (R158). -/
def coilAOn (r : JogRecord) (now : Ms) : Bool := coilOn 0 r now

/-- Coil B, in the second half of each period of a jog (R158). -/
def coilBOn (r : JogRecord) (now : Ms) : Bool := coilOn (r.period / 2) r now

/-- The two coils as they stand: off but in JOGGING (R156, R158). -/
def coils (b : Blocks) : Bool × Bool :=
  match b.jog.state, b.jog.record with
  | .jogging, some r => (coilAOn r b.clock, coilBOn r b.clock)
  | _, _ => (false, false)

/-- The carriage: out in TRANSFERRING, back in a return, stopped while the chain is open (R162 to R165). -/
def carriageDrive (b : Blocks) : Drive :=
  if !chainOk b then .stopped
  else if b.jog.state = .transferring then .ahead
  else if (b.jog.carriageReturning || b.jog.resetting) && b.jog.deadline.isSome then .back
  else .stopped

/-- The count the gauge's drive goes to or holds at: the one it was last given, while it is enabled (R94, R95, R101, R102). -/
def gaugeCommand (b : Blocks) : Option Int := if b.gax.drive then b.gax.driveCount else none

/-- The gauge's drive at homing speed: ahead is forward, in CLEAR; back is rearward, in SEEK; the FINAL move is given as a
count (R90). -/
def homingDrive (b : Blocks) : Drive :=
  if b.gax.state == .homing && b.gax.drive && !b.gax.stopping then
    match b.gax.homing with
    | .clear => .ahead
    | .seek => .back
    | .final => .stopped
  else .stopped

/-- The flap's drive: ahead opens (R119). -/
def flapDrive (b : Blocks) : Drive :=
  match b.cku.flap with
  | .opening => .ahead
  | .closing => .back
  | _ => .stopped

/-- What the turner's arms do. -/
inductive ArmsDrive where
  | stopped
  | closing
  | holding
  | opening
deriving DecidableEq, Repr

/-- The turner's arms: closed onto the block in GRIPPING, held at their grip force in TURNING, opened in RELEASING; in FAULT
they keep the grip they had (R131, R134, R136, R138, R140; log 72). -/
def armsDrive (b : Blocks) : ArmsDrive :=
  match b.trn.state with
  | .gripping => .closing
  | .turning => .holding
  | .releasing => if b.trn.carrying then .stopped else .opening
  | .fault => if b.trn.gripKept then .holding else .stopped
  | .parked => .stopped

/-- The turner's head rotates: in TURNING, and while an empty head is carried on (R131, R140). -/
def headRotates (b : Blocks) : Bool := b.trn.state == .turning || b.trn.carrying

end Sys2Proof.Machine
end

