-- ==== Sys2Proof/Safety.lean ====
section
/-! DEFINITION. What must never happen, and what every step keeps: the valve law of R114, the bounds of the link (R189,
R193), of the call stack (R37), of the flash (R177) and of the counters (R68, R194), and what the down valve's opening needs
(R113). -/

namespace Sys2Proof.Machine

open Sys2Proof

/-- The down valve and the return valve are never open together (R114), nor the lowering and the raising valve (R107). -/
def ValveLaw (b : Blocks) : Prop :=
  ¬ (b.cku.valves.down = true ∧ b.cku.valves.ret = true) ∧ ¬ (b.cku.valves.lowering = true ∧ b.cku.valves.raising = true)

/-- The receive queue and the refusal list hold at most 4 each, and the notice number is a byte (R189, R193). -/
def LinkBounds (b : Blocks) : Prop :=
  b.lnk.queue.length ≤ Config.maxQueue ∧ b.lnk.refusals.length ≤ Config.maxQueue ∧ b.lnk.noticeNumber < 256

/-- The call stack holds at most 6 frames (R37). -/
def StackBound (b : Blocks) : Prop := b.seq.stack.length ≤ Config.maxFrames

/-- The flash has 96 sections (R177). -/
def FlashShape (b : Blocks) : Prop := b.lib.flash.length = Config.sections

/-- TRK's counters and the link counters stop at 65,535 (R68, R194). -/
def CounterBounds (b : Blocks) : Prop :=
  (b.trk.made ≤ Config.counterTop ∧ b.trk.delivered ≤ Config.counterTop ∧ b.trk.trims ≤ Config.counterTop)
    ∧ (b.lnk.counters.dropped ≤ Config.counterTop ∧ b.lnk.counters.length ≤ Config.counterTop
      ∧ b.lnk.counters.gap ≤ Config.counterTop ∧ b.lnk.counters.check ≤ Config.counterTop
      ∧ b.lnk.counters.kind ≤ Config.counterTop ∧ b.lnk.counters.overrun ≤ Config.counterTop)
    ∧ (b.lnk.counters.requests ≤ Config.counterTop ∧ b.lnk.counters.replies ≤ Config.counterTop
      ∧ b.lnk.counters.notices ≤ Config.counterTop)

/-- What R113 asks of the cell before the down valve opens, for the cycle in progress (R112, R127). -/
def StrokeSafe (b : Blocks) : Prop :=
  b.cku.state = .clamped ∧ b.msu.estop = .chainOk ∧ b.inputs.curtainClear = true ∧ b.trn.state = .parked
    ∧ ∃ c n, b.cku.cycle = some c ∧ b.cku.sample = some n ∧ c.target ≤ n ∧ c.armed = true ∧ c.restAsked = false
      ∧ b.cku.flap = (if c.waste then .opened else .closed)
      ∧ (if c.asker = .manual ∨ b.inputs.permitKey = .twoHand then
          b.inputs.leftHeld = true ∧ b.inputs.rightHeld = true ∧ b.cku.rearmed = true
            ∧ ∃ l r, b.cku.leftOnset = some l ∧ b.cku.rightOnset = some r ∧ l ≤ r + 500 ∧ r ≤ l + 500
         else b.inputs.guardClosed = true ∧ b.inputs.leftHeld = false ∧ b.inputs.rightHeld = false)

/-- In GAP the time runs at least to the end of the valve gap that the down valve's closing began (R114); while the library
is scanned at start-up no cycle is under way (R108, R175). -/
def GapLaw (b : Blocks) : Prop :=
  (b.cku.state = .gap → ∃ d, b.cku.deadline = some d ∧ gapEnd b.cku.downClosedAt b ≤ d)
    ∧ (b.msu.phase = .waitLibrary →
        b.seq.state = .idle ∧ b.cku.cycle = none ∧ b.cku.state ≠ .gap ∧ b.cku.state ≠ .stroking)

/-- Start-up has ended, so a request reaches its owner (R175, R190). -/
def StartedUp (s : State) : Prop := s.blocks.msu.phase = .ended

/-- The link but for its pending flags: what no other unit touches. -/
def linkCore (b : Blocks) : Lnk := { b.lnk with flags := Flags.clear }

end Sys2Proof.Machine

namespace Sys2Proof

/-- The requests of the line terminal (R192), which the table lists as rows of their own. -/
def Instr.isRequest : Instr → Bool
  | .modeSet _ | .estopReset | .restart | .unitReset _ | .cellStatus => true
  | .jobLoad _ _ _ | .jobStart | .jobHold | .jobResume | .jobAbort | .continue_ | .runStatus | .holdRead => true
  | .blockStatus | .piecesRead _ | .frontCleared | .blockClear | .setOrientation _ => true
  | .gaugeHome | .gaugeJog _ | .gaugeStatus => true
  | .manualCut _ | .knifeReturn | .knifeChanged _ _ _ | .knifeStatus | .turnManual _ => true
  | .liftLower | .liftRaise | .feedPause | .feedResume | .sensorBaseline _ _ | .feedStatus => true
  | .jobBegin _ _ _ | .jobPart _ _ | .jobEnd _ | .jobRead _ _ _ | .jobDelete _ _ => true
  | .stockWrite _ _ | .stockRead _ | .corrWrite _ _ _ | .corrRead _ _ | .libStatus | .libCompact | .libErase => true
  | .linkStatus => true
  | _ => false

end Sys2Proof
end

