-- ==== Sys2Proof/Certificates/Slice0/Obligations.lean ====
section
/-! DEFINITION. The statements for the provers, each from the rules its docstring cites. A statement of what a command does
gives the whole next state: what it does not name is unchanged (the frame). -/

open Sys2Proof Sys2Proof.Machine

/-! ## The queue and the step -/

/-- One step with a command at the front of the queue runs that command with the queue's rest. On an empty queue one of the
block's own steps runs, a beginning or a time that has come, where it changes something; with none due a millisecond passes
and the first waiting level change takes place: one that a row of the table reports too has that row's effect, and each
other one its level alone, with the lift's height and the encoder as R96 and R143 take them. What an empty queue does, and
these level changes, are the model's choice (log 2, log 3). -/
def Obligations.StepRunsFront : Prop :=
  (∀ (c : Instr) (rest : List Instr) (s : State), s.pending = c :: rest → step s = exec c { s with pending := rest })
  ∧ (∀ (i : Instr) (s : State), s.pending = [] → ownStep s = some i →
      step s = exec i s ∧ changesBlock s i = true
        ∧ (i ∈ ownSteps ∨ ∃ d, (some d, i) ∈ timedSteps s.blocks ∧ d ≤ s.blocks.clock))
  ∧ (∀ s : State, s.pending = [] → ownStep s = none → s.silent = [] →
      step s = .next { s with blocks := { s.blocks with clock := s.blocks.clock + 1 } })
  ∧ (∀ (c : LevelChange) (rest : List LevelChange) (s : State), s.pending = [] → ownStep s = none → s.silent = c :: rest →
      step s = .next { s with
        blocks := applyLevel c { s.blocks with clock := s.blocks.clock + 1 }, silent := rest })
  ∧ (∀ s : State,
      exec .referenceSwitchUncovered s = .next (s.act (applyLevel (.referenceSwitch false)))
      ∧ exec .flapOpenSwitchCovered s = .next (s.act (applyLevel (.flapOpenSw true)))
      ∧ exec .flapClosedSwitchCovered s = .next (s.act (applyLevel (.flapClosedSw true)))
      ∧ exec .gripClosed s = .next (s.act (applyLevel (.gripClosed true)))
      ∧ exec (.stopEdgeUncovered .front) s = .next (s.act (applyLevel (.frontStop false)))
      ∧ exec (.stopEdgeUncovered .side) s = .next (s.act (applyLevel (.sideStop false)))
      ∧ (∀ n : Int,
          let b := s.blocks
          let target : Int := match b.gax.move with | some m => m.countTarget | none => 0
          let comesIn : Prop := (b.gax.state = .settling ∨ (b.gax.state = .homing ∧ b.gax.finalSettling = true))
            ∧ 2 < |b.inputs.encoder - target|
          (comesIn → applyLevel (.encoder n) b = { b with
              inputs := { b.inputs with encoder := n }, gax := { b.gax with bandFrom := some b.clock } })
          ∧ (¬ comesIn → exec (.encoderOutOfBand n) s = .next (s.act (applyLevel (.encoder n)))))
      ∧ (∀ v : Bool,
          let both (i : Inputs) : Bool := i.bladeHome && i.pusherHome
          let at_ (i : Inputs) : State := { s with blocks := { s.blocks with inputs := i } }
          let blade : Inputs := { s.blocks.inputs with bladeHome := v }
          let pusher : Inputs := { s.blocks.inputs with pusherHome := v }
          (both blade = true → exec .gearHome (at_ blade) = .next (s.act (applyLevel (.bladeHome v))))
          ∧ (both blade = false → at_ blade = s.act (applyLevel (.bladeHome v)))
          ∧ (both pusher = true → exec .gearHome (at_ pusher) = .next (s.act (applyLevel (.pusherHome v))))
          ∧ (both pusher = false → at_ pusher = s.act (applyLevel (.pusherHome v)))))
  ∧ (∀ b : Blocks,
      let sets (f : Inputs → Inputs) : Blocks := { b with inputs := f b.inputs }
      (∀ ms, applyLevel (.elapse ms) b = { b with clock := b.clock + ms })
      ∧ (∀ mm, applyLevel (.liftHeight mm) b = { b with lft := { b.lft with
          height := match b.lft.height with | some _ => some (min 1400 mm) | none => none } })
      ∧ (∀ n, applyLevel (.levelCount n) b = sets fun i => { i with levelCount := n })
      ∧ applyLevel .backTableUncovered b = sets (fun i => { i with backTable := false })
      ∧ applyLevel (.referenceSwitch true) b = sets (fun i => { i with referenceSwitch := true })
      ∧ applyLevel (.limitReleased .front) b = sets (fun i => { i with frontLimit := false })
      ∧ applyLevel (.limitReleased .rear) b = sets (fun i => { i with rearLimit := false })
      ∧ applyLevel .driveFaultCleared b = sets (fun i => { i with driveFault := false })
      ∧ applyLevel .bdcUncovered b = sets (fun i => { i with bdc := false })
      ∧ applyLevel (.flapOpenSw false) b = sets (fun i => { i with flapOpenSw := false })
      ∧ applyLevel (.flapClosedSw false) b = sets (fun i => { i with flapClosedSw := false })
      ∧ applyLevel (.gripClosed false) b = sets (fun i => { i with gripClosed := false })
      ∧ applyLevel .lowerLimitUncovered b = sets (fun i => { i with lowerLimit := false })
      ∧ applyLevel .topLimitUncovered b = sets (fun i => { i with topLimit := false })
      ∧ applyLevel (.frontStop true) b = sets (fun i => { i with frontStop := true })
      ∧ applyLevel (.sideStop true) b = sets (fun i => { i with sideStop := true })
      ∧ applyLevel .carriageUncovered b = sets (fun i => { i with carriageHome := false })
      ∧ (∀ p g e, applyLevel (.flashFails p g e) b =
          sets fun i => { i with programFails := p, beginFails := g, eraseFails := e }))

/-- Every command in every state has a next state, and no command touches the queue or the waiting level changes: the manual
gives every command an effect in every state. -/
def Obligations.EveryCommandHasEffect : Prop :=
  ∀ (c : Instr) (s : State), ∃ b : Blocks, exec c s = .next { s with blocks := b }

/-! ## Reset -/

/-- The state after start-up at power-on, where a rule gives it (R18, R51, R64, R66, R68, R88, R108, R131, R143, R156, R167,
R179, R194), and the laws hold in it. The input levels and the erased flash are the model's choice (log 7), and what a cleared
hold record holds (log 49). -/
def Obligations.ResetIsAsStated : Prop :=
  let b := State.reset.blocks
  (State.reset.pending = [] ∧ b.msu.mode = .standby ∧ b.msu.phase = .ended)
    ∧ (b.seq.state = .idle ∧ b.seq.snapshot = none ∧ b.seq.stack = [] ∧ b.seq.hold = HoldRecord.cleared)
    ∧ (b.trk.block = none ∧ b.trk.queue = [] ∧ b.trk.clearPending = false ∧ b.trk.made = 0 ∧ b.trk.delivered = 0
        ∧ b.trk.trims = 0)
    ∧ (b.gax.state = .unreferenced ∧ b.gax.referenced = false ∧ b.gax.inPosition = false ∧ b.gax.move = none
        ∧ b.gax.pending = none)
    ∧ (b.cku.state = .open_ ∧ b.cku.cycle = none ∧ b.cku.valves = Valves.closed ∧ b.cku.flap = .closed
        ∧ b.cku.knife = ⟨0, 0, 0, 8⟩ ∧ b.cku.unstored = true)
    ∧ (b.trn.state = .parked ∧ b.trn.record = none ∧ b.trn.pending = none)
    ∧ (b.lft.state = .lowered ∧ b.lft.height = some 0 ∧ b.lft.window = 1024 ∧ b.lft.depth = 12 ∧ b.lft.partedOff = 0
        ∧ b.lft.feedPaused = false)
    ∧ (b.jog.state = .empty ∧ b.jog.retries = 0 ∧ b.jog.transferred = 0)
    ∧ (b.lib.state = .opened ∧ b.lib.staging = none ∧ b.lib.nextSeq = 1 ∧ b.lib.damaged = 0)
    ∧ (b.lnk.queue = [] ∧ b.lnk.refusals = [] ∧ b.lnk.tx = none ∧ b.lnk.noticeNumber = 0
        ∧ b.lnk.counters = LinkCounters.zero)
    ∧ (ValveLaw b ∧ GapLaw b ∧ LinkBounds b ∧ StackBound b ∧ FlashShape b ∧ CounterBounds b)

/-! ## What every step keeps -/

/-- The down valve and the return valve are never open together, nor the lowering and the raising valve (R107, R114). -/
def Obligations.StepKeepsValveLaw : Prop :=
  ∀ s t : State, ValveLaw s.blocks → step s = .next t → ValveLaw t.blocks

/-- In GAP the running time reaches at least to the end of the valve gap, and the return valve opens in GAP alone and only when
G ms have passed since the down valve's closing (R114). -/
def Obligations.StepKeepsValveGap : Prop :=
  ∀ s t : State, GapLaw s.blocks → step s = .next t →
    GapLaw t.blocks ∧ (s.blocks.cku.valves.ret = false → t.blocks.cku.valves.ret = true →
      s.blocks.cku.state = .gap ∧ gapEnd s.blocks.cku.downClosedAt s.blocks ≤ t.blocks.clock)

/-- The down valve opens only with the stroke permit of R113, and only when G ms have passed since the return valve's
closing (R112, R113, R114, R127). That a gap still running at a KNIFE_CHANGED ends by the new G is the model's choice (log
63). -/
def Obligations.DownValveNeedsPermit : Prop :=
  ∀ s t : State, step s = .next t → s.blocks.cku.valves.down = false → t.blocks.cku.valves.down = true →
    StrokeSafe s.blocks ∧ gapEnd s.blocks.cku.returnClosedAt s.blocks ≤ t.blocks.clock

/-- The receive queue and the refusal list never hold more than 4 and the notice number stays a byte (R189, R193); the counters
of TRK and of the link stop at 65,535 (R68, R194). -/
def Obligations.StepKeepsLinkAndCounterBounds : Prop :=
  ∀ s t : State, LinkBounds s.blocks ∧ CounterBounds s.blocks → step s = .next t → LinkBounds t.blocks ∧ CounterBounds t.blocks

/-- The call stack never holds more than 6 frames (R12, R37), and the flash keeps its 96 sections (R177). -/
def Obligations.StepKeepsStackAndFlash : Prop :=
  ∀ s t : State, StackBound s.blocks ∧ FlashShape s.blocks → step s = .next t → StackBound t.blocks ∧ FlashShape t.blocks

/-! ## Requests during start-up, and the status requests -/

/-- Before start-up has ended every request but CELL_STATUS and LINK_STATUS is answered BUSY and changes nothing (R175, R190;
a request that does not come as a frame is judged the same way, the model's choice, log 10). -/
def Obligations.StartupRequestsBusy : Prop :=
  ∀ (c : Instr) (s : State), c.isRequest = true → c ≠ .cellStatus → c ≠ .linkStatus → s.blocks.msu.phase ≠ .ended →
    exec c s = .next { s with blocks := { s.blocks with answer := some ⟨.busy, .nothing⟩ } }

/-- The status requests reply OK with the figures of their rules and change nothing else (R23, R49, R65, R70, R105, R130,
R155, R176, R187, R194), with the first failing condition of R53, of R149 in AT_LEVEL and of R162 in ALIGNED. The first
position of PIECES_READ is 0..7. The room and the staging's time that LIB_STATUS shows while COMPACTING (log 46), that
CELL_STATUS in start-up shows the two-hand buttons alone as not yet known (log 68), and that a LINK_STATUS given as its own
row is not among the requests in the queue that it counts (log 90), are the model's choices. -/
def Obligations.StatusRequestsReportOnly : Prop :=
  ∀ s : State,
    let b := s.blocks
    let coolDown (taken : Option Ms) : Option Ms := match taken with
      | none => none
      | some t => if b.clock < t + 3000 then some (t + 3000 - b.clock) else none
    let tableRefusal : Option NotReady :=
      if b.trk.block ≠ none then some .blockPresent
      else if b.trk.unknown then some .blockUnknown
      else
        match b.seq.snapshot with
        | none => some .noJob
        | some snap =>
          if 1150000 < (2 * (snap.depth * (10000 + snap.stock.stretchA)) + 10000) / 20000 then some .oversize else none
    let parting : Option PartRefusal :=
      if b.seq.state ≠ .running ∧ b.seq.state ≠ .held then some .jobNotRunning
      else if b.lft.feedPaused then some .feedPaused
      else if b.jog.state ≠ .empty then some .joggerOccupied
      else if b.seq.run.lot ≤ b.lft.partedOff then some .lotParted
      else if b.msu.estop ≠ .chainOk then some .chainOpen
      else if b.inputs.bladeHome = false ∨ b.inputs.pusherHome = false then some .gearNotAtRest
      else none
    let transfer : Option TransferRefusal :=
      if tableRefusal ≠ none then some .tableNotReady
      else if b.seq.state ≠ .running ∨ b.seq.run.wait ≠ .portion then some .notWaitingPortion
      else if (match b.seq.snapshot with | some snap => gaxStandsAt snap.loadPosition b | none => false) = false then
        some .gaugeNotAtLoad
      else if b.inputs.upperStop = false then some .clampDown
      else if b.trn.state ≠ .parked then some .turnerNotParked
      else if b.msu.estop ≠ .chainOk then some .chainOpen
      else none
    (exec .cellStatus s = .next (s.act (answer .ok (.cell
          { mode := b.msu.mode, estop := b.msu.estop, permitKey := b.inputs.permitKey, locked := b.inputs.locked,
            curtainClear := b.inputs.curtainClear, guardClosed := b.inputs.guardClosed,
            buttons := if b.msu.phase = .waitLibrary then none else some (b.inputs.leftHeld, b.inputs.rightHeld),
            coolDowns := ⟨coolDown b.msu.resets.gax, coolDown b.msu.resets.cku, coolDown b.msu.resets.trn,
              coolDown b.msu.resets.lft, coolDown b.msu.resets.jog⟩,
            cause := b.msu.cause, startupEnded := decide (b.msu.phase = .ended),
            turner := { state := b.trn.state, fault := b.trn.fault, armsOpen := b.inputs.armsOpen,
                        gripClosed := b.inputs.gripClosed, quarter := b.inputs.quarter, pending := b.trn.pending,
                        record := b.trn.record, lastTurn := b.trn.lastTurn } })))
      ∧ exec .linkStatus s = .next (s.act (answer .ok (.link
          { counters := s.blocks.lnk.counters, queue := s.blocks.lnk.queue.length,
            refusals := s.blocks.lnk.refusals.length, flags := s.blocks.lnk.flags,
            nextNotice := s.blocks.lnk.noticeNumber }))))
    ∧ (StartedUp s →
      exec .runStatus s = .next (s.act (answer .ok (.run
          { state := s.blocks.seq.state,
            record := if s.blocks.seq.state = .idle then none else some (s.blocks.seq.run, s.blocks.seq.stack.reverse) })))
      ∧ exec .holdRead s = .next (s.act (answer .ok (.hold s.blocks.seq.hold)))
      ∧ exec .blockStatus s = .next (s.act (answer .ok (.block
          { block := s.blocks.trk.block, unknown := s.blocks.trk.unknown, sensor := s.blocks.inputs.backTable,
            notReady := tableRefusal, queueLength := s.blocks.trk.queue.length,
            clearPending := s.blocks.trk.clearPending, made := s.blocks.trk.made, delivered := s.blocks.trk.delivered,
            trims := s.blocks.trk.trims })))
      ∧ (∀ n : Nat, exec (.piecesRead n) s = .next (s.act
          (if n ≤ 7 then answer .ok (.pieces s.blocks.trk.queue.length ((s.blocks.trk.queue.drop n).take 4))
           else answer .badArgument .nothing)))
      ∧ exec .gaugeStatus s = .next (s.act (answer .ok (.gauge
          { state := s.blocks.gax.state, homing := if s.blocks.gax.state = .homing then some s.blocks.gax.homing else none,
            fault := s.blocks.gax.fault, referenced := s.blocks.gax.referenced, inPosition := s.blocks.gax.inPosition,
            drive := s.blocks.gax.drive, encoder := s.blocks.inputs.encoder, position := gaxPosition s.blocks,
            start := startingPosition s.blocks, pending := s.blocks.gax.pending, move := s.blocks.gax.move,
            invalidPoints := invalidPoints s.blocks.gax.table })))
      ∧ exec .knifeStatus s = .next (s.act (answer .ok (.knife
          { state := b.cku.state, fault := b.cku.fault, contactDetail := b.cku.contactDetail,
            upperStop := b.inputs.upperStop, tdc := b.inputs.tdc, bdc := b.inputs.bdc, flap := b.cku.flap,
            sample := b.cku.sample, contact := b.cku.contact, cycle := b.cku.cycle, leftHeld := b.inputs.leftHeld,
            rightHeld := b.inputs.rightHeld, rearmed := b.cku.rearmed, knife := b.cku.knife,
            wearPart := min 400 (b.cku.knife.C * b.cku.knife.w / 1000),
            knifeTerm := b.cku.knife.k + (min 400 (b.cku.knife.C * b.cku.knife.w / 1000) : Nat), wearCap := b.cku.wearCap,
            lastStored := b.cku.lastStored, unstored := b.cku.unstored, storeDeferred := b.cku.storeDeferred })))
      ∧ exec .feedStatus s = .next (s.act (answer .ok (.feed
          { state := b.lft.state, fault := b.lft.fault, height := b.lft.height, lowerLimit := b.inputs.lowerLimit,
            topLimit := b.inputs.topLimit, bladeHome := b.inputs.bladeHome, pusherHome := b.inputs.pusherHome,
            baseline := b.lft.baseline, window := b.lft.window, depth := b.lft.depth, latest := b.lft.latest,
            judgement := b.lft.judgement, baselinePending := b.lft.baselinePending.isSome, partedOff := b.lft.partedOff,
            lot := if b.seq.state = .running ∨ b.seq.state = .held then some b.seq.run.lot else none,
            feedPaused := b.lft.feedPaused, mayPart := decide (b.lft.state = .atLevel ∧ parting = none),
            partRefusal := if b.lft.state = .atLevel then parting else none,
            jogger :=
              { state := b.jog.state, fault := b.jog.fault, entry := b.inputs.entry, frontStop := b.inputs.frontStop,
                sideStop := b.inputs.sideStop, carriageHome := b.inputs.carriageHome, backTable := b.inputs.backTable,
                retries := b.jog.retries, repeatWaiting := b.jog.repeatWaiting, lastCheck := b.jog.lastCheck,
                record := b.jog.record.map fun r =>
                  if b.jog.state = .jogging then { r with periods := (b.clock - r.start) / r.period } else r,
                transferred := b.jog.transferred, mayTransfer := decide (b.jog.state = .aligned ∧ transfer = none),
                transferRefusal := if b.jog.state = .aligned then transfer else none } })))
      ∧ exec .libStatus s = .next (s.act (answer .ok (.library
          { state := b.lib.state,
            work := match b.lib.work with
              | some (.compact _ _ _ done total) => some ⟨.compact, done, total⟩
              | some (.eraseAll i) => some ⟨.erase, i, 96⟩
              | _ => none,
            erased := (b.lib.flash.filter fun c => decide (c = Section.erased)).length,
            inUse := (b.lib.flash.filter fun c => decide (c ≠ Section.erased)).length,
            bad := (b.lib.flash.filter fun c => decide (c = Section.bad)).length,
            room := match b.lib.work, openSection b.lib.flash with
              | some (.compact _ _ _ _ _), _ => 0
              | _, some i => 2032 - usedRoom (slotsAt b.lib.flash i)
              | _, none => 0,
            nextSeq := b.lib.nextSeq, damaged := b.lib.damaged,
            staging := b.lib.staging.map fun g =>
              { kind := g.kind, key := g.key, declared := g.declared, received := g.body.length,
                timeLeft := if b.lib.state = .compacting then 10000 else g.since + 10000 - b.clock },
            locked := b.inputs.locked, failure := if b.lib.state = .closed then b.lib.failure else none }))))

/-! ## Mode and safety unit -/

/-- MODE_SET is judged in the order of R167; the modes are numbered by their place, STANDBY 1, SETUP 2, AUTO 3 (R192). -/
def Obligations.ModeSetJudged : Prop :=
  ∀ (m : Nat) (s : State), StartedUp s →
    exec (.modeSet m) s = .next (s.act fun b =>
      if m = 0 ∨ 3 < m then answer .badArgument .nothing b
      else
        let mode : CellMode := if m = 1 then .standby else if m = 2 then .setup else .auto
        if mode = b.msu.mode then answer .ok .nothing b
        else if b.msu.mode = .auto ∧ b.seq.state = .running then answer .refusedState .nothing b
        else if mode = .auto ∧ b.gax.referenced = false then answer .refusedState (.autoRefusal .notReferenced) b
        else if mode = .auto ∧ b.inputs.tdc = false then answer .refusedState (.autoRefusal .knifeOffTdc) b
        else if mode = .auto ∧ b.inputs.upperStop = false then answer .refusedState (.autoRefusal .clampDown) b
        else if mode = .auto ∧ b.cku.state = .knifeReturnNeeded then
          answer .refusedState (.autoRefusal .knifeReturnNeeded) b
        else if mode = .auto ∧ b.msu.estop ≠ .chainOk then answer .refusedState (.autoRefusal .chainOpen) b
        else
          let changed := raise .cell { b with msu := { b.msu with mode := mode } }
          answer .ok .nothing (if b.msu.mode = .setup then leaveSetup changed else changed))

/-- A change that leaves SETUP brings the hand work in progress to rest: a jog and a homing run by a commanded stop, a manual
cut and a KNIFE_RETURN in each of their states, a manual turn (R91, R100, R122, R139, R168). SEQ is not RUNNING in SETUP. That
a homing run is in MOVING while it decelerates (log 50), and that a grip's release waits for the arms-open switch to cover
(log 55), are the model's choices. -/
def Obligations.LeavingSetupRestsHandWork : Prop :=
  ∀ b : Blocks,
    (b.gax.state = .moving → b.gax.stopping = false → moveInFlight b = true → moveAsker b = some .terminal →
      (leaveSetup b).gax.stopping = true ∧ (leaveSetup b).gax.deadline = some (b.clock + 800)
        ∧ moveInFlight (leaveSetup b) = false)
    ∧ (b.gax.state = .homing → b.gax.stopping = false → b.gax.finalSettling = false →
      (leaveSetup b).gax.state = .moving ∧ (leaveSetup b).gax.stopping = true
        ∧ (leaveSetup b).gax.deadline = some (b.clock + 800) ∧ moveInFlight (leaveSetup b) = false)
    ∧ (b.seq.state ≠ .running → b.gax.stopping = false →
      (b.gax.state = .settling ∧ moveInFlight b = true ∧ moveAsker b = some .terminal)
        ∨ (b.gax.state = .homing ∧ b.gax.finalSettling = true) →
      (leaveSetup b).gax.state = (if b.gax.referenced then .standstill else .unreferenced)
        ∧ (leaveSetup b).gax.inPosition = false ∧ moveInFlight (leaveSetup b) = false
        ∧ (leaveSetup b).lnk.flags.gauge = true)
    ∧ (b.cku.state = .open_ → manualCycle b = true →
      (leaveSetup b).cku.state = .open_ ∧ (leaveSetup b).cku.cycle = none ∧ (leaveSetup b).cku.lastManual = some false
        ∧ (leaveSetup b).lnk.flags.knife = true)
    ∧ (b.cku.state = .gap ∨ b.cku.state = .returning → manualCycle b = true → b.cku.knifeReturn = false →
      (leaveSetup b).cku = { b.cku with cycle := b.cku.cycle.map fun c => { c with restAsked := true } })
    ∧ (b.cku.state = .releasing → manualCycle b = true →
      (leaveSetup b).cku.state = .releasing ∧ (leaveSetup b).cku.valves = b.cku.valves
        ∧ (leaveSetup b).cku.deadline = b.cku.deadline
        ∧ (leaveSetup b).cku.cycle = b.cku.cycle.map fun c => { c with restAsked := true })
    ∧ (b.cku.state = .stroking → manualCycle b = true →
      (leaveSetup b).cku.state = .gap ∧ (leaveSetup b).cku.valves = { Valves.closed with lowering := true }
        ∧ (leaveSetup b).cku.downClosedAt = some b.clock ∧ (leaveSetup b).cku.deadline = some (b.clock + b.cku.knife.G)
        ∧ (leaveSetup b).cku.cycle = b.cku.cycle.map fun c => { c with restAsked := true, lastReversal := some .rest })
    ∧ (b.cku.state = .clamping ∨ b.cku.state = .clamped → b.inputs.upperStop = false → manualCycle b = true →
      (leaveSetup b).cku.state = .releasing ∧ (leaveSetup b).cku.valves = { Valves.closed with raising := true }
        ∧ (leaveSetup b).cku.deadline = some (b.clock + 1500))
    ∧ (∀ c, b.cku.state = .clamping ∨ b.cku.state = .clamped → b.inputs.upperStop = true → b.cku.cycle = some c →
      c.asker = .manual → b.cku.knifeReturn = false →
      (leaveSetup b).cku.state = .open_ ∧ (leaveSetup b).cku.valves = Valves.closed ∧ (leaveSetup b).cku.cycle = none
        ∧ (leaveSetup b).cku.lastManual = some c.bdcTaken ∧ (leaveSetup b).lnk.flags.knife = true)
    ∧ (b.cku.knifeReturn = true → b.cku.state = .gap ∨ b.cku.state = .returning →
      (leaveSetup b).cku.state = .knifeReturnNeeded ∧ (leaveSetup b).cku.valves = Valves.closed
        ∧ (leaveSetup b).cku.knifeReturn = false ∧ (leaveSetup b).cku.lastManual = some false)
    ∧ (b.trn.state = .gripping → turnAsker b = some .terminal →
      (leaveSetup b).trn.state = .releasing ∧ (leaveSetup b).trn.deadline = some (b.clock + 800)
        ∧ (leaveSetup b).trn.record = b.trn.record.map fun r => { r with restAsked := true, since := b.clock })
    ∧ (b.seq.state ≠ .running → b.trn.state = .turning ∨ b.trn.state = .releasing → turnAsker b = some .terminal →
      (leaveSetup b).trn = { b.trn with record := b.trn.record.map fun r => { r with restAsked := true } })
    ∧ (b.gax.state ≠ .homing → moveInFlight b = false → manualCycle b = false → b.cku.knifeReturn = false →
      turnAsker b ≠ some .terminal → leaveSetup b = b)

/-- The chain closing gives READY_TO_RESET in STOPPED and moves nothing (R169); ESTOP_RESET in READY_TO_RESET gives
CHAIN_OK: the drive is enabled but for a limit or drive fault, holding the gauge at the encoder reading of that moment,
with notice GAUGE where it was disabled (R101, R106), a lift in RAISING or LOWERING moves on (R153), a suspended carriage
return runs on (R164), notice CELL (R170). The switch a lift leaves as its motion resumes is the model's choice (log 4).
-/
def Obligations.EstopChainClosesAndResets : Prop :=
  (∀ s : State, exec .estopChainClosing s = .next (s.act fun b =>
      let closed := { b with inputs := { b.inputs with chainClosed := true } }
      if b.msu.estop = .stopped then raise .cell { closed with msu := { b.msu with estop := .readyToReset } } else closed))
  ∧ (∀ s : State, StartedUp s → exec .estopReset s = .next (s.act fun b =>
      match b.msu.estop with
      | .chainOk => answer .ok .nothing b
      | .stopped => answer .refusedState .nothing b
      | .readyToReset =>
        let enabled : Bool := decide ¬ (b.gax.state = .fault ∧
          (b.gax.fault = some .limitSwitch ∨ b.gax.fault = some .driveFault))
        answer .ok .nothing (raiseIf (enabled && !b.gax.drive) .gauge (raise .cell
          { b with
            msu := { b.msu with estop := .chainOk },
            gax := { b.gax with drive := enabled, driveCount := if enabled then some b.inputs.encoder else none },
            inputs := { b.inputs with lowerLimit := decide (b.lft.state ≠ .raising) && b.inputs.lowerLimit,
                                      topLimit := decide (b.lft.state ≠ .lowering) && b.inputs.topLimit },
            jog := match b.jog.suspended with
              | some left => { b.jog with suspended := none, deadline := some (b.clock + left) }
              | none => b.jog }))))

/-- The chain opening in CHAIN_OK stops every unit by its own rule: no drive and no count for it, no pending move or turn,
every valve closed, a turn and a parting and a transfer fault, a jog is void, a lift that parts off faults with its sensor
fault pending mark as it stood, a carriage return is suspended, and a running job is held with cause ESTOP, to which a
fault of the turner is a further cause; in HELD the opening sets the more-causes flag; a flap that was moving is OPEN with
its drive stopped, and a knife stopped off its rest raises notice KNIFE; the gauge stands where it stopped, with the
reference it had; a stroke stopped marks the partial cut, and a turn stopped in TURNING loses the orientation; opened
again in READY_TO_RESET it is hold cause ESTOP once more and no unit moves (R42, R44, R57, R60, R101, R123, R137, R153,
R161, R164, R169). That ESTOP is the primary cause, before a fault of the turner that comes with it, is the model's choice
(log 11); so is what a hold in READY_TO_RESET makes void (log 41), a reset's carriage return in RECEIVING is suspended too
(log 24), a lift reset's withdrawal goes on in FAULT (log 26), and a void jog discards its record (log 67). -/
def Obligations.EstopChainOpens : Prop :=
  ∀ s : State, ∃ t : State,
    exec .estopChainOpening s = .next t ∧ t.pending = s.pending ∧ t.blocks.inputs.chainClosed = false
    ∧ t.blocks.msu = { s.blocks.msu with estop := .stopped }
    ∧ (s.blocks.msu.estop = .stopped → t.blocks = { s.blocks with inputs := { s.blocks.inputs with chainClosed := false } })
    ∧ (s.blocks.msu.estop = .readyToReset → t.blocks = holdCause .estop (raise .cell { s.blocks with
        inputs := { s.blocks.inputs with chainClosed := false }, msu := { s.blocks.msu with estop := .stopped } }))
    ∧ (s.blocks.msu.estop = .chainOk →
      (s.blocks.gax.drive = true → t.blocks.lnk.flags.gauge = true)
      ∧ (t.blocks.lnk.flags.cell = true ∧ t.blocks.gax.drive = false ∧ t.blocks.gax.pending = none
        ∧ t.blocks.gax.state ≠ .moving ∧ t.blocks.gax.state ≠ .settling ∧ t.blocks.gax.state ≠ .homing)
      ∧ (StartedUp s →
          t.blocks.gax =
            if s.blocks.gax.state = .moving ∨ s.blocks.gax.state = .settling ∨ s.blocks.gax.state = .homing then
              { s.blocks.gax with
                state := if s.blocks.gax.referenced then .standstill else .unreferenced,
                start := if s.blocks.gax.referenced then .estimate else .none,
                move := s.blocks.gax.move.map fun m => if m.completed = none then { m with completed := some false } else m,
                inPosition := false, stopping := false, finalSettling := false, drive := false, driveCount := none, pending := none,
                deadline := none }
            else { s.blocks.gax with drive := false, driveCount := none, pending := none })
      ∧ t.blocks.trk = { s.blocks.trk with block := s.blocks.trk.block.map fun k => { k with
          partialCut := k.partialCut || decide (s.blocks.cku.state = .stroking),
          orientation := if s.blocks.trn.state = .turning then none else k.orientation } }
      ∧ (t.blocks.cku.valves = Valves.closed ∧ t.blocks.cku.cycle = none
        ∧ (t.blocks.cku.state = match s.blocks.cku.state with
            | .stroking | .gap | .returning | .knifeReturnNeeded => .knifeReturnNeeded
            | .fault => .fault
            | _ => .open_)
        ∧ (s.blocks.cku.valves.down = true → t.blocks.cku.downClosedAt = some s.blocks.clock)
        ∧ (s.blocks.cku.valves.ret = true → t.blocks.cku.returnClosedAt = some s.blocks.clock)
        ∧ t.blocks.cku.flap = (if s.blocks.cku.flap = .opening ∨ s.blocks.cku.flap = .closing then .opened else s.blocks.cku.flap)
        ∧ t.blocks.cku.flapDeadline = none
        ∧ (s.blocks.cku.state = .stroking ∨ s.blocks.cku.state = .gap ∨ s.blocks.cku.state = .returning →
            t.blocks.lnk.flags.knife = true))
      ∧ (s.blocks.lft.state = .parting ∨ s.blocks.jog.state = .transferring → t.blocks.lnk.flags.feed = true)
      ∧ (t.blocks.trn.pending = none
        ∧ (s.blocks.trn.state ≠ .parked → t.blocks.trn.state = .fault)
        ∧ (s.blocks.trn.state = .gripping ∨ s.blocks.trn.state = .turning ∨ s.blocks.trn.state = .releasing →
            t.blocks.trn.fault = some .chainOpened)
        ∧ (s.blocks.trn.state = .parked → t.blocks.trn.state = .parked))
      ∧ (s.blocks.lft.state = .parting → t.blocks.lft = { s.blocks.lft with
          state := .fault, fault := some (s.blocks.lft.fault.getD .chainOpened), withdrawing := false, resetting := false,
          deadline := none })
      ∧ (s.blocks.lft.state ≠ .parting → t.blocks.lft = s.blocks.lft)
      ∧ (s.blocks.jog.state = .transferring → t.blocks.jog.state = .fault ∧ t.blocks.jog.fault = some .chainOpened)
      ∧ (s.blocks.jog.state = .jogging → t.blocks.jog.state = .receiving ∧ t.blocks.jog.record = none
          ∧ t.blocks.jog.retries = s.blocks.jog.retries
          ∧ (t.blocks.jog.repeatWaiting = true ↔ s.blocks.jog.repeatWaiting = true
              ∨ (s.blocks.lft.feedPaused = true ∧ 0 < s.blocks.jog.retries)))
      ∧ (s.blocks.jog.state = .empty ∨ s.blocks.jog.state = .receiving →
          t.blocks.jog = if s.blocks.jog.carriageReturning = true ∨ s.blocks.jog.resetting = true then
              { s.blocks.jog with suspended := s.blocks.jog.deadline.map fun d => d - s.blocks.clock, deadline := none }
            else s.blocks.jog)
      ∧ (s.blocks.jog.state = .aligned ∨ s.blocks.jog.state = .fault → t.blocks.jog = s.blocks.jog)
      ∧ (s.blocks.seq.state = .running →
          t.blocks.seq = { s.blocks.seq with
            state := .held,
            hold := { cause := some .estop,
                      more := decide (s.blocks.trn.state = .gripping ∨ s.blocks.trn.state = .turning
                        ∨ s.blocks.trn.state = .releasing),
                      loc := some s.blocks.seq.run.loc, phase := s.blocks.seq.run.phase, depth := s.blocks.seq.stack.length,
                      holds := s.blocks.seq.hold.holds + 1 } }
            ∧ t.blocks.lnk.flags.hold = true ∧ t.blocks.lnk.flags.sequence = true)
      ∧ (s.blocks.seq.state = .held →
          t.blocks.seq = { s.blocks.seq with hold := { s.blocks.seq.hold with more := true } }
            ∧ t.blocks.lnk.flags.hold = true)
      ∧ (s.blocks.seq.state ≠ .running → s.blocks.seq.state ≠ .held → t.blocks.seq = s.blocks.seq)
      ∧ t.blocks.lib = s.blocks.lib)

/-- The permit key, the program-lock key, the light curtain and the guard door at each change (R116, R171, R172, R173). That a
report of the level that stands changes nothing is the model's choice (log 5). -/
def Obligations.SafetyInputsChange : Prop :=
  (∀ (key : PermitKey) (s : State), exec (.permitKeyChange key) s = .next (s.act fun b =>
      if key = b.inputs.permitKey then b
      else
        let turned := raise .cell { b with inputs := { b.inputs with permitKey := key } }
        if b.seq.state = .running then holdCause .permitChanged turned else turned))
  ∧ (∀ (locked : Bool) (s : State), exec (.programLockKeyChange locked) s = .next (s.act fun b =>
      if locked = b.inputs.locked then b else raise .cell { b with inputs := { b.inputs with locked := locked } }))
  ∧ (∀ (clear : Bool) (s : State), exec (.lightCurtainChange clear) s = .next (s.act fun b =>
      if clear = b.inputs.curtainClear then b
      else
        let changed := { b with inputs := { b.inputs with curtainClear := clear } }
        if b.cku.state = .stroking ∧ clear = false then
          let reversed := reverse .curtain changed
          if b.inputs.permitKey = .guardedAuto ∧ manualCycle b = false then holdCause .lightCurtain reversed else reversed
        else changed))
  ∧ (∀ (closed : Bool) (s : State), exec (.guardDoorChange closed) s = .next (s.act fun b =>
      if closed = b.inputs.guardClosed then b
      else
        let changed := raise .cell { b with inputs := { b.inputs with guardClosed := closed } }
        if closed = false ∧ b.inputs.permitKey = .guardedAuto ∧ b.inputs.upperStop = false then holdCause .guardOpen changed
        else changed))

/-- UNIT_RESET is judged in the order of R174: the unit, the mode, the cool-down of 3 s, the conditions of the unit's part; a
reset taken records its time and runs the part; it answers ACCEPTED where the unit is in a state that its part changes and the
part begins a motion, and OK where the part ends at once or changes nothing: GAX, TRN and LFT in FAULT, CKU in FAULT or in
OPEN with the clamp off its upper stop or the flap not CLOSED, JOG in FAULT, RECEIVING or ALIGNED (R103, R124, R140, R154,
R165). JOG's part needs the entry and both stop-edge sensors uncovered, and in FAULT with INTERLOCK_LOST, TRANSFER_TIMEOUT or
CHAIN_OPENED the back-table sensor too (R165). The units are numbered by their place, GAX 1 to JOG 5 (R192). That a lift's
climb back to level is such a motion is the model's choice (log 73). -/
def Obligations.UnitResetJudged : Prop :=
  (∀ b : Blocks,
    resetMoves .gax b = false ∧ resetMoves .cku b = b.cku.resetting ∧ resetMoves .trn b = b.trn.resetting
      ∧ resetMoves .jog b = b.jog.resetting
      ∧ (resetMoves .lft b = true ↔ b.lft.withdrawing = true ∨ b.lft.resetting = true ∨ b.lft.state = .raising)
      ∧ (resetActs .gax b = true ↔ b.gax.state = .fault) ∧ (resetActs .trn b = true ↔ b.trn.state = .fault)
      ∧ (resetActs .lft b = true ↔ b.lft.state = .fault)
      ∧ (resetActs .cku b = true ↔
          b.cku.state = .fault ∨ (b.cku.state = .open_ ∧ (b.inputs.upperStop = false ∨ b.cku.flap ≠ .closed)))
      ∧ (resetActs .jog b = true ↔ b.jog.state = .fault ∨ b.jog.state = .receiving ∨ b.jog.state = .aligned)
      ∧ (jogTableClear b = true ↔
          b.inputs.entry = false ∧ b.inputs.frontStop = false ∧ b.inputs.sideStop = false
          ∧ (b.jog.state = .fault →
              b.jog.fault = some .interlockLost ∨ b.jog.fault = some .transferTimeout ∨ b.jog.fault = some .chainOpened →
              b.inputs.backTable = false))) ∧
  ∀ (n : Nat) (s : State), StartedUp s →
    (n = 0 ∨ 5 < n → exec (.unitReset n) s = .next (s.act (answer .badArgument .nothing)))
    ∧ (∀ u : UnitName, n = (match u with | .gax => 1 | .cku => 2 | .trn => 3 | .lft => 4 | .jog => 5) →
      exec (.unitReset n) s = .next (s.act fun b =>
        if b.msu.mode = .standby then answer .refusedMode .nothing b
        else if (match b.msu.resets.get u with | some t => decide (b.clock < t + 3000) | none => false) = true then answer .tooSoon .nothing b
        else if
          (match u with
           | .gax => false
           | .cku | .lft => decide (b.msu.estop ≠ .chainOk)
           | .trn => decide (b.msu.estop ≠ .chainOk ∨ b.inputs.upperStop = false ∨ b.inputs.tdc = false)
           | .jog => decide (b.msu.estop ≠ .chainOk ∨
               ((b.jog.state = .fault ∨ b.jog.state = .receiving ∨ b.jog.state = .aligned) ∧ jogTableClear b = false)))
            = true then
          answer .refusedState .nothing b
        else
          let after := resetPart u { b with msu := { b.msu with resets := b.msu.resets.set u b.clock } }
          answer (if resetActs u b = true ∧ resetMoves u after = true then .accepted else .ok) .nothing after))

/-- The parts of a UNIT_RESET: GAX (R103), CKU with the chain closed (R124), TRN (R140), LFT with the chain closed (R154),
JOG (R165), each in FAULT and in the other states it acts in; elsewhere nothing changes. A release of CKU from FAULT that
ends at once is reported to SEQ (R118); that a reset which finds CKU in OPEN with the clamp up and the flap not CLOSED is
not reported is the model's choice (log 79). The switch that a lift or a flap leaves as it moves (log 4), a reset without
effect that raises no notice and LFT's notice at the end of its part (log 19), a clamp request waiting in OPEN that is
discarded (log 37), a limit fault kept while the drive still reports its own (log 44), the gear's way back that a reset
takes over (log 60), a pending baseline that stays pending (log 66), the end of CKU's part held as its release and its
flap (log 71), the grip that ends with TRN's reset (log 72), the flap judged by its state and not its switch (log 96), the
6 s that a second reset begins again in the lift's withdrawal (log 97), and that a drive which GAX's reset enables holds
at the encoder reading of that moment (log 91) are the model's choices. -/
def Obligations.UnitResetParts : Prop :=
  ∀ b : Blocks,
    (b.gax.state ≠ .fault → resetPart .gax b = b)
    ∧ (b.gax.state = .fault → b.gax.fault = some .moveTimeout ∨ b.gax.fault = some .settleTimeout →
      resetPart .gax b = { b with gax := { b.gax with
        fault := none, state := if b.gax.referenced then .standstill else .unreferenced,
        start := if b.gax.referenced then .estimate else .none } })
    ∧ (b.gax.state = .fault → b.gax.fault = some .limitSwitch ∨ b.gax.fault = some .driveFault →
      b.inputs.driveFault = false →
      resetPart .gax b = { b with gax := { b.gax with
        fault := none, state := .unreferenced, referenced := false, start := .none, drive := decide (b.msu.estop = .chainOk),
        driveCount := if b.msu.estop = .chainOk then some b.inputs.encoder else none } })
    ∧ (b.gax.state = .fault → b.gax.fault = some .limitSwitch ∨ b.gax.fault = some .driveFault →
      b.inputs.driveFault = true → resetPart .gax b = raise .gauge b)
    ∧ (b.cku.state = .fault → b.inputs.tdc = false →
      resetPart .cku b = raise .knife { b with cku := { b.cku with
        state := .knifeReturnNeeded, fault := none, contactDetail := none } })
    ∧ (b.msu.estop = .chainOk →
        (b.cku.state = .fault ∧ b.inputs.tdc = true)
          ∨ (b.cku.state = .open_ ∧ ¬ (b.inputs.upperStop = true ∧ b.cku.flap = .closed)) →
      let begun : Blocks :=
        if b.cku.state = .fault then
          { b with cku := { b.cku with resetting := true, resetReleased := false, fault := none, contactDetail := none } }
        else { b with cku := { b.cku with resetting := true, resetReleased := false } }
      let shut : Blocks :=
        if b.cku.flap = .opening ∨ b.cku.flap = .opened then
          { begun with inputs := { b.inputs with flapOpenSw := false },
                       cku := { begun.cku with flap := .closing, flapDeadline := some (b.clock + 600) } }
        else begun
      (b.inputs.upperStop = false →
        resetPart .cku b = { shut with cku := { shut.cku with
          state := .releasing, valves := { Valves.closed with raising := true }, deadline := some (b.clock + 1500) } })
      ∧ (b.inputs.upperStop = true →
        let up : Blocks := { shut with cku := { shut.cku with
          state := .open_, cycle := none, knifeReturn := false, resetReleased := true, valves := Valves.closed,
          deadline := none } }
        let told : Blocks :=
          if b.cku.knifeReturn then raise .knife { up with cku := { up.cku with lastManual := some true } }
          else
            match b.cku.cycle with
            | some c =>
              if c.asker = .manual then raise .knife { up with cku := { up.cku with lastManual := some c.bdcTaken } } else up
            | none => up
        let ended : Blocks :=
          if b.cku.flap = .closed then
            raise .knife { told with cku := { told.cku with resetting := false, resetReleased := false } }
          else told
        resetPart .cku b = if b.cku.state = .fault ∧ manualCycle b = false then seqReleased ended else ended))
    ∧ (b.cku.state = .open_ → b.inputs.upperStop = true → b.cku.flap = .closed → resetPart .cku b = b)
    ∧ (b.cku.state ≠ .open_ → b.cku.state ≠ .fault → resetPart .cku b = b)
    ∧ (b.trn.state ≠ .fault → resetPart .trn b = b)
    ∧ (b.trn.state = .fault → b.inputs.armsOpen = false →
      resetPart .trn b = { b with trn := { b.trn with
        state := .releasing, fault := none, resetting := true, carrying := false, gripKept := false,
        deadline := some (b.clock + 800), record := b.trn.record.map fun r => { r with since := b.clock } } })
    ∧ (b.trn.state = .fault → b.inputs.armsOpen = true →
      let begun : Trn := { b.trn with
        state := .releasing, fault := none, resetting := true, carrying := false, gripKept := false,
        deadline := some (b.clock + 800), record := b.trn.record.map fun r => { r with since := b.clock } }
      resetPart .trn b =
        if b.inputs.quarter then
          raise .cell { b with trn := { begun with
            state := .parked, record := none, resetting := false, deadline := none,
            lastTurn := match begun.record with | some r => some ⟨r.done, .parked⟩ | none => b.trn.lastTurn } }
        else { b with trn := { begun with carrying := true, deadline := some (b.clock + 1500) } })
    ∧ (b.lft.state ≠ .fault → resetPart .lft b = b)
    ∧ (b.lft.state = .fault → gearAtRest b = false →
      resetPart .lft b = { b with lft := { b.lft with
        fault := none, sensorFaultPending := false, withdrawing := true, gearReturning := false,
        deadline := some (b.clock + 6000) } })
    ∧ (b.lft.state = .fault → gearAtRest b = true → b.lft.height = none ∨ b.lft.baseline = 0 → b.msu.estop = .chainOk →
      let drawn : Lft := { b.lft with fault := none, sensorFaultPending := false, withdrawing := false, deadline := none }
      resetPart .lft b =
        if b.inputs.lowerLimit then raise .feed { b with lft := { drawn with state := .lowered, height := some 0 } }
        else { b with lft := { drawn with state := .lowering, resetting := true },
                      inputs := { b.inputs with topLimit := false } })
    ∧ (b.lft.state = .fault → gearAtRest b = true → b.lft.height.isSome = true → b.lft.baseline ≠ 0 →
      b.msu.estop = .chainOk →
      resetPart .lft b = raise .feed { b with
        lft := { b.lft with fault := none, sensorFaultPending := false, withdrawing := false, deadline := none,
                            state := .raising },
        inputs := { b.inputs with lowerLimit := false } })
    ∧ (b.jog.state = .fault ∨ b.jog.state = .receiving ∨ b.jog.state = .aligned → b.inputs.carriageHome = true →
      resetPart .jog b = raise .feed { b with jog := { b.jog with
        state := .empty, fault := none, retries := 0, repeatWaiting := false, resetting := false, carriageReturning := false, deadline := none, suspended := none } })
    ∧ (b.jog.state = .fault ∨ b.jog.state = .receiving ∨ b.jog.state = .aligned → b.inputs.carriageHome = false →
      resetPart .jog b = { b with jog := { b.jog with
        fault := none, retries := 0, repeatWaiting := false, resetting := true, deadline := some (b.clock + 4000), suspended := none } })
    ∧ (b.jog.state = .empty ∨ b.jog.state = .jogging ∨ b.jog.state = .transferring → resetPart .jog b = b)

/-- Power-on and a RESTART that is taken begin start-up: STANDBY, the e-stop state by the chain, SEQ, TRK and JOG empty,
no cycle and every valve closed, the flap, the turner, the lift and the jogger by their switches, the gauge unreferenced
with its drive disabled; a RESTART while SEQ is RUNNING is refused, and one that finds the gauge moving stops it first
(R175, R18, R51, R68, R88, R100, R108, R131, R143, R146, R156, R194). LIB scans its flash: the records of each section in
their order, damaged ones skipped and counted, the highest sequence number of each kind and key current; with no erased
section the spent ones are erased, and at power-on above 72 sections in use it compacts (R178, R179). With LIB's part over
GAX fills its table and CKU loads its record, which happens in that phase of start-up alone (R104, R128, R175). A
RESTART's orderly stop stores CKU's knife record before the scan, with the library OPEN, and discards the staging (R128,
R175). That start-up waits for the reply of a RESTART by frame (log 20) and for the gauge's stop, which ends in the values
of R88 (log 51), that the blocks take their states beside the scan (log 68) and that SEQ's change to IDLE has its notice
at the end (log 62), what an interrupted erase leaves (log 31), the order of the spent sections (log 16, log 69), which of
two equal copies serves (log 17), the layout of the KNIFE body that is read, k, w, C and G in 2, 2, 4 and 2 bytes and two
more (log 15), LFT's height in a fault of its sensor (log 56), that a RESTART keeps neither the target of a cut nor LIB's
last event (log 89), and that the filling of GAX's table raises no notice GAUGE (log 93), are the model's choices. -/
def Obligations.StartupBegins : Prop :=
  let fresh (cause : StartupCause) (t : Blocks) : Prop :=
    t.msu.mode = .standby ∧ t.msu.estop = (if t.inputs.chainClosed then .readyToReset else .stopped)
      ∧ t.msu.resets = ⟨none, none, none, none, none⟩ ∧ t.msu.cause = cause ∧ t.msu.phase ≠ .ended
      ∧ t.seq = { Seq.atReset with startNotice := t.seq.startNotice } ∧ t.trk = { Trk.atReset with unknown := t.inputs.backTable }
      ∧ t.gax.pending = none
      ∧ (t.gax.stopping = false → t.gax = { Gax.atReset with table := t.gax.table })
      ∧ t.cku.state = (if t.inputs.tdc then .open_ else .knifeReturnNeeded) ∧ t.cku.fault = none ∧ t.cku.cycle = none
      ∧ t.cku.valves = Valves.closed ∧ t.cku.flap = (if t.inputs.flapClosedSw then .closed else .opened)
      ∧ t.trn.state = (if t.inputs.armsOpen ∧ t.inputs.quarter then .parked else .fault)
      ∧ t.trn.fault = (if t.inputs.armsOpen ∧ t.inputs.quarter then none else some .positionLost)
      ∧ t.trn.record = none ∧ t.trn.pending = none
      ∧ (let low : Prop := t.inputs.lowerLimit = true ∧ t.inputs.bladeHome = true ∧ t.inputs.pusherHome = true
         let n := min 65535 t.inputs.levelCount
         t.lft.window = 1024 ∧ t.lft.depth = 12 ∧ t.lft.partedOff = 0 ∧ t.lft.feedPaused = false
          ∧ t.lft.baselinePending = none ∧ t.lft.sensorFaultPending = false
          ∧ (low → 16 ≤ n → t.lft.state = .lowered ∧ t.lft.fault = none ∧ t.lft.height = some 0 ∧ t.lft.baseline = n)
          ∧ (low → n < 16 →
              t.lft.state = .fault ∧ t.lft.fault = some .levelSensor ∧ t.lft.height = some 0 ∧ t.lft.baseline = 0)
          ∧ (¬ low →
              t.lft.state = .fault ∧ t.lft.fault = some .positionUnknown ∧ t.lft.height = none ∧ t.lft.baseline = 0))
      ∧ t.jog.retries = 0 ∧ t.jog.transferred = 0 ∧ t.jog.repeatWaiting = false ∧ t.jog.record = none
      ∧ (let clear : Prop := t.inputs.entry = false ∧ t.inputs.frontStop = false ∧ t.inputs.sideStop = false
          ∧ t.inputs.carriageHome = true
         (clear → t.jog.state = .empty ∧ t.jog.fault = none)
          ∧ (¬ clear → t.jog.state = .fault ∧ t.jog.fault = some .tableOccupied))
      ∧ t.lib.staging = none
      ∧ t.lnk.gathered = [] ∧ t.lnk.queue = [] ∧ t.lnk.refusals = [] ∧ t.lnk.tx = none ∧ t.lnk.noticeNumber = 0
      ∧ t.lnk.counters = LinkCounters.zero
  (∀ (inp : Inputs) (s : State), ∃ t : State,
      exec (.powerOn inp) s = .next t ∧ t.pending = s.pending ∧ t.blocks.inputs = inp ∧ fresh .powerOn t.blocks
        ∧ t.blocks.gax.stopping = false ∧ t.blocks.seq.startNotice = false)
  ∧ (∀ s : State, StartedUp s → s.blocks.seq.state = .running →
      exec .restart s = .next (s.act (answer .refusedState .nothing)))
  ∧ (∀ s : State, StartedUp s → s.blocks.seq.state ≠ .running → ∃ t : State,
      exec .restart s = .next t ∧ t.pending = s.pending ∧ t.blocks.inputs = s.blocks.inputs
        ∧ t.blocks.answer = some ⟨.ok, .nothing⟩ ∧ fresh .restart t.blocks
        ∧ (t.blocks.seq.startNotice = true ↔ s.blocks.seq.state ≠ .idle)
        ∧ (s.blocks.gax.state = .moving
            ∨ (s.blocks.gax.state = .homing ∧ (s.blocks.gax.stopping = true ∨ s.blocks.gax.finalSettling = false)) →
          t.blocks.gax.state = (if s.blocks.gax.stopping then s.blocks.gax.state else .moving)
            ∧ t.blocks.gax.stopping = true ∧ t.blocks.gax.drive = s.blocks.gax.drive
            ∧ (s.blocks.gax.stopping = false → moveInFlight t.blocks = false)
            ∧ t.blocks.gax.deadline = if s.blocks.gax.stopping then s.blocks.gax.deadline else some (s.blocks.clock + 800))
        ∧ (s.blocks.gax.state = .settling
            ∨ (s.blocks.gax.state ≠ .moving ∧ s.blocks.gax.stopping = false
              ∧ (s.blocks.gax.state = .homing → s.blocks.gax.finalSettling = true)) →
          t.blocks.gax.stopping = false))
  ∧ (∀ s : State, StartedUp s → s.blocks.seq.state ≠ .running →
      exec .restart s = .next (s.act fun b =>
        answer .ok .nothing (startBlocks .restart { orderlyStop b with lnk := Lnk.atReset })))
  ∧ (∀ b : Blocks,
      let stored : Blocks := if b.lib.state = .opened then ckuStore (gaxStop b) else gaxStop b
      orderlyStop b = { stored with lib := { stored.lib with staging := none } })
  ∧ (∀ (cause : StartupCause) (b : Blocks), (startBlocks cause b).lib = (libStart (decide (cause = .powerOn)) { b with
      msu := { b.msu with phase := .waitLibrary } }).lib)
  ∧ (∀ (body : List Byte), decodeKnife body = match body with
      | [a, b, c, d, e, f, g, h, i, j, _, _] =>
        some ⟨beInt [a, b], beNat [c, d], beNat [e, f, g, h], beNat [i, j]⟩
      | _ => none)
  ∧ (∀ b : Blocks, b.gax.stopping = true → b.msu.phase ≠ .ended →
      let values : Blocks := raise .gauge { b with
        gax := { Gax.atReset with table := b.gax.table, drive := decide (b.msu.estop = .chainOk) } }
      gaxStopped b = values ∧ ∀ code, b.gax.state ≠ .fault → gaxEnterFault code b = jogWatch values)
  ∧ (∀ (powerOn : Bool) (b : Blocks), libStart powerOn b =
      let found : Blocks := match b.lib.work with | some w => spoilSection (eraseTarget w) b | none => b
      let scanned : Blocks := { found with lib := reindex { Lib.atReset with
        flash := found.lib.flash, nextSeq := highestSeq (allRecords found.lib.flash) + 1,
        damaged := scanDamaged found.lib.flash } }
      if ∀ c ∈ found.lib.flash, c ≠ Section.erased then eraseSpent powerOn scanned else afterSpent powerOn scanned)
  ∧ (∀ (powerOn : Bool) (b : Blocks),
      let opened : Blocks := { b with lib := { b.lib with state := .opened, work := none, deadline := none } }
      (eraseSpent powerOn b = match (compactionSources b.lib.flash).find? (isSpent b.lib) with
        | some i => { b with lib := { b.lib with
            state := .compacting, work := some (.spent i powerOn), deadline := some (b.clock + 40) } }
        | none => afterSpent powerOn b)
      ∧ afterSpent powerOn b =
        if powerOn = true ∧ 72 < (b.lib.flash.filter fun c => decide (c ≠ Section.erased)).length then beginCompaction opened
        else libReady opened)
  ∧ (∀ (l : Lib) (i : Nat), isSpent l i = true ↔
      ∀ p ∈ sectionRecords i 0 (slotsAt l.flash i),
        isLive l p = false ∨ ∃ q ∈ allRecords l.flash, q.1.sect ≠ i ∧ q.2 = p.2)
  ∧ (∀ (i k n : Nat) (r : Rec) (rest : List Slot),
      sectionRecords i k (.valid r :: rest) = (⟨i, k⟩, r) :: sectionRecords i (k + 1) rest
        ∧ sectionRecords i k (.damaged n :: rest) = sectionRecords i (k + 1) rest
        ∧ sectionRecords i k (.torn :: rest) = [] ∧ sectionRecords i k [] = []
        ∧ sectionDamaged (.valid r :: rest) = sectionDamaged rest
        ∧ sectionDamaged (.damaged n :: rest) = sectionDamaged rest + 1
        ∧ sectionDamaged (.torn :: rest) = 0 ∧ sectionDamaged [] = 0)
  ∧ (∀ (flash : List Section) (p : Place × Rec), p ∈ allRecords flash ↔
      p ∈ sectionRecords p.1.sect 0 (slotsAt flash p.1.sect))
  ∧ (∀ flash : List Section, scanDamaged flash = (flash.map fun c => match c with
      | .begun _ slots => sectionDamaged slots | _ => 0).sum)
  ∧ (∀ l : Lib,
      (∀ p ∈ allRecords l.flash, p.2.seq ≤ highestSeq (allRecords l.flash))
      ∧ (allRecords l.flash = [] → highestSeq (allRecords l.flash) = 0)
      ∧ (allRecords l.flash ≠ [] → ∃ p ∈ allRecords l.flash, p.2.seq = highestSeq (allRecords l.flash))
      ∧ (∀ e ∈ (reindex l).index, ∃ p ∈ allRecords l.flash,
          p.1 = e.place ∧ p.2.kind = e.kind ∧ p.2.key = e.key ∧ p.2.seq = e.seq
          ∧ ∀ q ∈ allRecords l.flash, q.2.kind = e.kind → q.2.key = e.key → q.2.seq ≤ e.seq)
      ∧ (∀ p ∈ allRecords l.flash, p.2.kind ≠ .corr →
          ∃ e ∈ (reindex l).index, e.kind = p.2.kind ∧ e.key = p.2.key))
  ∧ (∀ b : Blocks, b.msu.phase = .waitLibrary →
      let found : Option KnifeRecord :=
        if b.lib.state = .closed then none else (currentItem b.lib .knife 0).bind fun r => decodeKnife r.body
      let knife : KnifeRecord := match found with | some k => k | none => ⟨0, 0, 0, 8⟩
      libReady b = { b with
        msu := { b.msu with phase := .statesTaken },
        gax := { b.gax with table := (List.range 232).map (currentPoint b.lib) },
        cku := { b.cku with knife := knife, unstored := found.isNone, lastStored := knife.C, storeDeferred := false,
                            wearCap := wearPart knife == 400 } })
  ∧ (∀ b : Blocks, b.msu.phase ≠ .waitLibrary → libReady b = b)
  ∧ (∀ s : State, s.blocks.msu.phase = .statesTaken → s.blocks.lnk.restartReply = false → s.blocks.gax.stopping = false →
      exec .startupEnd s = .next (s.act fun b =>
        raiseIf (b.lft.state == .fault || b.jog.state == .fault) .feed
          (raiseIf (b.cku.state == .knifeReturnNeeded || b.cku.wearCap) .knife
            (raiseIf b.seq.startNotice .sequence
              (raise .cell { b with msu := { b.msu with phase := .ended }, seq := { b.seq with startNotice := false } })))))
  ∧ (∀ s : State,
      s.blocks.msu.phase ≠ .statesTaken ∨ s.blocks.lnk.restartReply = true ∨ s.blocks.gax.stopping = true →
      exec .startupEnd s = .next s)

/-! ## Program sequencer -/

/-- JOB_LOAD is judged in the order of R17 and R19; a job loaded fills the snapshot and the running record, clears the hold
record and sets the job counters to 0, with a load number no waiting piece carries (R20, R21, R62, R68). The JOB and the STOCK
record must be present and sound, and every subprogram called is fetched and checked in the order the list grows (R15, R17).
The record checks are made in their order, the header's first and then step by step, over the header and the step records as
R196 lays them out (R1, R5, R10 to R16, R196). That a STOCK body of another layout fails HEADER_RANGE is the model's choice
(log 15). -/
def Obligations.JobLoadJudged : Prop :=
  (∀ (job stock : Nat) (l : Lib),
    (currentItem l .job job = none → gatherJob job stock l = .fails .notFound (.failingRecord .job job none))
    ∧ (∀ r f, currentItem l .job job = some r → checkJob job r.body = some f →
        gatherJob job stock l = .fails .invalidProgram (.failingRecord .job job (some f)))
    ∧ (∀ r, currentItem l .job job = some r → checkJob job r.body = none →
      (currentItem l .stock stock = none → gatherJob job stock l = .fails .notFound (.failingRecord .stock stock none))
      ∧ (∀ k, currentItem l .stock stock = some k →
          (∀ f, decodeStock k.body = some f → StockFigures.inRange f = false) →
          gatherJob job stock l = .fails .invalidProgram (.failingRecord .stock stock (some ⟨.headerRange, none⟩)))
      ∧ (∀ k f, currentItem l .stock stock = some k → decodeStock k.body = some f → StockFigures.inRange f = true →
        let first := calledSubs (stepsOf (r.body.drop 28)) []
        (∀ st e, loadSubs l 33 first first = .fails st e → gatherJob job stock l = .fails st e)
        ∧ (∀ subs, loadSubs l 33 first first = .got subs →
          let depth := beNat ((r.body.drop 18).take 4)
          gatherJob job stock l = .got {
            job := job, name := ((r.body.drop 2).take 16).takeWhile (· != 0), depth := depth,
            width := beNat ((r.body.drop 22).take 4), height := beNat ((r.body.drop 26).take 2),
            steps := stepsOf (r.body.drop 28), subs := subs, stockNumber := stock, stock := f,
            loadPosition := min 1150000 (stretched depth f.stretchA + 5000) }))))
  ∧ (∀ (l : Lib) (k : Nat) (listed : List Nat), loadSubs l (k + 1) [] listed = .got [])
  ∧ (∀ (l : Lib) (k n : Nat) (rest listed : List Nat),
      (currentItem l .sub n = none → loadSubs l (k + 1) (n :: rest) listed = .fails .notFound (.failingRecord .sub n none))
      ∧ (∀ r f, currentItem l .sub n = some r → checkSub r.body = some f →
          loadSubs l (k + 1) (n :: rest) listed = .fails .invalidProgram (.failingRecord .sub n (some f)))
      ∧ (∀ r, currentItem l .sub n = some r → checkSub r.body = none →
        let more := calledSubs (stepsOf r.body) listed
        (∀ st e, loadSubs l k (rest ++ more) (listed ++ more) = .fails st e →
          loadSubs l (k + 1) (n :: rest) listed = .fails st e)
        ∧ (∀ others, loadSubs l k (rest ++ more) (listed ++ more) = .got others →
          loadSubs l (k + 1) (n :: rest) listed = .got ((n, stepsOf r.body) :: others))))
  ∧ (∀ (steps : List ProgStep) (listed : List Nat),
      (∀ n, n ∈ calledSubs steps listed ↔ n ∉ listed ∧ ∃ count own, ProgStep.call n count own ∈ steps)
      ∧ (calledSubs steps listed).Nodup
      ∧ (calledSubs steps listed).Sublist
          (steps.filterMap fun s => match s with | .call n _ _ => some n | _ => none))
  ∧ (∀ (key : Nat) (body : List Byte),
      let figure (place bytes : Nat) : Nat := beNat ((body.drop place).take bytes)
      let named : Prop := ∃ k ≤ 16, (∀ i < k, 0x20 ≤ (body.getD (2 + i) 0).toNat ∧ (body.getD (2 + i) 0).toNat ≤ 0x7E)
        ∧ ∀ i, k ≤ i → i < 16 → body.getD (2 + i) 0 = 0
      let header : Prop := figure 0 2 = key ∧ 1 ≤ key ∧ key ≤ 999 ∧ named
        ∧ 100000 ≤ figure 18 4 ∧ figure 18 4 ≤ 1140000 ∧ 100000 ≤ figure 22 4 ∧ figure 22 4 ≤ 1140000
        ∧ 400 ≤ figure 26 2 ∧ figure 26 2 ≤ 1650
      let steps := (body.length - 28) / 12
      (recordChecks .job key body = checkJob key body ∧ recordChecks .sub key body = checkSub body)
      ∧ (body.length < 28 ∨ (body.length - 28) % 12 ≠ 0 → checkJob key body = some ⟨.length, none⟩)
      ∧ (28 ≤ body.length → (body.length - 28) % 12 = 0 →
          (steps < 1 ∨ 120 < steps → checkJob key body = some ⟨.stepCount, none⟩)
          ∧ (1 ≤ steps → steps ≤ 120 → ¬ header → checkJob key body = some ⟨.headerRange, none⟩)
          ∧ (1 ≤ steps → steps ≤ 120 → header → checkJob key body = checkSteps true 0 (stepRecords (body.drop 28))))
      ∧ (body.length % 12 ≠ 0 → checkSub body = some ⟨.length, none⟩)
      ∧ (body.length % 12 = 0 →
          (body.length / 12 < 1 ∨ 40 < body.length / 12 → checkSub body = some ⟨.stepCount, none⟩)
          ∧ (1 ≤ body.length / 12 → body.length / 12 ≤ 40 → checkSub body = checkSteps false 0 (stepRecords body)))
      ∧ (stepRecords body).length = body.length / 12
      ∧ (∀ i < body.length / 12, (stepRecords body)[i]? = some ((body.drop (12 * i)).take 12))
      ∧ stepsOf body = (stepRecords body).filterMap fun r => match readStep r with | .step p => some p | _ => none)
  ∧ (∀ (isJob : Bool) (i : Nat) (r : List Byte) (rest : List (List Byte)), checkSteps isJob i [] = none
      ∧ checkSteps isJob i (r :: rest) = match checkStep isJob rest.length r with
        | some c => some ⟨c, some i⟩
        | none => checkSteps isJob (i + 1) rest)
  ∧ (∀ (isJob : Bool) (left : Nat) (r : List Byte),
      (readStep r = .badKind → checkStep isJob left r = some .kind)
      ∧ (readStep r = .badField → checkStep isJob left r = some .fieldRange)
      ∧ ∀ p, readStep r = .step p →
        let repeats : Bool := match p with | .cut m n _ _ _ => decide (1 < n ∧ m ≠ .rel) | _ => false
        let skips : Bool := match p with | .skipIf _ _ => true | _ => false
        let terminates : Bool := if isJob then decide (p = .endStep) else decide (p = .ret)
        checkStep isJob left r =
          if repeats then some .repeatMode
          else if p = .ret ∧ isJob = true then some .returnInMain
          else if p = .endStep ∧ isJob = false then some .endInSub
          else if p = .endStep ∧ left ≠ 0 then some .endMisplaced
          else if skips = true ∧ left = 0 then some .skipLast
          else if skips = true ∧ left = 1 then some .skipTerminator
          else if left = 0 ∧ terminates = false then some .noTerminator
          else none)
  ∧ (∀ k b1 b2 b3 d0 d1 d2 d3 o0 o1 t0 t1 : Byte,
      let figure := beNat [d0, d1, d2, d3]
      let pressure := beNat [o0, o1]
      let own : Option Nat := if pressure = 0 then none else some pressure
      let unused : Prop := beNat [t0, t1] = 0
      let pressed : Prop := pressure = 0 ∨ (50 ≤ pressure ∧ pressure ≤ 550)
      let read := readStep [k, b1, b2, b3, d0, d1, d2, d3, o0, o1, t0, t1]
      (k.toNat < 1 ∨ 8 < k.toNat → read = .badKind)
      ∧ (k = 1 → ∀ m : CutMode, b1.toNat = (match m with | .abs => 1 | .rel => 2 | .fromBase => 3) →
          1 ≤ b2.toNat → b2.toNat ≤ 99 → b3.toNat ≤ 1 → figure ≤ 1150000 → pressed → unused →
          read = .step (.cut m b2.toNat (decide (b3 = 1)) figure own))
      ∧ (k = 1 → ¬ (1 ≤ b1.toNat ∧ b1.toNat ≤ 3 ∧ 1 ≤ b2.toNat ∧ b2.toNat ≤ 99 ∧ b3.toNat ≤ 1 ∧ figure ≤ 1150000 ∧ pressed
          ∧ unused) → read = .badField)
      ∧ (k = 2 → (1 ≤ b1.toNat ∧ b1.toNat ≤ 3 ∧ b2 = 0 ∧ b3 = 0 ∧ figure = 0 ∧ pressure = 0 ∧ unused →
            read = .step (.turn b1.toNat))
          ∧ (¬ (1 ≤ b1.toNat ∧ b1.toNat ≤ 3 ∧ b2 = 0 ∧ b3 = 0 ∧ figure = 0 ∧ pressure = 0 ∧ unused) → read = .badField))
      ∧ (k = 3 ∨ k = 6 ∨ k = 8 →
          (b1 = 0 ∧ b2 = 0 ∧ b3 = 0 ∧ figure = 0 ∧ pressure = 0 ∧ unused →
            read = .step (if k = 3 then .eject else if k = 6 then .ret else .endStep))
          ∧ (¬ (b1 = 0 ∧ b2 = 0 ∧ b3 = 0 ∧ figure = 0 ∧ pressure = 0 ∧ unused) → read = .badField))
      ∧ (k = 4 → (b2 = 0 ∧ b3 = 0 ∧ figure = 0 ∧ pressure = 0 ∧ unused → read = .step (.pause b1.toNat))
          ∧ (¬ (b2 = 0 ∧ b3 = 0 ∧ figure = 0 ∧ pressure = 0 ∧ unused) → read = .badField))
      ∧ (k = 5 → (b1.toNat ≤ 31 ∧ 1 ≤ b2.toNat ∧ b2.toNat ≤ 99 ∧ b3 = 0 ∧ figure = 0 ∧ pressed ∧ unused →
            read = .step (.call b1.toNat b2.toNat own))
          ∧ (¬ (b1.toNat ≤ 31 ∧ 1 ≤ b2.toNat ∧ b2.toNat ≤ 99 ∧ b3 = 0 ∧ figure = 0 ∧ pressed ∧ unused) → read = .badField))
      ∧ (k = 7 → ∀ c : SkipCond,
          b1.toNat = (match c with
            | .depthBelow => 1 | .widthBelow => 2 | .orientationIs => 3 | .firstPortion => 4 | .lastPortion => 5
            | .piecesWaiting => 6) →
          let top := match c with | .depthBelow | .widthBelow => 1150000 | .orientationIs => 3 | _ => 0
          (b2 = 0 ∧ b3 = 0 ∧ pressure = 0 ∧ unused ∧ figure ≤ top → read = .step (.skipIf c figure))
          ∧ (¬ (b2 = 0 ∧ b3 = 0 ∧ pressure = 0 ∧ unused ∧ figure ≤ top) → read = .badField))
      ∧ (k = 7 → b1.toNat < 1 ∨ 6 < b1.toNat → read = .badField))
  ∧ (∀ (queue : List Piece) (n : Nat),
      let next : Nat := if n = 65535 then 1 else n + 1
      ((∀ p ∈ queue, p.load ≠ next) → freshLoadNumber queue 8 n = next)
      ∧ (queue.length ≤ 8 →
        (∀ p ∈ queue, p.load ≠ freshLoadNumber queue 8 n) ∧ 1 ≤ freshLoadNumber queue 8 n
          ∧ (n ≤ 65535 → freshLoadNumber queue 8 n ≤ 65535)))
  ∧ ∀ (job lot stock : Nat) (s : State), StartedUp s →
    exec (.jobLoad job lot stock) s = .next (s.act fun b =>
      if b.seq.state ≠ .idle ∧ b.seq.state ≠ .finished then answer .refusedState .nothing b
      else if b.msu.mode = .standby then answer .refusedMode .nothing b
      else if ¬ (1 ≤ job ∧ job ≤ 999 ∧ 1 ≤ lot ∧ lot ≤ 9999 ∧ 1 ≤ stock ∧ stock ≤ 63) then answer .badArgument .nothing b
      else if b.lib.state = .closed then answer .libraryClosed .nothing b
      else if b.lib.state = .compacting then answer .busy .nothing b
      else
        match gatherJob job stock b.lib with
        | .fails st r => answer st r b
        | .got snap =>
          answer .ok .nothing (raise .sequence { b with
            seq := { b.seq with state := .loaded, snapshot := some snap, hold := HoldRecord.cleared, stack := [],
                                target := none,
                                run := { Running.empty with job := job, lot := lot, stock := stock } },
            trk := { b.trk with made := 0, delivered := 0, trims := 0, lastPiece := 0,
                                loadNumber := freshLoadNumber b.trk.queue 8 b.trk.loadNumber } }))

/-- JOB_HOLD in RUNNING is hold cause OPERATOR_HOLD, in HELD a further cause, elsewhere refused (R45); a hold cause in RUNNING
fills the hold record and brings SEQ's work to rest: the pending move and turn void, a move in flight stopped, a cut and a turn
by the state they are in (R42, R43, R100, R122, R139); in HELD it sets the more-causes flag (R44), and elsewhere it does nothing
(R41). A rest's release waits for the arms-open switch to cover, the model's choice (log 55). -/
def Obligations.HoldCauseTaken : Prop :=
  (∀ s : State, StartedUp s →
    exec .jobHold s = .next (s.act fun b =>
      if b.seq.state = .running ∨ b.seq.state = .held then answer .ok .nothing (holdCause .operatorHold b)
      else answer .refusedState .nothing b))
  ∧ (∀ (c : HoldCause) (b : Blocks), b.seq.state = .running →
      (holdCause c b).seq.state = .held
        ∧ (holdCause c b).seq.hold =
            { cause := some c, more := false, loc := some b.seq.run.loc, phase := b.seq.run.phase,
              depth := b.seq.stack.length, holds := b.seq.hold.holds + 1 }
        ∧ (holdCause c b).seq.snapshot = b.seq.snapshot ∧ (holdCause c b).seq.stack = b.seq.stack
        ∧ (holdCause c b).lnk.flags.hold = true ∧ (holdCause c b).lnk.flags.sequence = true
        ∧ (holdCause c b).gax.pending = none ∧ (holdCause c b).trn.pending = none
        ∧ holdCause c b = unitsToRest (raise .sequence (raise .hold { b with seq := { b.seq with
            state := .held,
            hold := { cause := some c, more := false, loc := some b.seq.run.loc, phase := b.seq.run.phase,
                      depth := b.seq.stack.length, holds := b.seq.hold.holds + 1 } } })))
  ∧ (∀ b : Blocks, unitsToRest b = trnRest (ckuToRest (gaxRest b)))
  ∧ (∀ b : Blocks,
      let void : Blocks := { b with gax := { b.gax with pending := none } }
      gaxRest b = match b.gax.move with
        | some m => if m.completed = none ∧ m.asker = .seq then gaxStop void else void
        | none => void)
  ∧ (∀ b : Blocks,
      let asked : Blocks := { b with cku := { b.cku with cycle := b.cku.cycle.map fun c => { c with restAsked := true } } }
      (b.cku.state = .open_ → manualCycle b = false →
        ckuToRest b = flapClose { b with cku := { b.cku with cycle := none } })
      ∧ (b.cku.state = .clamping ∨ b.cku.state = .clamped → b.inputs.upperStop = false →
        ckuToRest b = flapClose { asked with cku := { asked.cku with
          state := .releasing, valves := { Valves.closed with raising := true }, deadline := some (b.clock + 1500) } })
      ∧ (b.cku.state = .clamping ∨ b.cku.state = .clamped → b.inputs.upperStop = true →
        ckuToRest b = heldRelease (flapClose (ckuOpened asked)))
      ∧ (b.cku.state = .stroking → ckuToRest b = reverse .rest asked)
      ∧ (b.cku.state = .gap ∨ b.cku.state = .returning → b.cku.knifeReturn = false → ckuToRest b = asked)
      ∧ (b.cku.state = .releasing → ckuToRest b = flapClose asked)
      ∧ (b.cku.state = .fault ∨ b.cku.state = .knifeReturnNeeded → ckuToRest b = b))
  ∧ (∀ b : Blocks, heldRelease b =
      if b.seq.state = .held ∧ (b.seq.run.phase = .returning ∨ b.seq.run.phase = .release) then
        let left := b.seq.run.cutsLeft - 1
        { b with seq := { b.seq with run :=
            if left = 0 then
              { b.seq.run with cutsLeft := left, loc := ⟨b.seq.run.loc.prog, b.seq.run.loc.index + 1⟩, phase := .none }
            else { b.seq.run with cutsLeft := left, phase := .compute } } }
      else b)
  ∧ (∀ b : Blocks, (∀ r, b.trn.record = some r → r.asker ≠ .seq) → trnRest b = { b with trn := { b.trn with pending := none } })
  ∧ (∀ (b : Blocks) (r : TurnRecord), b.trn.record = some r → r.asker = .seq → trnRest b = { b with trn :=
      if b.trn.state = .gripping then
        { b.trn with pending := none, state := .releasing, carrying := false, deadline := some (b.clock + 800),
                     record := some { r with restAsked := true, since := b.clock } }
      else if b.trn.state = .turning ∨ b.trn.state = .releasing then
        { b.trn with pending := none, record := some { r with restAsked := true } }
      else { b.trn with pending := none } })
  ∧ (∀ (c : HoldCause) (b : Blocks), b.seq.state = .held →
      holdCause c b = raise .hold { b with seq := { b.seq with hold := { b.seq.hold with more := true } } })
  ∧ (∀ (c : HoldCause) (b : Blocks), b.seq.state ≠ .running → b.seq.state ≠ .held → holdCause c b = b)

/-- JOB_RESUME is judged in the order of R46, and the step is resumed where R47 says: a portion awaited, the next repeat after
the flap, the load move of an EJECT, a CUT computed again, the quarters of a TURN kept, an EJECT taken again. The phase a
resumed EJECT or TURN has at its checks (log 59), and that a portion awaited has its load move asked again during a transfer
too (log 82), are the model's choices. -/
def Obligations.JobResumeJudged : Prop :=
  (∀ s : State, StartedUp s →
    exec .jobResume s = .next (s.act fun b =>
      if b.seq.state ≠ .held then answer .refusedState .nothing b
      else if b.msu.mode ≠ .auto then answer .refusedMode .nothing b
      else if ¬ (b.msu.estop = .chainOk ∧ b.gax.referenced = true ∧ b.gax.state = .standstill ∧ b.cku.state = .open_
          ∧ b.inputs.upperStop = true ∧ b.inputs.tdc = true ∧ b.trn.state = .parked) then answer .refusedState .nothing b
      else
        answer .ok .nothing (resumeStep (raise .sequence (raise .hold { b with seq := { b.seq with state := .running } })))))
  ∧ (∀ b : Blocks, b.seq.run.wait = .portion →
      resumeStep b = if b.trk.block.isSome then portionArrival b else waitPortion b)
  ∧ (∀ b : Blocks, b.seq.run.wait ≠ .portion →
      let c := { b with seq := { b.seq with run := { b.seq.run with wait := .none } } }
      (b.seq.run.phase = .none → resumeStep b = takeStep b)
      ∧ (b.seq.run.phase = .flapClose → resumeStep b = if 0 < b.seq.run.cutsLeft then recompute c else nextStep c)
      ∧ (b.seq.run.phase = .load → resumeStep b = ejectLoad c)
      ∧ (b.seq.run.phase = .push → currentStep b = some .eject →
          resumeStep b = ejectTaken { c with seq := { c.seq with run := { c.seq.run with phase := .none } } })
      ∧ (∀ q, b.seq.run.phase = .turn ∨ b.seq.run.phase = .clearance → currentStep b = some (.turn q) →
          resumeStep b = turnTaken b.seq.run.quartersLeft c)
      ∧ (∀ m n w d o, b.seq.run.phase = .compute ∨ b.seq.run.phase = .position ∨ b.seq.run.phase = .clamp
            ∨ b.seq.run.phase = .flapOpen ∨ b.seq.run.phase = .permit ∨ b.seq.run.phase = .stroke
            ∨ b.seq.run.phase = .returning ∨ b.seq.run.phase = .release →
          currentStep b = some (.cut m n w d o) → resumeStep b = computeCut m w d c))

/-- JOB_START is judged in the order of R24; taken, SEQ is RUNNING at MAIN step 0, the counts of portions parted off and
transferred are 0, and SEQ waits for a portion with the gauge asked to the load position (R24, R26). JOB_ABORT in any state
but IDLE leaves SEQ IDLE with no snapshot and an empty stack, keeps the hold record, and brings the units to rest from
RUNNING (R48, R50). CONTINUE is taken in RUNNING at a PAUSE alone, and goes on to the next step (R36). A portion's arrival
in RUNNING with wait reason PORTION takes the block's nominal depth as the main base and takes the step; elsewhere SEQ does
not act (R25). -/
def Obligations.JobStartAbortContinueJudged : Prop :=
  (∀ s : State, StartedUp s →
    exec .jobStart s = .next (s.act fun b =>
      if b.seq.state ≠ .loaded then answer .refusedState .nothing b
      else if b.msu.mode ≠ .auto then answer .refusedMode .nothing b
      else if b.trk.block ≠ none ∨ b.trk.unknown = true ∨ b.jog.state ≠ .empty then answer .refusedState .nothing b
      else
        let waiting := raise .sequence { b with
          seq := { b.seq with state := .running,
                              run := { b.seq.run with loc := ⟨.main, 0⟩, phase := .none, wait := .portion,
                                                      operatorCode := none } },
          lft := { b.lft with partedOff := 0 }, jog := { b.jog with transferred := 0 } }
        answer .ok .nothing
          (match b.seq.snapshot with
           | some snap => askMove .load snap.loadPosition waiting
           | none => waiting)))
  ∧ (∀ s : State, StartedUp s →
    exec .jobAbort s = .next (s.act fun b =>
      if b.seq.state = .idle then answer .refusedState .nothing b
      else
        let idle := raise .sequence { b with
          seq := { b.seq with state := .idle, snapshot := none, stack := [], target := none, run := Running.empty } }
        answer .ok .nothing
          (if b.seq.state = .running then unitsToRest idle else if b.seq.state = .held then raise .hold idle else idle)))
  ∧ (∀ s : State, StartedUp s →
    exec .continue_ s = .next (s.act fun b =>
      if b.seq.state = .running ∧ b.seq.run.wait = .operator then
        answer .ok .nothing (takeStep { b with seq := { b.seq with
          run := { b.seq.run with loc := ⟨b.seq.run.loc.prog, b.seq.run.loc.index + 1⟩, phase := .none, wait := .none } } })
      else answer .refusedState .nothing b))
  ∧ (∀ (b : Blocks) (k : Block), b.trk.block = some k → b.seq.state = .running → b.seq.run.wait = .portion →
      portionArrival b = takeStep { b with seq := { b.seq with
        run := { b.seq.run with mainBase := k.nomDepth, override := none, wait := .none } } })
  ∧ (∀ b : Blocks, b.seq.state ≠ .running ∨ b.seq.run.wait ≠ .portion → portionArrival b = b)
  ∧ (∀ (b : Blocks) (snap : Snapshot), b.seq.snapshot = some snap →
      waitPortion b = askMove .load snap.loadPosition
        (raise .sequence { b with seq := { b.seq with run := { b.seq.run with wait := .portion } } }))

/-- The steps that take no time: a CALL with fewer than 6 frames pushes a frame and goes to the subprogram's step 0, a
RETURN repeats the subprogram with the base taken again or pops the frame and restores the override, a SKIP_IF passes over
one step when its condition holds (R12, R13, R37 to R39), a base being taken with a block present; the next step is taken at
once (R4, R40). A CUT is computed with its repeats; a TURN has its envelope, then CLEARANCE or TURN (R34); an EJECT its
block, its queue, then PUSH (R35); a PAUSE waits for CONTINUE (R36); an END finishes a portion, and the last the job (R26).
The bound on the steps taken at one time is the model's choice (log 13). -/
def Obligations.CallReturnSkip : Prop :=
  (∀ b : Blocks, takeStep b = takeSteps Config.stepBound
      { b with seq := { b.seq with run := { b.seq.run with phase := .none, wait := .none } } })
  ∧ (∀ (n : Nat) (b : Blocks) (p : ProgStep), currentStep b = some p →
      (∀ c, instantStep p b = some c → takeSteps (n + 1) b = takeSteps n c)
      ∧ (instantStep p b = none → takeSteps (n + 1) b = endingStep p b))
  ∧ (∀ (operand : Int) (b : Blocks),
      (skipHolds .depthBelow operand b = true ↔ ∃ k, b.trk.block = some k ∧ k.nomDepth < operand)
      ∧ (skipHolds .widthBelow operand b = true ↔ ∃ k, b.trk.block = some k ∧ k.nomWidth < operand)
      ∧ (skipHolds .orientationIs operand b = true ↔
          ∃ k o, b.trk.block = some k ∧ k.orientation = some o ∧ (o : Int) = operand)
      ∧ (skipHolds .firstPortion operand b = true ↔ b.seq.run.finished = 0)
      ∧ (skipHolds .lastPortion operand b = true ↔ b.seq.run.finished + 1 = b.seq.run.lot)
      ∧ (skipHolds .piecesWaiting operand b = true ↔ b.trk.queue ≠ []))
  ∧ (∀ (b : Blocks) (p : ProgStep),
      (∀ m n w d o, p = .cut m n w d o → instantStep p b = none
        ∧ endingStep p b = computeCut m w d { b with seq := { b.seq with run := { b.seq.run with cutsLeft := n } } })
      ∧ (∀ q, p = .turn q → instantStep p b = none ∧ endingStep p b = turnTaken q b)
      ∧ (p = .eject → instantStep p b = none ∧ endingStep p b = ejectTaken b)
      ∧ (∀ code, p = .pause code → instantStep p b = none
        ∧ endingStep p b = raise .sequence { b with seq := { b.seq with
            run := { b.seq.run with phase := .none, operatorCode := some code, wait := .operator } } })
      ∧ (p = .endStep → instantStep p b = none
        ∧ endingStep p b =
          if b.trk.block.isSome then holdCause .blockNotEjected b
          else
            let counted : Blocks := { b with seq := { b.seq with run := { b.seq.run with
              finished := b.seq.run.finished + 1, loc := ⟨.main, 0⟩, phase := .none, wait := .none } } }
            if b.seq.run.finished + 1 = b.seq.run.lot then
              raise .sequence { counted with seq := { counted.seq with state := .finished } }
            else waitPortion counted))
  ∧ (∀ (q : Nat) (b : Blocks), turnTaken q b =
      if envelopeMet b = false then holdCause .turnEnvelope b
      else
        let clear : Blocks := { b with seq := { b.seq with run := { b.seq.run with
          quartersLeft := q, phase := .clearance, wait := .unit } } }
        if (match gaxPosition b with | some p => decide (p < 960000) | none => true) = true then
          askMove .clearance 960000 clear
        else askTurn q { clear with seq := { clear.seq with run := { clear.seq.run with phase := .turn } } })
  ∧ (∀ b : Blocks, ejectTaken b =
      if b.trk.block = none then holdCause .ejectNoBlock b
      else if 8 ≤ b.trk.queue.length then
        raise .sequence { b with seq := { b.seq with run := { b.seq.run with wait := .frontClear } } }
      else askMove .push 22000 { b with seq := { b.seq with run := { b.seq.run with phase := .push, wait := .unit } } })
  ∧ ∀ b : Blocks,
    (∀ k sub count own, b.trk.block = some k → b.seq.stack.length < 6 →
      instantStep (.call sub count own) b = some { b with seq := { b.seq with
        stack := { caller := b.seq.run.loc.prog, retIndex := b.seq.run.loc.index + 1, sub := sub, repeats := count - 1,
                   base := k.nomDepth, saved := b.seq.run.override } :: b.seq.stack,
        run := { b.seq.run with loc := ⟨.sub sub, 0⟩, phase := .none, wait := .none,
                                override := own.or b.seq.run.override } } })
    ∧ (∀ sub count own, ¬ b.seq.stack.length < 6 →
      instantStep (.call sub count own) b = none ∧ endingStep (.call sub count own) b = holdCause .stackLimit b)
    ∧ (∀ k f rest, b.trk.block = some k → b.seq.stack = f :: rest → 0 < f.repeats →
      instantStep .ret b = some { b with seq := { b.seq with
        stack := { f with repeats := f.repeats - 1, base := k.nomDepth } :: rest,
        run := { b.seq.run with loc := ⟨.sub f.sub, 0⟩, phase := .none, wait := .none } } })
    ∧ (∀ f rest, b.seq.stack = f :: rest → f.repeats = 0 →
      instantStep .ret b = some { b with seq := { b.seq with
        stack := rest,
        run := { b.seq.run with loc := ⟨f.caller, f.retIndex⟩, phase := .none, wait := .none, override := f.saved } } })
    ∧ (∀ cond operand,
      instantStep (.skipIf cond operand) b = some { b with seq := { b.seq with
        run := { b.seq.run with
          loc := ⟨b.seq.run.loc.prog, b.seq.run.loc.index + (if skipHolds cond operand b = true then 2 else 1)⟩,
          phase := .none, wait := .none } } })

/-- The target of a CUT with the block's orientation known: N by its mode, S with the stretch of the depth axis, P with the
squeeze and the knife term, and DIMENSION_RANGE for a target outside the paper or the travel (R55, R73 to R79), and with no
block present (R6). COMPUTE
holds on a refused target, waits FRONT_CLEAR without room for the strip, and otherwise asks for the cut's move in POSITION
(R8, R28). -/
def Obligations.CutTargetStages : Prop :=
  (∀ (mode : CutMode) (waste : Bool) (dim : Um) (b : Blocks),
    let computing : Blocks := { b with seq := { b.seq with run := { b.seq.run with phase := .compute, wait := .none } } }
    let room : Prop := if waste then b.trk.queue = [] else b.trk.queue.length < 8
    (∀ cause, cutTarget mode dim b = .inl cause → computeCut mode waste dim b = holdCause cause computing)
    ∧ (∀ g, cutTarget mode dim b = .inr g → ¬ room →
        computeCut mode waste dim b
          = raise .sequence { computing with seq := { computing.seq with
              run := { computing.seq.run with wait := .frontClear } } })
    ∧ (∀ g, cutTarget mode dim b = .inr g → room →
        computeCut mode waste dim b = askMove .cut g.physical { b with seq := { b.seq with
          target := some g, run := { b.seq.run with phase := .position, wait := .unit } } }))
  ∧ (∀ (mode : CutMode) (dim : Um) (b : Blocks), b.trk.block = none → cutTarget mode dim b = .inl .dimensionRange)
  ∧ ∀ (mode : CutMode) (dim : Um) (b : Blocks) (k : Block) (snap : Snapshot),
    b.trk.block = some k → b.seq.snapshot = some snap →
    let n : Int := match mode with
      | .abs => dim
      | .rel => k.nomDepth - dim
      | .fromBase => (match b.seq.stack with | [] => b.seq.run.mainBase | f :: _ => f.base) - dim
    (n < 1 ∨ k.nomDepth ≤ n → cutTarget mode dim b = .inl .dimensionRange)
    ∧ (1 ≤ n → n < k.nomDepth → k.orientation = none → cutTarget mode dim b = .inl .orientationUnknown)
    ∧ (∀ o, 1 ≤ n → n < k.nomDepth → k.orientation = some o →
      let stretch : Int := if o = 0 ∨ o % 2 = 0 then snap.stock.stretchA else snap.stock.stretchB
      let str : Int := (2 * (n * (10000 + stretch)) + 10000) / 20000
      let term : Int := b.cku.knife.k + (min 400 (b.cku.knife.C * b.cku.knife.w / 1000) : Nat)
      let p : Int := str + snap.stock.squeeze + term
      cutTarget mode dim b =
        if 22000 ≤ str ∧ str < k.strDepth ∧ 22000 ≤ p ∧ p ≤ 1150000 then .inr ⟨n, str, p⟩ else .inl .dimensionRange)

/-- The roundings of the gauge arithmetic: a stretched length and its inverse are within half of the exact quotient, a count
is the nearest to its length, a correction is the value of its point or interpolated between its two points with its increment
truncated toward zero, and so lies between them, and a limited target is in the travel (R75, R79, R80, R82, R86). That a point
outside the table counts as INVALID is the model's choice (log 74). -/
def Obligations.GaugeArithmeticRounds : Prop :=
  (∀ n s : Int, -5000 < 10000 * stretched n s - n * (10000 + s) ∧ 10000 * stretched n s - n * (10000 + s) ≤ 5000)
  ∧ (∀ m s : Int, 0 < 10000 + s →
      -(10000 + s) < 2 * ((10000 + s) * unstretched m s - m * 10000)
        ∧ 2 * ((10000 + s) * unstretched m s - m * 10000) ≤ 10000 + s)
  ∧ (∀ e : Int, -2 ≤ 5 * countOf e - e ∧ 5 * countOf e - e ≤ 2)
  ∧ (∀ (table : List (Option Int)) (j : Int),
      (j < 0 → corrPoint table j = none) ∧ (0 ≤ j → table[j.toNat]? = none → corrPoint table j = none)
        ∧ ∀ v, 0 ≤ j → table[j.toNat]? = some v → corrPoint table j = v)
  ∧ (∀ (table : List (Option Int)) (p : Int),
      (p % 5000 = 0 → correctionAt table p = corrPoint table (p / 5000))
      ∧ (p % 5000 ≠ 0 → correctionAt table p = match corrPoint table (p / 5000), corrPoint table (p / 5000 + 1) with
        | some c, some c' => some (c + Int.tdiv ((c' - c) * (p % 5000)) 5000)
        | _, _ => none))
  ∧ (∀ (table : List (Option Int)) (p c c' : Int), 0 ≤ p → p % 5000 ≠ 0 →
      corrPoint table (p / 5000) = some c → corrPoint table (p / 5000 + 1) = some c' →
      ∃ v, correctionAt table p = some v ∧ min c c' ≤ v ∧ v ≤ max c c')
  ∧ (∀ p : Int, 22000 ≤ limitToTravel p ∧ limitToTravel p ≤ 1150000
      ∧ (22000 ≤ p → p ≤ 1150000 → limitToTravel p = p))

/-! ## Block tracker -/

/-- A clear is taken with the clamp at its upper stop: the queue goes to delivered, the clear pending mark clears, notice
FRONT, and SEQ waiting FRONT_CLEAR makes its check again, a CUT in COMPUTE and an EJECT at its block and queue (R27, R28,
R35); anywhere else it is deferred, with notice FRONT when the mark becomes set (R66, R67). -/
def Obligations.ClearsDeliverQueue : Prop :=
  let taken (b : Blocks) : Blocks :=
    let empty := raise .front { b with trk := { b.trk with
      queue := [], delivered := min 65535 (b.trk.delivered + b.trk.queue.length), clearPending := false } }
    if b.seq.state = .running ∧ b.seq.run.wait = .frontClear then clearTold empty else empty
  let reached (b : Blocks) : Blocks :=
    if b.inputs.upperStop then taken b
    else if b.trk.clearPending then b else raise .front { b with trk := { b.trk with clearPending := true } }
  (∀ s : State, exec .frontClearButton s = .next (s.act reached))
  ∧ (∀ s : State, StartedUp s → exec .frontCleared s = .next (s.act fun b =>
      answer (if b.inputs.upperStop then .ok else .accepted) .nothing (reached b)))
  ∧ (∀ s : State, exec .deferredClearTaken s = .next (s.act fun b =>
      if b.trk.clearPending = true ∧ b.inputs.upperStop = true then taken b else b))
  ∧ (∀ b : Blocks, b.seq.state = .running → b.seq.run.wait = .frontClear →
      (currentStep b = some .eject →
        clearTold b = ejectTaken { b with seq := { b.seq with run := { b.seq.run with wait := .none } } })
      ∧ (∀ m n w d o, currentStep b = some (.cut m n w d o) → clearTold b = computeCut m w d b))

/-- BLOCK_CLEAR and SET_ORIENTATION are judged in the orders of R72 and R61; an orientation whose depth axis is not the
record's exchanges depth and width (R52, R61). -/
def Obligations.BlockRequestsJudged : Prop :=
  (∀ s : State, StartedUp s → exec .blockClear s = .next (s.act fun b =>
      if b.msu.mode = .standby then answer .refusedMode .nothing b
      else if b.seq.state = .running ∨ b.inputs.upperStop = false ∨ b.inputs.backTable = true then
        answer .refusedState .nothing b
      else answer .ok .nothing { b with trk := { b.trk with block := none, unknown := false } }))
  ∧ (∀ (o : Nat) (s : State), StartedUp s → exec (.setOrientation o) s = .next (s.act fun b =>
      if 4 ≤ o then answer .badArgument .nothing b
      else if b.msu.mode = .standby then answer .refusedMode .nothing b
      else
        match b.trk.block with
        | none => answer .refusedState .nothing b
        | some k =>
          if b.seq.state = .running ∨ k.orientation ≠ none then answer .refusedState .nothing b
          else
            let axis : DepthAxis := if o = 0 ∨ o = 2 then .headFoot else .leftRight
            let turned :=
              if k.axis = axis then k
              else { k with nomDepth := k.nomWidth, nomWidth := k.nomDepth, strDepth := k.strWidth, strWidth := k.strDepth,
                            axis := axis }
            answer .ok .nothing { b with trk := { b.trk with block := some { turned with orientation := some o } } }))

/-- The back-table sensor: the arrival of a transfer makes the block record with the stretched figures, counts the portion,
leaves JOG in EMPTY with the carriage drawn back, and SEQ takes the portion's arrival; otherwise, with no block, BLOCK_UNKNOWN
is set (R54, R71, R163). That SEQ takes the arrival last is the model's choice (log 12). -/
def Obligations.BackTableSensor : Prop :=
  ∀ s : State, exec .backTableSensorCovered s = .next (s.act fun b =>
    let covered := { b with inputs := { b.inputs with backTable := true } }
    if b.jog.state = .transferring then
      match b.jog.figures with
      | none => covered
      | some f =>
        portionArrival (raise .feed { covered with
          jog := { b.jog with state := .empty, transferred := b.jog.transferred + 1, figures := none,
                              carriageReturning := true, deadline := some (b.clock + 4000) },
          trk := { b.trk with
            block := some {
              portion := b.jog.transferred + 1, nomDepth := f.depth, nomWidth := f.width,
              strDepth := stretched f.depth f.stretchA, strWidth := stretched f.width f.stretchB, height := f.height,
              orientation := some 0, axis := .headFoot, edges := ⟨false, false, false, false⟩, partialCut := false } } })
    else if b.trk.block = none then { covered with trk := { b.trk with unknown := true } } else covered)

/-- What TRK does to its records with a block k: a programmed cut's strip at BDC (R56, R62), a quarter turn (R52, R59), the
end of an EJECT push (R63), an orientation lost (R60), a reversal's partial cut (R57), and a manual cut's strip at BDC with
the inverse of the stretch, or with no strip the partial-cut mark cleared (R58, R86). The edge at the front is head, left,
foot and right at the orientations 0 to 3, and piece numbers go from 65,535 back to 1 (R52, R62). The estimate as the
gauge's position where it has none is the model's choice (log 28). -/
def Obligations.BlockRecordUpdates : Prop :=
  (∀ (term : Int) (b : Blocks), b.trk.block = none → manualBdcUpdate term b = b) ∧
  (∀ e : Edges, e.trimFront 0 = { e with head := true } ∧ e.trimFront 1 = { e with left := true }
    ∧ e.trimFront 2 = { e with foot := true } ∧ e.trimFront 3 = { e with right := true }) ∧
  (∀ n : Nat, nextPieceNumber n = if n = 65535 then 1 else n + 1) ∧
  ∀ (b : Blocks) (k : Block), b.trk.block = some k →
    let joined (p : Piece) (c : Blocks) : Blocks :=
      raise .front { c with trk := { c.trk with
        queue := c.trk.queue ++ [{ p with load := c.trk.loadNumber, number := nextPieceNumber c.trk.lastPiece }],
        lastPiece := nextPieceNumber c.trk.lastPiece, made := min 65535 (c.trk.made + 1) } }
    (∀ g waste, b.seq.target = some g →
      let cut : Block := { k with nomDepth := g.nominal, strDepth := g.stretched, partialCut := false,
                                  edges := match k.orientation with | some o => k.edges.trimFront o | none => k.edges }
      cutBdcUpdate waste b =
        if waste then { b with trk := { b.trk with block := some cut, trims := min 65535 (b.trk.trims + 1) } }
        else joined
          { load := 0, number := 0, portion := k.portion, loc := some b.seq.run.loc, nomWidth := k.nomDepth - g.nominal,
            strWidth := k.strDepth - g.stretched, nomLength := k.nomWidth, strLength := k.strWidth, height := k.height,
            orientation := k.orientation, kind := .strip }
          { b with trk := { b.trk with block := some cut } })
    ∧ quarterUpdate b = { b with trk := { b.trk with
        block := some { k with
                 nomDepth := k.nomWidth, nomWidth := k.nomDepth, strDepth := k.strWidth, strWidth := k.strDepth,
                 axis := (match k.axis with | .headFoot => .leftRight | .leftRight => .headFoot),
                 orientation := k.orientation.map fun o => (o + 1) % 4 } } }
    ∧ ejectPiece b = joined
        { load := 0, number := 0, portion := k.portion, loc := some b.seq.run.loc, nomWidth := k.nomDepth,
          strWidth := k.strDepth, nomLength := k.nomWidth, strLength := k.strWidth, height := k.height,
          orientation := k.orientation, kind := .last }
        { b with trk := { b.trk with block := none } }
    ∧ (∀ term : Int,
      let estimate : Int := 5 * b.inputs.encoder - (correctionAt b.gax.table (5 * b.inputs.encoder)).getD 0
      let stands : Int :=
        if b.gax.referenced = true ∧ b.gax.inPosition = true then
          match b.gax.start with | .at p => p | _ => estimate
        else estimate
      let stretch : Int := match b.seq.snapshot, k.orientation with
        | some snap, some o => if o % 2 = 0 then snap.stock.stretchA else snap.stock.stretchB
        | _, _ => 0
      let str : Int := stands - term
      let nom : Int := (2 * (str * 10000) + (10000 + stretch)) / (2 * (10000 + stretch))
      manualBdcUpdate term b =
        if str < k.strDepth then
          joined
            { load := 0, number := 0, portion := k.portion, loc := none, nomWidth := k.nomDepth - nom,
              strWidth := k.strDepth - str, nomLength := k.nomWidth, strLength := k.strWidth, height := k.height,
              orientation := k.orientation, kind := .strip }
            { b with trk := { b.trk with block := some { k with
                nomDepth := nom, strDepth := str, partialCut := false,
                edges := match k.orientation with | some o => k.edges.trimFront o | none => k.edges } } }
        else { b with trk := { b.trk with block := some { k with partialCut := false } } })
    ∧ orientationLost b = { b with trk := { b.trk with block := some { k with orientation := none } } }
    ∧ markPartialCut b = { b with trk := { b.trk with block := some { k with partialCut := true } } }

/-! ## Gauge axis -/

/-- GAUGE_HOME is judged in the order of R89 and begins the homing run with CLEAR or SEEK and 8 s; CLEAR goes on to SEEK
when the switch uncovers; at the mark the encoder takes the reference count and the FINAL move to the rear end of the
travel begins, with notice GAUGE where point 230 or 231 is INVALID; the drive runs forward in CLEAR and rearward in SEEK,
with no count, and is given the count of the FINAL move at the mark (R81, R88 to R90, R94, R106). That the UNCORRECTED
mark the homing carries stands in the move record of the FINAL move (log 92) is the model's choice. -/
def Obligations.GaugeHoming : Prop :=
  (∀ s : State, StartedUp s → exec .gaugeHome s = .next (s.act fun b =>
      if b.msu.mode ≠ .setup then answer .refusedMode .nothing b
      else if b.gax.state = .homing ∨ b.gax.state = .moving ∨ b.gax.state = .settling then answer .busy .nothing b
      else if b.gax.state = .fault ∨ b.inputs.upperStop = false ∨ b.trn.state ≠ .parked ∨ b.msu.estop ≠ .chainOk then
        answer .refusedState .nothing b
      else
        answer .accepted .nothing (jogWatch { b with gax := { b.gax with
          state := .homing, homing := if b.inputs.referenceSwitch then .clear else .seek, finalSettling := false,
          referenced := false, inPosition := false, start := .none, pending := none, stopping := false,
          driveCount := none, deadline := some (b.clock + 8000) } })))
  ∧ (∀ s : State, exec .referenceSwitchUncovered s = .next (s.act fun b =>
      let open_ := { b with inputs := { b.inputs with referenceSwitch := false } }
      if b.gax.state = .homing ∧ b.gax.homing = .clear ∧ b.gax.stopping = false then
        { open_ with gax := { b.gax with homing := .seek } }
      else open_))
  ∧ (∀ b : Blocks, homingDrive b =
      if b.gax.state = .homing ∧ b.gax.drive = true ∧ b.gax.stopping = false then
        match b.gax.homing with | .clear => .ahead | .seek => .back | .final => .stopped
      else .stopped)
  ∧ (∀ s : State, ∃ t : State, exec .referenceMark s = .next t ∧ t.pending = s.pending ∧
      (¬ (s.blocks.gax.state = .homing ∧ s.blocks.gax.homing = .seek ∧ s.blocks.gax.stopping = false) → t = s)
      ∧ (s.blocks.gax.state = .homing → s.blocks.gax.homing = .seek → s.blocks.gax.stopping = false →
        t.blocks.inputs.encoder = countOf (1155000 + (corrPoint s.blocks.gax.table 231).getD 0)
          ∧ t.blocks.gax.state = .homing ∧ t.blocks.gax.homing = .final ∧ t.blocks.gax.referenced = true
          ∧ t.blocks.gax.start = .at 1155000 ∧ t.blocks.gax.deadline = some (s.blocks.clock + 810)
          ∧ (∃ m, t.blocks.gax.move = some m ∧ m.kind = .homeFinal ∧ m.target = 1150000 ∧ m.approach = .direct
              ∧ t.blocks.gax.driveCount = some m.countTarget
              ∧ m.uncorrected = ((corrPoint s.blocks.gax.table 230).isNone || (corrPoint s.blocks.gax.table 231).isNone))
          ∧ (corrPoint s.blocks.gax.table 230 = none ∨ corrPoint s.blocks.gax.table 231 = none →
              t.blocks.lnk.flags.gauge = true)
          ∧ t.blocks.seq = s.blocks.seq ∧ t.blocks.trk = s.blocks.trk ∧ t.blocks.cku = s.blocks.cku))

/-- GAUGE_JOG is judged in the order of R99 and moves to the target limited to the travel, its result the target, the
count, the approach and both marks of the move begun; a pending move begins in STANDSTILL when the conditions of R92 hold;
a move that begins has its correction, count, approach, overshoot and move time in its record (R79 to R84, R92, R94, R98),
and the drive is given the count of its first leg where there is travel; enabled, it goes to the count it was last given,
or holds at it; a move with the UNCORRECTED mark raises notice GAUGE as it begins (R81, R106), and one that begins during
a transfer ends it in INTERLOCK_LOST (R162). SEQ's move begins at once, waits as the pending move, or fails with
GAUGE_FAULT (R92, R97). The starting position is the last target, or the estimate of R85; the position reported and tested
is none without a reference, the last target with the in-position mark, and the estimate otherwise, and the gauge stands
at a position in STANDSTILL at it or behind it (R84, R85, R88, R96, R162). That a cut or jog without travel is recorded as
forward (log 25), that a move asked while SEQ's own stop still runs waits (log 58), that one asked while the commanded
stop of a homing run decelerates waits as well, the axis being in MOVING (log 50), that a move without travel leaves the
drive the count it has (log 91), and that after a stop the starting position is the estimate by the encoder and the table
as they stand when it is used (log 86), are the model's choices. -/
def Obligations.GaugeMovesBegin : Prop :=
  (∀ (target : Int) (s : State), StartedUp s → exec (.gaugeJog target) s = .next (s.act fun b =>
      if b.msu.mode ≠ .setup then answer .refusedMode .nothing b
      else if b.gax.state = .homing ∨ b.gax.state = .moving ∨ b.gax.state = .settling then answer .busy .nothing b
      else if b.gax.state ≠ .standstill ∨ b.inputs.upperStop = false ∨ b.trn.state ≠ .parked ∨ b.msu.estop ≠ .chainOk then
        answer .refusedState .nothing b
      else
        let p : Int := if target < 22000 then 22000 else if 1150000 < target then 1150000 else target
        let moved := gaxBegin .jog .terminal p (decide (p ≠ target)) ((startingPosition b).getD p) b
        answer .accepted (match moved.gax.move with
          | some m => .jog m.target m.countTarget m.approach m.clamped m.uncorrected
          | none => .nothing) moved))
  ∧ (∀ s : State, exec .pendingMoveBegin s = .next (s.act fun b =>
      match b.gax.pending, startingPosition b with
      | some q, some start =>
        if b.gax.state = .standstill ∧ b.inputs.upperStop = true ∧ b.trn.state = .parked ∧ b.msu.estop = .chainOk then
          gaxBegin q.kind .seq q.target false start b
        else b
      | _, _ => b))
  ∧ (∀ (kind : MoveKind) (asker : MoveAsker) (p start : Um) (clamped : Bool) (b : Blocks), kind ≠ .homeFinal → ∃ m : MoveRecord,
      (gaxBegin kind asker p clamped start b).gax.move = some m ∧ m.kind = kind ∧ m.asker = asker ∧ m.target = p
        ∧ m.start = start ∧ m.clamped = clamped ∧ m.completed = none
        ∧ m.corr = (correctionAt b.gax.table p).getD 0 ∧ m.uncorrected = (correctionAt b.gax.table p).isNone
        ∧ m.countTarget = countOf (p + m.corr)
        ∧ m.encoderTarget = p + m.corr
        ∧ m.leg = (match m.overshoot with | some o => if o.pos = p then .final else .overshoot | none => .final)
        ∧ (kind = .cut ∨ kind = .jog →
            (¬ start < p → m.approach = .forward ∧ m.overshoot = none
              ∧ m.moveTime = 800 + 2 * (|p - start| / 1000).toNat)
            ∧ (start < p →
              let o : Int := min 1150000 (p + 3000)
              m.approach = .rearward ∧ m.overshoot = some ⟨o, countOf (o + m.corr)⟩
                ∧ m.moveTime = 800 + 2 * (((o - start) + (o - p)) / 1000).toNat))
        ∧ (kind ≠ .cut → kind ≠ .jog → m.approach = .direct ∧ m.overshoot = none
            ∧ m.moveTime = 800 + 2 * (|p - start| / 1000).toNat)
        ∧ (gaxBegin kind asker p clamped start b).gax.state = (if p = start then .settling else .moving)
        ∧ (gaxBegin kind asker p clamped start b).gax.deadline
            = some (b.clock + (if p = start then 400 else m.moveTime))
        ∧ (p = start → (gaxBegin kind asker p clamped start b).gax.bandFrom = some b.clock)
        ∧ (gaxBegin kind asker p clamped start b).gax.driveCount =
            (if p = start then b.gax.driveCount
             else match m.leg, m.overshoot with
               | .overshoot, some o => some o.count
               | _, _ => some m.countTarget)
        ∧ (gaxBegin kind asker p clamped start b).gax.pending = none
        ∧ (gaxBegin kind asker p clamped start b).gax.inPosition = false
        ∧ gaxBegin kind asker p clamped start b =
            (let begun : Blocks := { b with gax := (gaxBegin kind asker p clamped start b).gax }
             let told : Blocks := if m.uncorrected then raise .gauge begun else begun
             if b.jog.state = .transferring then
               raise .feed { told with jog := { b.jog with
                 state := .fault, fault := some .interlockLost, record := none, figures := none, resetting := false,
                 deadline := none, suspended := none } }
             else told))
  ∧ (∀ b : Blocks, gaugeCommand b = if b.gax.drive = true then b.gax.driveCount else none)
  ∧ (∀ b : Blocks,
      let read : Int := 5 * b.inputs.encoder
      let estimate : Int := read - (match correctionAt b.gax.table read with | some c => c | none => 0)
      (b.gax.start = .none → startingPosition b = none)
      ∧ (∀ p, b.gax.start = .at p → startingPosition b = some p)
      ∧ (b.gax.start = .estimate → startingPosition b = some estimate)
      ∧ (b.gax.referenced = false → gaxPosition b = none)
      ∧ (b.gax.referenced = true → b.gax.inPosition = true → gaxPosition b = startingPosition b)
      ∧ (b.gax.referenced = true → b.gax.inPosition = false → gaxPosition b = some estimate)
      ∧ (∀ p : Um, gaxStandsAt p b = true ↔
          b.gax.state = .standstill ∧ b.gax.referenced = true ∧ ∃ q, gaxPosition b = some q ∧ p ≤ q))
  ∧ (∀ (kind : MoveKind) (p : Um) (b : Blocks),
      let waits (c : Blocks) : Blocks := { c with gax := { c.gax with pending := some ⟨kind, p⟩ } }
      (b.gax.state = .unreferenced ∨ b.gax.state = .homing ∨ b.gax.state = .fault →
        askMove kind p b = holdCause .gaugeFault b)
      ∧ (∀ start, b.gax.state = .standstill → startingPosition b = some start →
          askMove kind p b =
            if b.inputs.upperStop = true ∧ b.trn.state = .parked ∧ b.msu.estop = .chainOk then
              gaxBegin kind .seq p false start b
            else waits b)
      ∧ (b.gax.state = .moving ∨ b.gax.state = .settling →
          askMove kind p b =
            if moveInFlight b = true ∧ moveAsker b = some .seq then waits (gaxStop b) else waits b))

/-- PROFILE_COMPLETE ends a stop, the overshoot leg, after which the drive is given the count target, or the last leg,
which goes to its settling of 400 ms; IN_POSITION, 60 ms within 2 counts of the target before the settle limit, gives
STANDSTILL with the mark and the report to the asker, on which SEQ clamps with the pressure of R9, turns, makes the LAST
piece and loads, or takes the next step (R29, R34, R35, R44, R98); a reading outside the band in STANDSTILL clears the
mark, and while settling begins the 60 ms again; a commanded stop decelerates for at most 800 ms, or ends at once while
settling (R90, R95, R96, R100). That the stop of a RESTART ends in GAX's start-up values (R88, log 51), that a homing run
is in MOVING as it stops (log 50), how the 60 ms run (log 52), and that a stop is given no count (log 91) are the model's
choices. -/
def Obligations.GaugeArrives : Prop :=
  (∀ (e : Int) (s : State), exec (.profileComplete e) s = .next (s.act fun b =>
      let read := { b with inputs := { b.inputs with encoder := e } }
      if b.gax.stopping then gaxStopped read
      else
        match b.gax.state, b.gax.move with
        | .moving, some m =>
          if m.leg = .overshoot then { read with gax := { b.gax with move := some { m with leg := .final }, driveCount := some m.countTarget } }
          else
            { read with gax := { b.gax with
              state := .settling, finalSettling := false, deadline := some (b.clock + 400), bandFrom := some b.clock } }
        | .homing, _ =>
          if b.gax.homing = .final ∧ b.gax.finalSettling = false then
            { read with gax := { b.gax with
              finalSettling := true, deadline := some (b.clock + 400), bandFrom := some b.clock } }
          else read
        | _, _ => read))
  ∧ (∀ (e : Int) (s : State), exec (.inPosition e) s = .next (s.act fun b =>
      match b.gax.move, b.gax.bandFrom with
      | some m, some t =>
        let near (x : Int) : Bool := decide (x - m.countTarget ≤ 2 ∧ m.countTarget - x ≤ 2)
        if ¬ ((b.gax.state = .settling ∨ (b.gax.state = .homing ∧ b.gax.finalSettling = true)) ∧ near e = true) then b
        else if near b.inputs.encoder = false then
          { b with inputs := { b.inputs with encoder := e }, gax := { b.gax with bandFrom := some b.clock } }
        else if (∀ d, b.gax.deadline = some d → t + 60 ≤ d) then
          let stands := { b with
            clock := max b.clock (t + 60),
            inputs := { b.inputs with encoder := e },
            gax := { b.gax with state := .standstill, finalSettling := false, inPosition := true, start := .at m.target,
                                move := some { m with completed := some true }, deadline := none } }
          if m.asker = .seq then seqInPosition m.kind stands else raise .gauge stands
        else b
      | _, _ => b))
  ∧ (∀ (e : Int) (s : State), exec (.encoderOutOfBand e) s = .next (s.act fun b =>
      let read := { b with inputs := { b.inputs with encoder := e } }
      let target : Int := match b.gax.move with | some m => m.countTarget | none => 0
      if b.gax.state = .standstill ∧ b.gax.inPosition = true ∧ (2 < e - target ∨ 2 < target - e) then
        raise .gauge { read with gax := { b.gax with inPosition := false, start := .estimate } }
      else if (b.gax.state = .settling ∨ (b.gax.state = .homing ∧ b.gax.finalSettling = true))
          ∧ (2 < e - target ∨ 2 < target - e) then
        { read with gax := { b.gax with bandFrom := some b.clock } }
      else read))
  ∧ (∀ b : Blocks,
      let voided : Option MoveRecord :=
        b.gax.move.map fun m => if m.completed = none then { m with completed := some false } else m
      let slows : Blocks := { b with gax := { b.gax with
        state := .moving, move := voided, stopping := true, driveCount := none, deadline := some (b.clock + 800) } }
      gaxStopped b = raise .gauge { b with gax :=
        if b.gax.stopping = true ∧ b.msu.phase ≠ .ended then
          { Gax.atReset with table := b.gax.table, drive := decide (b.msu.estop = .chainOk) }
        else
          { b.gax with
            state := if b.gax.referenced then .standstill else .unreferenced,
            start := if b.gax.referenced then .estimate else .none, move := voided, inPosition := false, stopping := false,
            finalSettling := false, deadline := none } }
      ∧ (b.gax.state = .moving → gaxStop b = if b.gax.stopping then b else slows)
      ∧ (b.gax.state = .settling → gaxStop b = gaxStopped b)
      ∧ (b.gax.state = .homing →
          gaxStop b = if b.gax.stopping then b else if b.gax.finalSettling then gaxStopped b else slows)
      ∧ (b.gax.state = .unreferenced ∨ b.gax.state = .standstill ∨ b.gax.state = .fault → gaxStop b = b))
  ∧ (∀ b : Blocks,
      let entering (p : Phase) (c : Blocks) : Blocks :=
        { c with seq := { c.seq with run := { c.seq.run with phase := p, wait := .unit } } }
      let pushed : Blocks := ejectPiece b
      (∀ m n w d own, b.seq.state = .running → b.seq.run.phase = .position → currentStep b = some (.cut m n w d own) →
        seqInPosition .cut b = askClamp
          (match own, b.seq.run.override, b.seq.snapshot with
            | some p, _, _ => p
            | none, some p, _ => p
            | none, none, some snap => snap.stock.clampPressure
            | none, none, none => 0) w (entering .clamp b))
      ∧ (b.seq.state = .running → b.seq.run.phase = .clearance →
        seqInPosition .clearance b = askTurn b.seq.run.quartersLeft (entering .turn b))
      ∧ (∀ snap, b.seq.state = .running → b.seq.run.phase = .push → b.seq.snapshot = some snap →
        seqInPosition .push b = askMove .load snap.loadPosition (entering .load pushed))
      ∧ (b.seq.state = .running → b.seq.run.phase = .load → seqInPosition .load b = nextStep b)
      ∧ (b.seq.state = .held → b.seq.run.phase = .push →
        seqInPosition .push b = { pushed with seq := { pushed.seq with run := { pushed.seq.run with phase := .load } } })
      ∧ (∀ kind, b.seq.state ≠ .running → ¬ (b.seq.state = .held ∧ kind = .push ∧ b.seq.run.phase = .push) →
        seqInPosition kind b = b)
      ∧ (∀ kind,
        ¬ ((kind = .cut ∧ b.seq.run.phase = .position) ∨ (kind = .clearance ∧ b.seq.run.phase = .clearance)
          ∨ (kind = .push ∧ b.seq.run.phase = .push) ∨ (kind = .load ∧ b.seq.run.phase = .load)) →
        seqInPosition kind b = b))

/-- The times of GAX fault it where they run, a limit switch and a drive fault in every state: FAULT with the code and
hold cause GAUGE_FAULT, the move void, the drive off for a limit or drive fault, and holding at its last count after a
SETTLE_TIMEOUT; in FAULT these two replace a timeout code (R91, R95, R96, R100, R102). That the stop of a RESTART ends in
GAX's start-up values also where it times out (R88; log 51), that the stop of a timeout is given no count (log 91), and
that a code replaced in FAULT is no further hold cause (log 85), are the model's choices. -/
def Obligations.GaugeFaults : Prop :=
  let late (b : Blocks) : Blocks := match b.gax.deadline with | some d => { b with clock := max b.clock d } | none => b
  (∀ s : State, exec .moveTimeout s = .next (s.act fun b =>
      if b.gax.stopping = false ∧ (b.gax.state = .moving
          ∨ (b.gax.state = .homing ∧ b.gax.homing = .final ∧ b.gax.finalSettling = false)) then
        gaxFaults .moveTimeout (late b)
      else b))
  ∧ (∀ s : State, exec .homingTimeout s = .next (s.act fun b =>
      if b.gax.stopping = false ∧ b.gax.state = .homing ∧ b.gax.homing ≠ .final then gaxFaults .moveTimeout (late b) else b))
  ∧ (∀ s : State, exec .stopTimeout s = .next (s.act fun b =>
      if b.gax.stopping = true then gaxFaults .moveTimeout (late b) else b))
  ∧ (∀ s : State, exec .settleTimeout s = .next (s.act fun b =>
      if b.gax.state = .settling ∨ (b.gax.state = .homing ∧ b.gax.finalSettling = true) then
        gaxFaults .settleTimeout (late b)
      else b))
  ∧ (∀ s : State, exec (.limitSwitch .front) s = .next (s.act fun b =>
      if b.inputs.frontLimit then b
      else gaxFaults .limitSwitch { b with inputs := { b.inputs with frontLimit := true } }))
  ∧ (∀ s : State, exec (.limitSwitch .rear) s = .next (s.act fun b =>
      if b.inputs.rearLimit then b
      else gaxFaults .limitSwitch { b with inputs := { b.inputs with rearLimit := true } }))
  ∧ (∀ s : State, exec .driveFault s = .next (s.act fun b =>
      gaxFaults .driveFault { b with inputs := { b.inputs with driveFault := true } }))
  ∧ (∀ (code : GaxFault) (b : Blocks), b.gax.state ≠ .fault →
      let disables : Bool := code == .limitSwitch || code == .driveFault
      gaxFaults code b = holdCause .gaugeFault (jogWatch (raise .gauge { b with gax :=
        if b.gax.stopping = true ∧ b.msu.phase ≠ .ended then
          { Gax.atReset with table := b.gax.table, drive := decide (b.msu.estop = .chainOk) }
        else
          { b.gax with
            state := .fault, fault := some code, drive := b.gax.drive && !disables,
            driveCount := if code = .settleTimeout then b.gax.driveCount else none,
            start := if b.gax.referenced then .estimate else .none,
            move := b.gax.move.map fun m => if m.completed = none then { m with completed := some false } else m,
            pending := none, inPosition := false, stopping := false, finalSettling := false, deadline := none } })))
  ∧ (∀ (code : GaxFault) (b : Blocks), b.gax.state = .fault →
      gaxFaults code b =
        if (code = .limitSwitch ∨ code = .driveFault) ∧ (b.gax.fault = some .moveTimeout ∨ b.gax.fault = some .settleTimeout)
        then raise .gauge { b with gax := { b.gax with fault := some code, drive := false, driveCount := none } } else b)

/-! ## Clamp and knife -/

/-- MANUAL_CUT is judged in the order of R126 and makes a cycle record with the pressure limited to 50..550; a waiting clamp
request begins to clamp when the gauge is at rest, the turner parked, the chain closed and, but for a WASTE cut, the flap
closed: the lowering valve opens, the clamp leaves its upper stop, and 1,500 ms run (R109, R110). That the upper
stop uncovers at that event is the model's choice (log 5); so are the refusal while a clamp request waits and the cut accepted
and reported not completed with the knife off TDC (log 45), and the estimate as the position of an axis without one (log 28).
TRK allows a manual cut with room for its strip and its line in the travel (R58, R126). -/
def Obligations.ClampingBegins : Prop :=
  (∀ (p : Nat) (s : State), StartedUp s → exec (.manualCut p) s = .next (s.act fun b =>
      if b.msu.mode ≠ .setup then answer .refusedMode .nothing b
      else if manualCutConditions b = false then answer .refusedState .nothing b
      else
        let limited := if p < 50 then 50 else if 550 < p then 550 else p
        answer .accepted (.pressure limited)
          (if b.inputs.tdc then
            { b with cku := { b.cku with
                cycle := some {
                  asker := .manual, target := limited, waste := false, armed := true, restAsked := false,
                  lastReversal := none, knifeTerm := none, bdcTaken := false } } }
           else raise .knife { b with cku := { b.cku with lastManual := some false } })))
  ∧ (∀ b : Blocks, manualCutConditions b = true ↔
      b.cku.state = .open_ ∧ b.cku.cycle = none ∧ b.inputs.upperStop = true ∧ b.cku.flap = .closed ∧ b.gax.state ≠ .homing
        ∧ b.gax.state ≠ .moving ∧ b.gax.state ≠ .settling
        ∧ b.gax.state ≠ .fault ∧ (b.trk.block = none ∨ b.gax.state ≠ .unreferenced) ∧ b.trn.state = .parked
        ∧ b.msu.estop = .chainOk ∧ manualCutAllowed b = true)
  ∧ (∀ b : Blocks,
      let estimate : Int := 5 * b.inputs.encoder - (correctionAt b.gax.table (5 * b.inputs.encoder)).getD 0
      let stands : Int :=
        if b.gax.referenced = true ∧ b.gax.inPosition = true then
          match b.gax.start with | .at p => p | _ => estimate
        else estimate
      let term : Int := b.cku.knife.k + (min 400 (b.cku.knife.C * b.cku.knife.w / 1000) : Nat)
      manualCutAllowed b = true ↔ b.trk.block = none ∨ (b.trk.queue.length < 8 ∧ 22000 ≤ stands - term))
  ∧ (∀ s : State, exec .clampingBegin s = .next (s.act fun b =>
      match b.cku.cycle with
      | none => b
      | some c =>
        if b.cku.state = .open_ ∧ gaxInMotion b = false ∧ b.trn.state = .parked ∧ b.msu.estop = .chainOk
            ∧ (c.waste = true ∨ b.cku.flap = .closed) then
          jogWatch (gaxInterlock { b with
            inputs := { b.inputs with upperStop := false },
            cku := { b.cku with state := .clamping, contact := false, valves := { Valves.closed with lowering := true },
                                deadline := some (b.clock + 1500) } })
        else b))

/-- A pressure sample, up to 600: CLAMPING ends in CLAMPED at the target, CLAMPED faults PRESSURE_LOST and STROKING
reverses below the target less 30; the contact mark is set at 20 while the clamp bears; the clamping time faults
CLAMP_TIMEOUT (R109 to R111, R116, R120). SEQ's clamp request is taken in OPEN with the clamp up and the knife at TDC,
closes the flap but for a WASTE cut, and fails otherwise (R110); at pressure SEQ opens the flap for a WASTE cut and then
asks for the stroke (R30, R31). Entering FAULT closes every valve, discards the cycle, ends a KNIFE_RETURN and a reset,
and is a hold cause but for a manual cut and for a further fault event in FAULT (R120). That a flap still moving keeps its
drive in FAULT (log 53), that no closing of the flap is begun while the chain is open (log 40), that a switch of the flap
uncovers as its drive begins (log 4), that a closing or an opening is judged by the flap state and not by its switch (log
96), that a manual cut's fault is no hold cause (log 27), that a further fault event in FAULT is none either (log 81), and
that a contact sample in a KNIFE_RETURN sets the contact mark (log 88), are the model's choices. -/
def Obligations.PressureSamples : Prop :=
  (∀ b : Blocks, flapClose b =
      if b.msu.estop = .chainOk ∧ (b.cku.flap = .opening ∨ b.cku.flap = .opened) then
        { b with inputs := { b.inputs with flapOpenSw := false },
                 cku := { b.cku with flap := .closing, flapDeadline := some (b.clock + 600) } }
      else b)
  ∧ (∀ (target : Nat) (waste : Bool) (b : Blocks), askClamp target waste b =
      if b.cku.state = .open_ ∧ b.inputs.upperStop = true ∧ b.inputs.tdc = true then
        let asked : Blocks := { b with cku := { b.cku with cycle := some {
          asker := .seq, target := target, waste := waste, armed := false, restAsked := false, lastReversal := none,
          knifeTerm := none, bdcTaken := false } } }
        if waste then asked else flapClose asked
      else holdCause .knifeFault b)
  ∧ (∀ (b : Blocks) (c : Cycle), b.cku.cycle = some c → seqAtPressure b =
      if b.seq.state = .running ∧ b.seq.run.phase = .clamp then
        let opening : Blocks := { b with seq := { b.seq with run := { b.seq.run with phase := .flapOpen, wait := .unit } } }
        if c.waste = true ∧ (b.cku.flap = .closed ∨ b.cku.flap = .closing) then
          { opening with inputs := { b.inputs with flapClosedSw := false },
                         cku := { b.cku with flap := .opening, flapDeadline := some (b.clock + 600) } }
        else if c.waste = true ∧ b.cku.flap = .opening then opening
        else
          { b with seq := { b.seq with run := { b.seq.run with phase := .permit, wait := .permit } },
                   cku := { b.cku with cycle := some { c with armed := true } } }
      else b) ∧
  (∀ (n : Nat) (s : State), exec (.pressureSample n) s = .next (s.act fun b =>
      let p := if 600 < n then 600 else n
      let bears : Bool := decide (b.cku.state = .clamping ∨ b.cku.state = .clamped ∨ b.cku.state = .stroking
        ∨ b.cku.state = .gap ∨ b.cku.state = .returning)
      let kept := { b with cku := { b.cku with sample := some p, contact := b.cku.contact || (bears && decide (20 ≤ p)) } }
      match b.cku.state, b.cku.cycle with
      | .clamping, some c =>
        if c.target ≤ p then
          if c.asker = .seq then
            seqAtPressure { kept with cku := { kept.cku with state := .clamped, deadline := none } }
          else { kept with cku := { kept.cku with state := .clamped, deadline := some (b.clock + 10000) } }
        else kept
      | .clamped, some c => if p + 30 < c.target then ckuFaults .pressureLost kept else kept
      | .stroking, some c => if p + 30 < c.target then ckuReverses .pressure kept else kept
      | _, _ => kept))
  ∧ (∀ s : State, exec .clampTimeout s = .next (s.act fun b =>
      if b.cku.state = .clamping then
        ckuFaults .clampTimeout (match b.cku.deadline with | some d => { b with clock := max b.clock d } | none => b)
      else b))
  ∧ (∀ (code : CkuFault) (b : Blocks),
      let told : Blocks := raise .knife (if b.cku.state = .fault then b else { b with cku := { b.cku with
        state := .fault, fault := some (b.cku.fault.getD code), cycle := none, knifeReturn := false, resetting := false,
        resetReleased := false,
        contactDetail := if code = .clampTimeout then some b.cku.contact else none, valves := Valves.closed,
        downClosedAt := if b.cku.valves.down then some b.clock else b.cku.downClosedAt,
        returnClosedAt := if b.cku.valves.ret then some b.clock else b.cku.returnClosedAt,
        lastManual := if manualCycle b = true ∨ b.cku.knifeReturn = true then some false else b.cku.lastManual,
        deadline := none } })
      ckuEnterFault code b = told
      ∧ ckuFaults code b = if b.cku.state = .fault ∨ manualCycle b = true then told else holdCause .knifeFault told)

/-- A button's press is its onset, with the time; the release that leaves both released re-arms the pair; a release in
STROKING reverses the stroke, and stops a KNIFE_RETURN (R112, R116, R125). -/
def Obligations.TwoHandButtons : Prop :=
  (∀ s : State, exec (.twoHandButtonPress .left) s = .next (s.act fun b =>
      if b.inputs.leftHeld then b
      else { b with inputs := { b.inputs with leftHeld := true }, cku := { b.cku with leftOnset := some b.clock } }))
  ∧ (∀ s : State, exec (.twoHandButtonPress .right) s = .next (s.act fun b =>
      if b.inputs.rightHeld then b
      else { b with inputs := { b.inputs with rightHeld := true }, cku := { b.cku with rightOnset := some b.clock } }))
  ∧ (∀ (button : Button) (s : State), exec (.twoHandButtonRelease button) s = .next (s.act fun b =>
      let held := match button with | .left => b.inputs.leftHeld | .right => b.inputs.rightHeld
      let other := match button with | .left => b.inputs.rightHeld | .right => b.inputs.leftHeld
      let released : Blocks :=
        { b with inputs := { b.inputs with leftHeld := decide (button = .right) && b.inputs.leftHeld,
                                           rightHeld := decide (button = .left) && b.inputs.rightHeld },
                 cku := { b.cku with rearmed := b.cku.rearmed || !other } }
      if held = false then b
      else if b.cku.state = .stroking then ckuReverses .twoHandRelease released
      else if b.cku.knifeReturn = true ∧ (b.cku.state = .gap ∨ b.cku.state = .returning) then
        raise .knife { released with cku := { released.cku with
          state := .knifeReturnNeeded, knifeReturn := false, valves := Valves.closed, deadline := none,
          lastManual := some false,
          returnClosedAt := if b.cku.valves.ret then some b.clock else b.cku.returnClosedAt } }
      else released))

/-- With the stroke permit of R113 the down valve opens at the end of the valve gap: STROKING, 900 ms, the re-armed mark
clear, the knife term of a manual cut kept; SEQ's phase becomes STROKE (R31, R113, R114, R127). That a
gap still running at a KNIFE_CHANGED ends by the new G is the model's choice (log 63). -/
def Obligations.StrokeBegins : Prop :=
  (∀ b : Blocks, strokePermit b = true ↔ StrokeSafe b) ∧
  ∀ s : State, exec .strokeBegin s = .next (s.act fun b =>
    if strokePermit b = true then
      let now := max b.clock (match b.cku.returnClosedAt with | some t => t + b.cku.knife.G | none => 0)
      let stroking := { b with
        clock := now,
        cku := { b.cku with state := .stroking, rearmed := false, deadline := some (now + 900),
                            valves := { lowering := true, raising := false, down := true, ret := false },
                            cycle := b.cku.cycle.map fun c => { c with
                              knifeTerm := if c.asker = .manual then some (knifeTermOf b.cku.knife) else none } } }
      if seqCycle b = true ∧ b.seq.state = .running ∧ b.seq.run.phase = .permit then
        { stroking with seq := { b.seq with run := { b.seq.run with phase := .stroke, wait := .unit } } }
      else stroking
    else b)

/-- BDC in STROKING: the down valve closes and the gap of G ms begins, the cut is counted up to 16,777,215 and the wear
judged, the knife record is stored at a multiple of 250, the cycle record is marked as having taken a BDC, and TRK and SEQ
take the cut; in any other state only the switch is read (R31, R56, R58, R77, R115, R128). The wear part is C times w over
1,000, at most 400, and the knife term k and it (R76). A cut of SEQ makes its strip and goes to RETURN (R31, R56); a
manual cut's strip is taken with the knife term of its stroke (R58, R127). -/
def Obligations.BdcCountsCut : Prop :=
  (∀ (b : Blocks) (c : Cycle), b.cku.cycle = some c →
      (c.asker = .seq → reportBdc b =
        let cut := cutBdcUpdate c.waste b
        if (b.seq.state = .running ∨ b.seq.state = .held) ∧ b.seq.run.phase = .stroke then
          { cut with seq := { cut.seq with run := { cut.seq.run with phase := .returning } } }
        else cut)
      ∧ (c.asker = .manual → reportBdc b =
        manualBdcUpdate (match c.knifeTerm with | some term => term | none => knifeTermOf b.cku.knife) b)) ∧
  (∀ b : Blocks, markBdc b = { b with cku := { b.cku with
      cycle := b.cku.cycle.map fun c => { c with bdcTaken := true } } }) ∧
  (∀ r : KnifeRecord, wearPart r = min 400 (r.C * r.w / 1000) ∧ knifeTermOf r = r.k + (wearPart r : Int)) ∧
  ∀ s : State, exec .bdcCovered s = .next (s.act fun b =>
    let covered := { b with inputs := { b.inputs with bdc := true } }
    if b.cku.state = .stroking then
      let count := min 16777215 (b.cku.knife.C + 1)
      let knife := { b.cku.knife with C := count }
      let cap : Bool := wearPart knife == 400
      let counted := raiseIf (cap && !b.cku.wearCap) .knife { covered with cku := { b.cku with
        state := .gap, valves := { lowering := true, raising := false, down := false, ret := false },
        downClosedAt := some b.clock, deadline := some (b.clock + b.cku.knife.G), knife := knife, wearCap := cap } }
      reportBdc (markBdc (if count % 250 = 0 then ckuStore counted else counted))
    else covered)

/-- A reversal closes the down valve, begins the gap, records its cause and marks the partial cut; the stroke time reverses
with STROKE_TIMEOUT recorded; at the end of the gap the return valve opens for at most 1,200 ms, whose end faults
RETURN_TIMEOUT; the lowering valve stays open (R57, R107, R114 to R116, R120, R125). A reversal for pressure or stroke time
has its fault recorded at once, and it is a hold cause but in a manual cut, as a curtain break is in GUARDED_AUTO (R116,
R120). That BDC uncovers as the knife returns (log 4), the gap of a KNIFE_RETURN (log 38), that the return begins and waits
for TDC where the TDC switch is covered already (log 76), that a manual cut's fault is no hold cause (log 27), and that a
RETURN_TIMEOUT with a fault recorded at the reversal keeps its code and is no second cause (log 42) are the model's choices.
-/
def Obligations.KnifeReverses : Prop :=
  let late (b : Blocks) : Blocks := match b.cku.deadline with | some d => { b with clock := max b.clock d } | none => b
  (∀ (cause : ReversalCause) (b : Blocks), reverse cause b = { b with
      cku := { b.cku with state := .gap, valves := { lowering := true, raising := false, down := false, ret := false },
                          downClosedAt := some b.clock, deadline := some (b.clock + b.cku.knife.G),
                          cycle := b.cku.cycle.map fun c => { c with lastReversal := some cause } },
      trk := { b.trk with block := b.trk.block.map fun k => { k with partialCut := true } } })
  ∧ (∀ (cause : ReversalCause) (b : Blocks),
      let back : Blocks := reverse cause b
      let faulted (code : CkuFault) : Blocks :=
        let told : Blocks := raise .knife { back with cku := { back.cku with fault := some code } }
        if manualCycle b = true then told else holdCause .knifeFault told
      ckuReverses cause b = match cause with
        | .pressure => faulted .pressureLost
        | .strokeTime => faulted .strokeTimeout
        | .curtain =>
          if b.inputs.permitKey = .guardedAuto ∧ manualCycle b = false then holdCause .lightCurtain back else back
        | _ => back)
  ∧ (∀ s : State, exec .strokeTimeout s = .next (s.act fun b =>
      if b.cku.state = .stroking then ckuReverses .strokeTime (late b) else b))
  ∧ (∀ s : State, exec .valveGapEnd s = .next (s.act fun b =>
      if b.cku.state = .gap then
        { late b with
          inputs := { b.inputs with bdc := false },
          cku := { b.cku with state := .returning, deadline := some ((late b).clock + 1200),
                              valves := { lowering := true, raising := false, down := false, ret := true } } }
      else b))
  ∧ (∀ s : State, exec .returnTimeout s = .next (s.act fun b =>
      if b.cku.state = .returning then
        match b.cku.fault with
        | some code => ckuEnterFault code (late b)
        | none => ckuFaults .returnTimeout (late b)
      else b))

/-- TDC in RETURNING closes the return valve and times it. A KNIFE_RETURN releases; a fault recorded at the reversal is
entered; a cut that reached BDC releases, and a rest asked releases with the flap closed; a reversal without a rest goes
back to CLAMPED; with the clamp already up a release is OPEN at once (R32, R33, R115, R117, R118, R120, R122, R125). That
a rest's closing of the flap is not begun while the chain is open (log 40), and that the flap is judged by its state and
not its switch (log 96), are the model's choices. -/
def Obligations.TdcEndsReturn : Prop :=
  ∀ s : State, ∃ t : State, exec .tdcCovered s = .next t ∧ t.pending = s.pending ∧ t.blocks.inputs.tdc = true
    ∧ (s.blocks.cku.state ≠ .returning → t.blocks = { s.blocks with inputs := { s.blocks.inputs with tdc := true } })
    ∧ (s.blocks.cku.state = .returning →
      let shut : Cku := { s.blocks.cku with
        valves := { s.blocks.cku.valves with ret := false }, returnClosedAt := some s.blocks.clock, deadline := none }
      (∀ code, s.blocks.cku.knifeReturn = false → s.blocks.cku.fault = some code →
        t.blocks.cku.state = .fault ∧ t.blocks.cku.fault = some code ∧ t.blocks.cku.valves = Valves.closed
          ∧ t.blocks.cku.cycle = none)
      ∧ (∀ c, s.blocks.cku.knifeReturn = false → s.blocks.cku.fault = none → s.blocks.cku.cycle = some c →
          c.bdcTaken = false → c.restAsked = false →
        t.blocks.cku = { shut with
          state := .clamped, deadline := if c.asker = .manual then some (s.blocks.clock + 10000) else none }
        ∧ (c.asker = .seq → s.blocks.seq.state = .running → s.blocks.seq.run.phase = .stroke →
            t.blocks.seq.run.phase = .permit ∧ t.blocks.seq.run.wait = .permit))
      ∧ (∀ c, s.blocks.cku.knifeReturn = false → s.blocks.cku.fault = none → s.blocks.cku.cycle = some c →
          c.bdcTaken = true → c.restAsked = false → s.blocks.inputs.upperStop = false →
        t.blocks.cku = { shut with state := .releasing, valves := { Valves.closed with raising := true },
                                   deadline := some (s.blocks.clock + 1500) }
        ∧ (c.asker = .seq → s.blocks.seq.state = .running → s.blocks.seq.run.phase = .returning →
            t.blocks.seq.run.phase = .release))
      ∧ (∀ c, s.blocks.cku.knifeReturn = false → s.blocks.cku.fault = none → s.blocks.cku.cycle = some c →
          c.restAsked = true → s.blocks.inputs.upperStop = false →
        let closes : Bool := decide (s.blocks.msu.estop = .chainOk
          ∧ (s.blocks.cku.flap = .opening ∨ s.blocks.cku.flap = .opened))
        t.blocks.cku = { shut with
          state := .releasing, valves := { Valves.closed with raising := true }, deadline := some (s.blocks.clock + 1500),
          flap := if closes then .closing else s.blocks.cku.flap,
          flapDeadline := if closes then some (s.blocks.clock + 600) else s.blocks.cku.flapDeadline }
        ∧ (c.bdcTaken = true → c.asker = .seq → s.blocks.seq.state = .running → s.blocks.seq.run.phase = .returning →
            t.blocks.seq.run.phase = .release))
      ∧ (s.blocks.cku.knifeReturn = true → s.blocks.inputs.upperStop = false →
          t.blocks.cku.state = .releasing ∧ t.blocks.cku.valves = { Valves.closed with raising := true })
      ∧ (s.blocks.inputs.upperStop = true → s.blocks.seq.state ≠ .running →
          s.blocks.cku.knifeReturn = true ∨ (s.blocks.cku.fault = none
            ∧ ∀ c, s.blocks.cku.cycle = some c → c.bdcTaken = true ∨ c.restAsked = true) →
        t.blocks.cku.state = .open_ ∧ t.blocks.cku.cycle = none ∧ t.blocks.cku.valves = Valves.closed
          ∧ t.blocks.cku.knifeReturn = false))

/-- The upper stop in RELEASING ends the release: OPEN, the valves closed, the cycle record discarded, and SEQ told but of a
manual cut: the repeats fall by one, a WASTE cut closes the flap first, and then the next repeat is computed or the next step
taken, in HELD only recorded (R33, R44, R118, R124 to R127); the release time faults RELEASE_TIMEOUT; the 10 s of a manual
cut's permit abandon it, in OPEN at once with the clamp already up (R118, R127). That a reset's part keeps the end of its
release until the flap closes (log 71), and that the upper stop covering in OPEN changes the level alone and is not reported
to SEQ (log 79), are the model's choices. -/
def Obligations.ClampReleases : Prop :=
  (∀ s : State, exec .upperStopCovered s = .next (s.act fun b =>
      let up := { b with inputs := { b.inputs with upperStop := true } }
      if b.cku.state = .releasing then
        if manualCycle b then ckuOpened up else seqReleased (ckuOpened up)
      else up))
  ∧ (∀ b : Blocks,
      let up : Blocks := { b with cku := { b.cku with
        state := .open_, cycle := none, knifeReturn := false, resetReleased := b.cku.resetting, valves := Valves.closed,
        deadline := none } }
      let told : Blocks :=
        if b.cku.knifeReturn then raise .knife { up with cku := { up.cku with lastManual := some true } }
        else
          match b.cku.cycle with
          | some c =>
            if c.asker = .manual then raise .knife { up with cku := { up.cku with lastManual := some c.bdcTaken } } else up
          | none => up
      ckuOpened b =
        if b.cku.resetting = true ∧ b.cku.flap = .closed then
          raise .knife { told with cku := { told.cku with resetting := false, resetReleased := false } }
        else told)
  ∧ (∀ b : Blocks, seqReleased b =
      let fewer : Running := { b.seq.run with cutsLeft := b.seq.run.cutsLeft - 1 }
      let waste : Bool := match currentStep b with | some (.cut _ _ w _ _) => w | _ => false
      if b.seq.state = .running ∧ b.seq.run.phase = .release then
        if waste = true ∧ b.cku.flap ≠ .closed then
          flapClose { b with seq := { b.seq with run := { fewer with phase := .flapClose, wait := .unit } } }
        else if 0 < fewer.cutsLeft then recompute { b with seq := { b.seq with run := fewer } }
        else nextStep { b with seq := { b.seq with run := fewer } }
      else if b.seq.state = .held ∧ (b.seq.run.phase = .returning ∨ b.seq.run.phase = .release) then
        { b with seq := { b.seq with run :=
            if fewer.cutsLeft = 0 then
              { fewer with loc := ⟨b.seq.run.loc.prog, b.seq.run.loc.index + 1⟩, phase := .none }
            else { fewer with phase := .compute } } }
      else b)
  ∧ (∀ (b : Blocks) (m : CutMode) (n : Nat) (w : Bool) (d : Um) (o : Option Nat), currentStep b = some (.cut m n w d o) →
      recompute b = computeCut m w d b)
  ∧ (∀ b : Blocks, nextStep b = takeStep { b with seq := { b.seq with run := { b.seq.run with
      loc := ⟨b.seq.run.loc.prog, b.seq.run.loc.index + 1⟩, phase := .none, wait := .none } } })
  ∧ (∀ before after : Blocks, reportOpened before after =
      if before.cku.state ≠ .open_ ∧ after.cku.state = .open_ ∧ manualCycle before = false then seqReleased after else after)
  ∧ (∀ s : State, ∃ t : State, exec .upperStopCovered s = .next t ∧ t.pending = s.pending
      ∧ t.blocks.inputs.upperStop = true
      ∧ (s.blocks.cku.state ≠ .releasing →
          t.blocks = { s.blocks with inputs := { s.blocks.inputs with upperStop := true } })
      ∧ (s.blocks.cku.state = .releasing →
          t.blocks.cku.state = .open_ ∧ t.blocks.cku.cycle = none ∧ t.blocks.cku.valves = Valves.closed
            ∧ t.blocks.cku.knifeReturn = false ∧ t.blocks.cku.deadline = none)
      ∧ (s.blocks.cku.state = .releasing → manualCycle s.blocks = false → s.blocks.seq.state = .running →
          s.blocks.seq.run.phase = .release → 1 < s.blocks.seq.run.cutsLeft →
          t.blocks.seq.run.cutsLeft + 1 = s.blocks.seq.run.cutsLeft))
  ∧ (∀ s : State, exec .releaseTimeout s = .next (s.act fun b =>
      if b.cku.state = .releasing then
        ckuFaults .releaseTimeout (match b.cku.deadline with | some d => { b with clock := max b.clock d } | none => b)
      else b))
  ∧ (∀ s : State, s.blocks.cku.state = .clamped → manualCycle s.blocks = true → s.blocks.inputs.upperStop = false →
      exec .manualPermitTimeout s = .next (s.act fun b =>
        let now := match b.cku.deadline with | some d => max b.clock d | none => b.clock
        raise .knife { b with
          clock := now,
          cku := { b.cku with state := .releasing, valves := { Valves.closed with raising := true },
                              deadline := some (now + 1500), lastManual := some false } }))
  ∧ (∀ s : State, s.blocks.cku.state = .clamped → manualCycle s.blocks = true → s.blocks.inputs.upperStop = true →
      exec .manualPermitTimeout s = .next (s.act fun b =>
        ckuOpened (raise .knife { b with
          clock := (match b.cku.deadline with | some d => max b.clock d | none => b.clock),
          cku := { b.cku with lastManual := some false } })))
  ∧ (∀ s : State, s.blocks.cku.state ≠ .clamped ∨ manualCycle s.blocks = false → exec .manualPermitTimeout s = .next s)

/-- The knife off TDC with no stroke commanded is KNIFE_CREEP, the clamp off its upper stop in OPEN is CLAMP_CREEP, and
either faults a turn in progress INTERLOCK_LOST (R93, R121, R137, R162). The clamp leaving its upper stop while the gauge
is in motion stops it: a move of SEQ becomes pending again, a jog is void, a homing run ends as a commanded stop, notice
GAUGE (R93, R100). That the stop is given no count (log 91), that CKU's fault with its hold comes before the gauge's
interlock stop and TRN's fault (log 54), and that a report of the level that stands changes nothing (log 5), are the
model's choices. -/
def Obligations.CreepAndInterlocks : Prop :=
  let turnFaults (b : Blocks) : Blocks :=
    if b.trn.state = .gripping ∨ b.trn.state = .turning ∨ b.trn.state = .releasing then trnFaults .interlockLost b else b
  (∀ s : State, exec .tdcUncovered s = .next (s.act fun b =>
      let off := { b with inputs := { b.inputs with tdc := false } }
      if b.inputs.tdc = false then b
      else if b.cku.state = .open_ ∨ b.cku.state = .clamping ∨ b.cku.state = .clamped ∨ b.cku.state = .releasing then
        turnFaults (ckuFaults .knifeCreep off)
      else turnFaults off))
  ∧ (∀ s : State, exec .upperStopUncovered s = .next (s.act fun b =>
      let off := { b with inputs := { b.inputs with upperStop := false } }
      if b.inputs.upperStop = false then b
      else if b.cku.state = .open_ then jogWatch (turnFaults (gaxInterlock (ckuFaults .clampCreep off)))
      else jogWatch (turnFaults (gaxInterlock off))))
  ∧ (∀ b : Blocks,
      let again : Option PendingMove := match b.gax.move with
        | some m => if m.asker = .seq ∧ m.completed = none then some ⟨m.kind, m.target⟩ else b.gax.pending
        | none => b.gax.pending
      (b.gax.state = .moving → gaxInterlock b = if b.gax.stopping then b else raise .gauge { b with gax := { b.gax with
        pending := again,
        move := b.gax.move.map fun m => if m.completed = none then { m with completed := some false } else m,
        stopping := true, driveCount := none, deadline := some (b.clock + 800) } })
      ∧ (b.gax.state = .settling → gaxInterlock b = gaxStopped { b with gax := { b.gax with pending := again } })
      ∧ (b.gax.state = .homing → gaxInterlock b = gaxStop b)
      ∧ (b.gax.state ≠ .moving → b.gax.state ≠ .settling → b.gax.state ≠ .homing → gaxInterlock b = b))

/-- The flap's switches end its movements, with the report to SEQ and, for the closed switch, the end of a reset's part; the
600 ms of a movement fault FLAP_TIMEOUT, with the flap OPEN, not known to be closed; the flap is driven in OPENING and CLOSING.
SEQ goes from FLAP_OPEN to PERMIT with the stroke armed, and from FLAP_CLOSE to the next repeat or the next step
(R30, R33, R119, R124). That the part of a reset waits for its release and its flap alone is the model's choice (log 71). -/
def Obligations.FlapMovesEnd : Prop :=
  (∀ s : State, exec .flapOpenSwitchCovered s = .next (s.act fun b =>
      let covered := { b with inputs := { b.inputs with flapOpenSw := true } }
      if b.cku.flap = .opening then
        seqFlapOpen { covered with cku := { b.cku with flap := .opened, flapDeadline := none } }
      else covered))
  ∧ (∀ s : State, exec .flapClosedSwitchCovered s = .next (s.act fun b =>
      let covered := { b with inputs := { b.inputs with flapClosedSw := true } }
      if b.cku.flap = .closing then
        seqFlapClosed (
          if b.cku.resetting = true ∧ b.cku.resetReleased = true then
            raise .knife { covered with cku := { b.cku with
              flap := .closed, flapDeadline := none, resetting := false, resetReleased := false } }
          else { covered with cku := { b.cku with flap := .closed, flapDeadline := none } })
      else covered))
  ∧ (∀ s : State, exec .flapTimeout s = .next (s.act fun b =>
      if b.cku.flap = .opening ∨ b.cku.flap = .closing then
        ckuFaults .flapTimeout { b with
          clock := (match b.cku.flapDeadline with | some d => max b.clock d | none => b.clock),
          cku := { b.cku with flap := .opened, flapDeadline := none } }
      else b))
  ∧ (∀ b : Blocks, seqFlapOpen b =
      if b.seq.state = .running ∧ b.seq.run.phase = .flapOpen then
        { b with seq := { b.seq with run := { b.seq.run with phase := .permit, wait := .permit } },
                 cku := { b.cku with cycle := b.cku.cycle.map fun c => { c with armed := true } } }
      else b)
  ∧ (∀ b : Blocks, seqFlapClosed b =
      if b.seq.state = .running ∧ b.seq.run.phase = .flapClose then
        if 0 < b.seq.run.cutsLeft then recompute b else nextStep b
      else b)
  ∧ (∀ b : Blocks, flapDrive b =
      if b.cku.flap = .opening then .ahead else if b.cku.flap = .closing then .back else .stopped)

/-- KNIFE_RETURN is judged in the order of R125: with the knife off TDC it waits at least G ms in GAP with the lowering valve
open (R107), and at TDC the release follows at once. KNIFE_CHANGED is judged in the order of R129: the working copy takes k,
w and G with C at 0, the wear is judged, and the record is stored. The G ms with no closing known are the model's choice
(log 38). -/
def Obligations.KnifeRequestsJudged : Prop :=
  (∀ s : State, StartedUp s → exec .knifeReturn s = .next (s.act fun b =>
      if b.msu.mode ≠ .setup then answer .refusedMode .nothing b
      else if b.cku.state ≠ .knifeReturnNeeded ∨ b.msu.estop ≠ .chainOk ∨ b.inputs.leftHeld = false
          ∨ b.inputs.rightHeld = false then answer .refusedState .nothing b
      else if b.inputs.tdc = false then
        answer .accepted .nothing { b with cku := { b.cku with
          knifeReturn := true, state := .gap, valves := { Valves.closed with lowering := true },
          deadline := some (max (b.clock + b.cku.knife.G)
            (match b.cku.downClosedAt with | some t => t + b.cku.knife.G | none => 0)) } }
      else answer .accepted .nothing (reportOpened b (ckuRelease (flapClose { b with cku := { b.cku with knifeReturn := true } })))))
  ∧ (∀ b : Blocks, b.inputs.upperStop = false → ckuRelease b = { b with cku := { b.cku with
      state := .releasing, valves := { Valves.closed with raising := true }, deadline := some (b.clock + 1500) } })
  ∧ (∀ b : Blocks, b.inputs.upperStop = true → b.cku.knifeReturn = true → b.cku.resetting = false → ckuRelease b =
      raise .knife { b with cku := { b.cku with
        state := .open_, cycle := none, knifeReturn := false, resetReleased := false, valves := Valves.closed, deadline := none,
        lastManual := some true } })
  ∧ (∀ (k : Int) (w g : Nat) (s : State), StartedUp s → exec (.knifeChanged k w g) s = .next (s.act fun b =>
      if ¬ (-300 ≤ k ∧ k ≤ 300 ∧ w ≤ 20 ∧ 4 ≤ g ∧ g ≤ 15) then answer .badArgument .nothing b
      else if b.msu.mode ≠ .setup then answer .refusedMode .nothing b
      else if (b.cku.state ≠ .open_ ∧ b.cku.state ≠ .fault) ∨ b.inputs.tdc = false then answer .refusedState .nothing b
      else
        answer .ok .nothing (raise .knife (ckuStore { b with cku := { b.cku with
          knife := { k := k, w := w, C := 0, G := g }, wearCap := false } }))))

/-! ## Pile turner -/

/-- TURN_MANUAL is judged in the order of R141; a turn begins in GRIPPING with 800 ms, by TURN_MANUAL or, pending, when the
turn conditions hold in PARKED; the grip closing begins the first quarter with 1,500 ms (R132 to R135). SEQ's turn begins at
once in PARKED, waits as the pending turn, or fails (R133). That the arms-open switch uncovers as the grip closes is the
model's choice (log 4). -/
def Obligations.TurnBegins : Prop :=
  let begun (asker : TurnAsker) (q : Nat) (b : Blocks) : Blocks :=
    jogWatch { b with trn := { b.trn with
      state := .gripping, pending := none, deadline := some (b.clock + 800),
      record := some { asker := asker, requested := q, done := 0, restAsked := false, since := b.clock } } }
  (∀ (q : Nat) (s : State), StartedUp s → exec (.turnManual q) s = .next (s.act fun b =>
      if q = 0 ∨ 3 < q then answer .badArgument .nothing b
      else if b.msu.mode ≠ .setup then answer .refusedMode .nothing b
      else if b.trn.state = .gripping ∨ b.trn.state = .turning ∨ b.trn.state = .releasing then answer .busy .nothing b
      else if b.trn.state = .fault ∨ envelopeMet b = false ∨ b.cku.state ≠ .open_ ∨ turnConditions b = false then
        answer .refusedState .nothing b
      else answer .accepted .nothing (begun .terminal q b)))
  ∧ (∀ s : State, exec .pendingTurnBegin s = .next (s.act fun b =>
      match b.trn.pending with
      | none => b
      | some q => if b.trn.state = .parked ∧ turnConditions b = true then begun .seq q b else b))
  ∧ (∀ b : Blocks, turnConditions b = true ↔
      b.inputs.upperStop = true ∧ b.inputs.tdc = true ∧ b.msu.estop = .chainOk ∧ b.gax.state = .standstill
        ∧ b.gax.referenced = true ∧ ∃ p, gaxPosition b = some p ∧ 960000 ≤ p)
  ∧ (∀ b : Blocks, envelopeMet b = true ↔ ∃ k, b.trk.block = some k ∧ k.strDepth ≤ 920000 ∧ k.strWidth ≤ 920000)
  ∧ (∀ s : State, exec .gripClosed s = .next (s.act fun b =>
      if b.trn.state = .gripping then
        { b with inputs := { b.inputs with gripClosed := true, armsOpen := false },
                 trn := { b.trn with state := .turning, deadline := some (b.clock + 1500),
                                     record := b.trn.record.map fun r => { r with since := b.clock } } }
      else { b with inputs := { b.inputs with gripClosed := true } }))
  ∧ (∀ (q : Nat) (b : Blocks), askTurn q b =
      if b.trn.state = .gripping ∨ b.trn.state = .turning ∨ b.trn.state = .fault then holdCause .turnerFault b
      else if envelopeMet b = false then holdCause .turnEnvelope b
      else if b.trn.state = .parked ∧ turnConditions b = true then begun .seq q b
      else { b with trn := { b.trn with pending := some q } })

/-- A quarter completion in TURNING: one quarter more is done, TRK turns the block, and TRN releases at the last quarter or at a
rest asked, and otherwise begins the next quarter (R59, R135, R136). In a turn of SEQ, RUNNING or HELD, the quarters remaining
fall; at the last the base in force is the new depth and the location advances, and in RUNNING the next step is taken (R34,
R39, R44). That SEQ takes its next step after TRN has judged is the model's choice (log 12). -/
def Obligations.QuarterCompletes : Prop :=
  let judged (r : TurnRecord) (b : Blocks) : Blocks :=
    let counted := { r with done := r.done + 1, since := b.clock }
    { b with
      inputs := { b.inputs with quarter := true },
      trk := { b.trk with block := b.trk.block.map Block.quarter },
      trn := if r.done + 1 = r.requested ∨ r.restAsked = true then
               { b.trn with state := .releasing, carrying := false, deadline := some (b.clock + 800), record := some counted }
             else { b.trn with deadline := some (b.clock + 1500), record := some counted } }
  (∀ s : State, s.blocks.trn.state ≠ .turning ∨ s.blocks.trn.record = none →
      exec .quarterCompletion s = .next { s with blocks := { s.blocks with inputs := { s.blocks.inputs with quarter := true } } })
  ∧ (∀ (s : State) (r : TurnRecord), s.blocks.trn.state = .turning → s.blocks.trn.record = some r →
      r.asker = .terminal ∨ ¬ ((s.blocks.seq.state = .running ∨ s.blocks.seq.state = .held) ∧ s.blocks.seq.run.phase = .turn) →
      exec .quarterCompletion s = .next (s.act (judged r)))
  ∧ (∀ (s : State) (r : TurnRecord), s.blocks.trn.state = .turning → s.blocks.trn.record = some r → r.asker = .seq →
      s.blocks.seq.state = .running ∨ s.blocks.seq.state = .held → s.blocks.seq.run.phase = .turn →
      1 < s.blocks.seq.run.quartersLeft →
      exec .quarterCompletion s = .next (s.act fun b =>
        { judged r b with
          seq := { b.seq with run := { b.seq.run with quartersLeft := b.seq.run.quartersLeft - 1 } } }))
  ∧ (∀ (s : State) (r : TurnRecord) (k : Block), s.blocks.trn.state = .turning → s.blocks.trn.record = some r → r.asker = .seq →
      s.blocks.seq.state = .running ∨ s.blocks.seq.state = .held → s.blocks.seq.run.phase = .turn →
      s.blocks.seq.run.quartersLeft ≤ 1 → s.blocks.trk.block = some k →
      exec .quarterCompletion s = .next (s.act fun b =>
        let run : Running := { b.seq.run with
          quartersLeft := 0, loc := ⟨b.seq.run.loc.prog, b.seq.run.loc.index + 1⟩, phase := .none }
        let done : Blocks := { judged r b with
          seq := match b.seq.stack with
            | [] => { b.seq with run := { run with mainBase := k.nomWidth } }
            | f :: rest => { b.seq with stack := { f with base := k.nomWidth } :: rest, run := run } }
        if b.seq.state = .running then takeStep done else done))

/-- The turner's times fault it where they run; FAULT has the code, hold cause TURNER_FAULT and notice CELL, and from TURNING
the orientation is lost; the arms open at a quarter position park it; the head or the arms leaving their rest in PARKED is
POSITION_LOST; the arms close, hold, open or stop, and the head rotates, by the state (R60, R93, R131, R134 to R138, R140,
R142). That the grip-closed switch uncovers as the arms open (log 4), that a switch covered before the release does not park
it (log 55), that no switch parks the empty head carried on with the arms-open switch uncovered (log 64), that the arms keep
the grip only of a fault in TURNING (log 72), that a report of a quarter sensor or an arms-open switch already uncovered
changes nothing (log 5), that the gauge's interlock stop comes before the hold of a POSITION_LOST (log 80), and that a further
fault event in FAULT is no hold cause (log 85), are the model's choices. -/
def Obligations.TurnerFaultsAndParks : Prop :=
  let late (b : Blocks) : Blocks := match b.trn.deadline with | some d => { b with clock := max b.clock d } | none => b
  let parked (b : Blocks) : Blocks :=
    raiseIf (turnAsker b == some .terminal || b.trn.resetting) .cell { b with trn := { b.trn with
      state := .parked, record := none, resetting := false, carrying := false, deadline := none,
      lastTurn := match b.trn.record with | some r => some ⟨r.done, .parked⟩ | none => b.trn.lastTurn } }
  (∀ s : State, exec .gripTimeout s = .next (s.act fun b =>
      if b.trn.state = .gripping then trnFaults .gripTimeout (late b) else b))
  ∧ (∀ s : State, exec .turnTimeout s = .next (s.act fun b =>
      if b.trn.state = .turning ∨ (b.trn.state = .releasing ∧ b.trn.carrying = true) then trnFaults .turnTimeout (late b)
      else b))
  ∧ (∀ s : State, exec .turnerReleaseTimeout s = .next (s.act fun b =>
      if b.trn.state = .releasing ∧ b.trn.carrying = false then trnFaults .releaseTimeout (late b) else b))
  ∧ (∀ s : State, exec .armsOpen s = .next (s.act fun b =>
      let opened := { b with inputs := { b.inputs with armsOpen := true, gripClosed := false } }
      if b.trn.state ≠ .releasing ∨ b.trn.carrying = true then opened
      else if b.inputs.quarter then parked opened
      else if b.trn.resetting then
        { opened with trn := { b.trn with carrying := true, deadline := some (b.clock + 1500) } }
      else opened))
  ∧ (∀ s : State, exec .quarterSensorCovered s = .next (s.act fun b =>
      let covered := { b with inputs := { b.inputs with quarter := true } }
      if b.trn.state = .releasing ∧ b.inputs.armsOpen = true then parked covered else covered))
  ∧ (∀ s : State, exec .quarterSensorUncovered s = .next (s.act fun b =>
      let off := { b with inputs := { b.inputs with quarter := false } }
      if b.inputs.quarter = false then b else if b.trn.state = .parked then trnFaults .positionLost off else off))
  ∧ (∀ s : State, exec .armsOpenSwitchUncovered s = .next (s.act fun b =>
      let off := { b with inputs := { b.inputs with armsOpen := false } }
      if b.inputs.armsOpen = false then b else if b.trn.state = .parked then trnFaults .positionLost off else off))
  ∧ (∀ (code : TrnFault) (b : Blocks), trnFaults code b =
      if b.trn.state = .fault then b
      else
        holdCause .turnerFault (jogWatch (gaxInterlock (raise .cell { b with
          trk := if b.trn.state = .turning then
                   { b.trk with block := b.trk.block.map fun k => { k with orientation := none } } else b.trk,
          trn := { b.trn with state := .fault, fault := some code, record := none, pending := none, resetting := false,
                              carrying := false, gripKept := decide (b.trn.state = .turning), deadline := none,
                              lastTurn := match b.trn.record with
                                | some r => some ⟨r.done, .fault⟩ | none => b.trn.lastTurn } }))))
  ∧ (∀ b : Blocks, armsDrive b =
      if b.trn.state = .gripping then .closing
      else if b.trn.state = .turning ∨ (b.trn.state = .fault ∧ b.trn.gripKept = true) then .holding
      else if b.trn.state = .releasing ∧ b.trn.carrying = false then .opening
      else .stopped)
  ∧ (∀ b : Blocks, headRotates b = true ↔ b.trn.state = .turning ∨ b.trn.carrying = true)

/-! ## Stack lift -/

/-- LIFT_LOWER and LIFT_RAISE are judged in the orders of R151, FEED_PAUSE and FEED_RESUME change the mark with notice FEED, and
a repeated jog that has not begun waits for the pause's end (R152, R161), SENSOR_BASELINE is judged in the order of R146; with
the chain closed the lift leaves its limit switch (R151, R153; the switch's movement is the model's choice, log 4). That a
LIFT_LOWER taken at the lower limit waits for the switch to cover again (log 65), and that LIFT_RAISE forgets the paper seen at
the top limit before it (log 39), are the model's choices. -/
def Obligations.LiftRequestsJudged : Prop :=
  (∀ s : State, StartedUp s → exec .liftLower s = .next (s.act fun b =>
      if b.msu.mode = .standby then answer .refusedMode .nothing b
      else if b.lft.state = .parting then answer .busy .nothing b
      else if b.lft.state = .fault then answer .refusedState .nothing b
      else if b.lft.state = .lowered ∨ b.lft.state = .lowering then answer .ok .nothing b
      else
        answer .accepted .nothing { b with
          lft := { b.lft with state := .lowering, deadline := none },
          inputs := { b.inputs with topLimit := b.inputs.topLimit && decide (b.msu.estop ≠ .chainOk) } }))
  ∧ (∀ s : State, StartedUp s → exec .liftRaise s = .next (s.act fun b =>
      if b.msu.mode = .standby then answer .refusedMode .nothing b
      else if b.lft.state ≠ .lowered ∧ b.lft.state ≠ .empty then answer .refusedState .nothing b
      else if b.lft.baselinePending ≠ none then answer .busy .nothing b
      else if b.lft.baseline = 0 then answer .noBaseline .nothing b
      else
        answer .accepted .nothing { b with
          lft := { b.lft with state := .raising, paperAtTop := false, deadline := none },
          inputs := { b.inputs with lowerLimit := b.inputs.lowerLimit && decide (b.msu.estop ≠ .chainOk) } }))
  ∧ (∀ s : State, StartedUp s → exec .feedPause s = .next (s.act fun b =>
      answer .ok .nothing
        (if b.lft.feedPaused then b
         else raise .feed { b with lft := { b.lft with feedPaused := true },
                                   jog := if b.jog.state = .receiving ∧ 0 < b.jog.retries then
                                            { b.jog with repeatWaiting := true } else b.jog })))
  ∧ (∀ s : State, StartedUp s → exec .feedResume s = .next (s.act fun b =>
      answer .ok .nothing
        (if b.lft.feedPaused = false then b
         else raise .feed { b with lft := { b.lft with feedPaused := false },
                                   jog := { b.jog with repeatWaiting := false } })))
  ∧ (∀ (w d : Nat) (s : State), StartedUp s → exec (.sensorBaseline w d) s = .next (s.act fun b =>
      if w < 256 ∨ 4095 < w ∨ d < 5 ∨ 40 < d then answer .badArgument .nothing b
      else if b.msu.mode = .standby then answer .refusedMode .nothing b
      else if b.lft.baselinePending ≠ none then answer .busy .nothing b
      else if b.lft.state ≠ .lowered ∧ b.lft.state ≠ .empty then answer .refusedState .nothing b
      else answer .accepted .nothing { b with lft := { b.lft with baselinePending := some ⟨w, d⟩ } }))

/-- A measurement is judged by R144: none in LOWERED, NOT_JUDGED in LOWERING and FAULT, a count below 16 a sensor fault by
state (R147), paper by the threshold, and no paper, which moves the baseline one eighth of the way in RAISING (R145).
Paper gives AT_LEVEL; its lack raises the lift from AT_LEVEL, and in RAISING at the top limit gives EMPTY (R148). The
baseline measurement takes W, d and b, or fails with LEVEL_SENSOR (R146). LEVEL_SENSOR and PART_TIMEOUT clear the sensor
fault pending mark, and at CHAIN_OPENED it stands (R147, R150, R153). That a count of 16 or more in PARTING and EMPTY is
kept as PRESENT or ABSENT (log 94), the judgement kept with the baseline measurement (log 56), that this is taken in
whatever state LFT has come to (log 66), that a failed baseline measurement in PARTING clears that mark (log 57), that the
baseline is tracked at the covered top limit too (log 18), and that paper judged since the covering keeps EMPTY away (log
39), are the model's choices. -/
def Obligations.LevelMeasured : Prop :=
  (∀ (count : Nat) (s : State), exec (.levelMeasurement count) s = .next (s.act fun b =>
      let n := if 65535 < count then 65535 else count
      let kept (j : Judgement) : Blocks := { b with lft := { b.lft with latest := some n, judgement := j } }
      if b.lft.state = .lowered then b
      else if b.lft.state = .lowering ∨ b.lft.state = .fault then kept .notJudged
      else if n < 16 then
        if b.lft.state = .parting then
          { kept .faultCount with lft := { (kept .faultCount).lft with sensorFaultPending := true } }
        else lftFault .levelSensor (kept .faultCount)
      else if b.lft.baseline ≠ 0 ∧ n * 100 ≤ b.lft.baseline * (100 - b.lft.depth) then
        if b.lft.state = .raising ∨ b.lft.state = .atLevel then
          { kept .present with lft := { (kept .present).lft with
              state := .atLevel, paperAtTop := b.lft.paperAtTop || b.inputs.topLimit } }
        else kept .present
      else if b.lft.state = .raising then
        let tracked := { kept .absent with lft := { (kept .absent).lft with baseline := trackedBaseline b.lft.baseline n } }
        if b.inputs.topLimit = true ∧ b.lft.paperAtTop = false then
          raise .feed { tracked with lft := { tracked.lft with state := .empty, paperAtTop := false } }
        else tracked
      else if b.lft.state = .atLevel then liftRaises (kept .absent)
      else kept .absent))
  ∧ (∀ b n : Nat, b ≠ 0 → (trackedBaseline b n : Int) = b + Int.tdiv ((n : Int) - b) 8)
  ∧ (∀ (count : Nat) (s : State), exec (.baselineMeasurement count) s = .next (s.act fun b =>
      match b.lft.baselinePending with
      | none => b
      | some q =>
        let n := if 65535 < count then 65535 else count
        let kept := { b with lft := { b.lft with latest := some n, judgement := .notJudged, baselinePending := none } }
        if n < 16 then lftFault .levelSensor kept
        else raise .feed { kept with lft := { kept.lft with window := q.window, depth := q.depth, baseline := n } }))
  ∧ (∀ (code : LftFault) (b : Blocks), lftFault code b = raise .feed { b with lft := { b.lft with
      state := .fault, fault := some (b.lft.fault.getD code),
      sensorFaultPending := decide (code = .chainOpened) && b.lft.sensorFaultPending, withdrawing := false,
      resetting := false, deadline := none } })

/-- The top limit in RAISING gives EMPTY, the lower limit ends LOWERING in LOWERED, a parting begins in AT_LEVEL when R149
allows it, the blade driven in at the portion height; the entry-sensor event counts the portion, withdraws the gear and
raises the lift again or faults LEVEL_SENSOR, and the 6 s fault PART_TIMEOUT (R143, R148 to R151, R154, R157). The lift, the
gear and the blade are driven by the state, and not with the chain open (R143, R149, R150, R153, R154). The switches that
leave with the drive, and the height at the top limit (log 4), the blade's depth kept and the gear driven back until it is
home (log 60), and that the top limit's covering, like a LIFT_RAISE and EMPTY, forgets the paper seen at the top before it
(log 39), are the model's choices. -/
def Obligations.LiftEvents : Prop :=
  let late (b : Blocks) : Blocks := match b.lft.deadline with | some d => { b with clock := max b.clock d } | none => b
  (∀ s : State, exec .topLimitCovered s = .next (s.act fun b =>
      let top := { b with inputs := { b.inputs with topLimit := true },
                          lft := { b.lft with height := b.lft.height.map fun _ => 1400, paperAtTop := false } }
      if b.lft.state = .raising then raise .feed { top with lft := { top.lft with state := .empty } } else top))
  ∧ (∀ s : State, exec .lowerLimitCovered s = .next (s.act fun b =>
      let low := { b with inputs := { b.inputs with lowerLimit := true }, lft := { b.lft with height := some 0 } }
      if b.lft.state = .lowering then raise .feed { low with lft := { low.lft with state := .lowered, resetting := false } }
      else low))
  ∧ (∀ s : State, exec .partingBegin s = .next (s.act fun b =>
      if b.lft.state = .atLevel ∧ (b.seq.state = .running ∨ b.seq.state = .held) ∧ b.lft.feedPaused = false
          ∧ b.jog.state = .empty ∧ b.lft.partedOff < b.seq.run.lot ∧ b.msu.estop = .chainOk ∧ b.inputs.bladeHome = true
          ∧ b.inputs.pusherHome = true then
        { b with inputs := { b.inputs with bladeHome := false, pusherHome := false },
                 lft := { b.lft with
                   state := .parting, deadline := some (b.clock + 6000), gearReturning := false,
                   bladeDepth := match b.seq.snapshot with | some snap => some snap.height | none => none } }
      else b))
  ∧ (∀ s : State, exec .entrySensorCovered s = .next (s.act fun b =>
      let covered := { b with inputs := { b.inputs with entry := true } }
      if b.lft.state = .parting then
        let parted := { covered with lft := { b.lft with
          partedOff := b.lft.partedOff + 1, gearReturning := true, deadline := none } }
        let lifted := if b.lft.sensorFaultPending then lftFault .levelSensor parted else liftRaises parted
        if b.jog.state = .empty then
          { lifted with jog := { b.jog with state := .receiving, retries := 0, repeatWaiting := false } }
        else lifted
      else if b.jog.state = .empty then jogFault .strayPortion covered
      else covered))
  ∧ (∀ b : Blocks, liftRaises b = { b with
      lft := { b.lft with state := .raising, deadline := none },
      inputs := { b.inputs with lowerLimit := b.inputs.lowerLimit && decide (b.msu.estop ≠ .chainOk) } })
  ∧ (∀ s : State, exec .partTimeout s = .next (s.act fun b =>
      if b.lft.state = .parting then lftFault .partTimeout (late b) else b))
  ∧ (∀ s : State, exec .gearHome s = .next (s.act fun b =>
      let home := { b with inputs := { b.inputs with bladeHome := true, pusherHome := true },
                           lft := { b.lft with gearReturning := false } }
      if b.lft.withdrawing = false then home
      else
        let drawn := { home with lft := { home.lft with withdrawing := false, deadline := none } }
        if b.lft.height = none ∨ b.lft.baseline = 0 then
          if b.inputs.lowerLimit then raise .feed { drawn with lft := { drawn.lft with state := .lowered, height := some 0 } }
          else liftLowers { drawn with lft := { drawn.lft with resetting := true } }
        else raise .feed (liftRaises drawn)))
  ∧ (∀ s : State, exec .gearWithdrawTimeout s = .next (s.act fun b =>
      if b.lft.withdrawing = true then lftFault .partTimeout (late b) else b))
  ∧ (∀ b : Blocks,
      liftDrive b = (if b.msu.estop ≠ .chainOk then .stopped
        else if b.lft.state = .raising then .ahead else if b.lft.state = .lowering then .back else .stopped)
      ∧ gearDrive b = (if b.msu.estop ≠ .chainOk then .stopped
        else if b.lft.state = .parting then .ahead
        else if b.lft.withdrawing = true ∨ b.lft.gearReturning = true then .back else .stopped)
      ∧ bladeCommand b = if b.lft.state = .parting then b.lft.bladeDepth else none)

/-! ## Jogger -/

/-- A jog begins in RECEIVING when R157 allows it, with the figures of the snapshot and whole periods; at its end both stop
edges covered give ALIGNED, and otherwise up to two retries, then JOG_MISALIGNED; an edge uncovered in ALIGNED is a failed
check; the entry sensor uncovering is PORTION_LOST; the air bed and the coils run in JOGGING alone, and the two coils are
never energised together (R156 to R161, R164). The jog record keeps the periods run; a failed check is a retry, begun at
once where R157 allows it and waiting in a feed pause, or the third failure. That a disturbance in ALIGNED is kept as the
last alignment check (log 43), and that a report of the level that stands is no event (log 5), are the model's choices. -/
def Obligations.JogEvents : Prop :=
  let tried (b : Blocks) : Blocks :=
    match b.seq.snapshot with
    | none => b
    | some snap =>
      if b.jog.state = .receiving ∧ b.inputs.pusherHome = true ∧ b.inputs.carriageHome = true ∧ b.msu.estop = .chainOk
          ∧ b.jog.repeatWaiting = false then
        { b with jog := { b.jog with
            state := .jogging,
            record := some { jogTime := snap.stock.jogTime, period := snap.stock.jogPeriod, duty := snap.stock.jogDuty,
                             gap := snap.stock.jogGap,
                             onTime := (snap.stock.jogPeriod / 2 - snap.stock.jogGap) * snap.stock.jogDuty / 100,
                             start := b.clock, periods := 0 },
            deadline := some (b.clock +
              (snap.stock.jogTime * 100 + snap.stock.jogPeriod - 1) / snap.stock.jogPeriod * snap.stock.jogPeriod) } }
      else b
  (∀ s : State, exec .jogBegin s = .next (s.act fun b => if b.jog.resetting = true then b else tried b))
  ∧ (∀ b : Blocks, checkFailed b =
      if b.jog.retries < 2 then
        tried { b with jog := { b.jog with
          state := .receiving, retries := b.jog.retries + 1, repeatWaiting := b.lft.feedPaused, deadline := none } }
      else jogFault .jogMisaligned b)
  ∧ (∀ (front side : Bool) (s : State), s.blocks.jog.state ≠ .jogging → exec (.jogEnd front side) s = .next s)
  ∧ (∀ (front side : Bool) (s : State), s.blocks.jog.state = .jogging → ∃ t : State,
      exec (.jogEnd front side) s = .next t ∧ t.pending = s.pending
      ∧ t.blocks.inputs = { s.blocks.inputs with frontStop := front, sideStop := side }
      ∧ t.blocks.jog.lastCheck = some ⟨front, side⟩
      ∧ (t.blocks.jog.state = .aligned ∨ t.blocks.jog.state = .receiving → t.blocks.jog.record =
          s.blocks.jog.record.map fun r => { r with periods := (r.jogTime * 100 + r.period - 1) / r.period })
      ∧ (front = true → side = true → t.blocks.jog.state = .aligned ∧ t.blocks.jog.retries = s.blocks.jog.retries)
      ∧ ((front = false ∨ side = false) → s.blocks.jog.retries < 2 →
          t.blocks.jog.retries = s.blocks.jog.retries + 1
            ∧ (t.blocks.jog.state = .receiving ∨ t.blocks.jog.state = .jogging)
            ∧ t.blocks.jog.repeatWaiting = s.blocks.lft.feedPaused)
      ∧ ((front = false ∨ side = false) → 2 ≤ s.blocks.jog.retries →
          t.blocks.jog.state = .fault ∧ t.blocks.jog.fault = some .jogMisaligned)
      ∧ t.blocks.seq = s.blocks.seq ∧ t.blocks.trk = s.blocks.trk ∧ t.blocks.lft = s.blocks.lft
      ∧ t.blocks.gax = s.blocks.gax ∧ t.blocks.cku = s.blocks.cku ∧ t.blocks.trn = s.blocks.trn)
  ∧ (∀ (edge : StopEdge) (s : State), exec (.stopEdgeUncovered edge) s = .next (s.act fun b =>
      let off := { b with inputs := { b.inputs with frontStop := decide (edge = .side) && b.inputs.frontStop,
                                                    sideStop := decide (edge = .front) && b.inputs.sideStop } }
      if (match edge with | .front => b.inputs.frontStop | .side => b.inputs.sideStop) = false then b
      else if b.jog.state = .aligned then
        checkFailed { off with jog := { b.jog with lastCheck := some ⟨off.inputs.frontStop, off.inputs.sideStop⟩ } }
      else off))
  ∧ (∀ s : State, exec .entrySensorUncovered s = .next (s.act fun b =>
      let off := { b with inputs := { b.inputs with entry := false } }
      if b.inputs.entry = false then b
      else if b.jog.state = .receiving ∨ b.jog.state = .jogging ∨ b.jog.state = .aligned then jogFault .portionLost off
      else off))
  ∧ (∀ (r : JogRecord) (now : Ms), r.gap ≤ r.period / 2 → r.duty ≤ 100 →
      r.onTime = (r.period / 2 - r.gap) * r.duty / 100 → ¬ (coilAOn r now = true ∧ coilBOn r now = true))
  ∧ (∀ (r : JogRecord) (now : Ms),
      let t := (now - r.start) % r.period
      (coilAOn r now = true ↔ r.gap ≤ t ∧ t < r.gap + r.onTime)
      ∧ (coilBOn r now = true ↔ r.period / 2 + r.gap ≤ t ∧ t < r.period / 2 + r.gap + r.onTime))
  ∧ (∀ b : Blocks,
      (airBedOpen b = true ↔ b.jog.state = .jogging)
      ∧ (b.jog.state ≠ .jogging → coils b = (false, false))
      ∧ (∀ r, b.jog.state = .jogging → b.jog.record = some r → coils b = (coilAOn r b.clock, coilBOn r b.clock)))

/-- A transfer begins in ALIGNED when R162 allows it, keeps the figures of the block and runs 4 s, whose end faults
TRANSFER_TIMEOUT; the carriage home ends its return, and a reset's part in EMPTY; its 4 s fault CARRIAGE_TIMEOUT; in FAULT the
first code stays; the carriage is driven out in a transfer and back in a return (R53, R54, R162 to R165). That the carriage home
switch uncovers as a transfer begins is the model's choice (log 4). -/
def Obligations.TransferEvents : Prop :=
  let late (b : Blocks) : Blocks := match b.jog.deadline with | some d => { b with clock := max b.clock d } | none => b
  (∀ s : State, exec .transferBegin s = .next (s.act fun b =>
      match b.seq.snapshot with
      | none => b
      | some snap =>
        if b.jog.state = .aligned ∧ b.jog.resetting = false ∧ b.trk.block = none ∧ b.trk.unknown = false
            ∧ loadedL snap ≤ 1150000 ∧ b.seq.state = .running ∧ b.seq.run.wait = .portion
            ∧ gaxStandsAt snap.loadPosition b = true ∧ b.inputs.upperStop = true ∧ b.trn.state = .parked
            ∧ b.msu.estop = .chainOk then
          { b with
            inputs := { b.inputs with carriageHome := false },
            jog := { b.jog with
              state := .transferring, deadline := some (b.clock + 4000),
              figures := some { depth := snap.depth, width := snap.width, height := snap.height,
                                stretchA := snap.stock.stretchA, stretchB := snap.stock.stretchB } } }
        else b))
  ∧ (∀ s : State, exec .transferTimeout s = .next (s.act fun b =>
      if b.jog.state = .transferring then jogFault .transferTimeout (late b) else b))
  ∧ (∀ s : State, exec .carriageHome s = .next (s.act fun b =>
      let home := { b with inputs := { b.inputs with carriageHome := true } }
      if b.jog.resetting then
        raise .feed { home with jog := { b.jog with
          state := .empty, resetting := false, carriageReturning := false, deadline := none, suspended := none } }
      else if b.jog.carriageReturning then
        { home with jog := { b.jog with carriageReturning := false, deadline := none, suspended := none } }
      else home))
  ∧ (∀ s : State, exec .carriageTimeout s = .next (s.act fun b =>
      if b.jog.suspended = none ∧ b.jog.deadline ≠ none ∧ (b.jog.resetting = true ∨ (b.jog.carriageReturning = true
          ∧ (b.jog.state = .empty ∨ b.jog.state = .receiving))) then
        raise .feed { late b with jog := { b.jog with
          state := .fault, fault := some .carriageTimeout, record := none, figures := none, resetting := false,
          deadline := none } }
      else b))
  ∧ (∀ (code : JogFault) (b : Blocks), jogFault code b =
      if b.jog.state = .fault then b
      else raise .feed { b with jog := { b.jog with
        state := .fault, fault := some code, record := none, figures := none, resetting := false, deadline := none,
        suspended := none } })
  ∧ (∀ b : Blocks, jogWatch b =
      if b.jog.state = .transferring ∧ (b.gax.state ≠ .standstill ∨ b.inputs.upperStop = false ∨ b.trn.state ≠ .parked)
      then jogFault .interlockLost b else b)
  ∧ (∀ b : Blocks, carriageDrive b =
      if b.msu.estop ≠ .chainOk then .stopped
      else if b.jog.state = .transferring then .ahead
      else if (b.jog.carriageReturning = true ∨ b.jog.resetting = true) ∧ b.jog.deadline ≠ none then .back
      else .stopped)

/-! ## Job library -/

/-- JOB_BEGIN, JOB_PART and JOB_END are judged in the orders of R181 to R183, and the staging lapses 10 s after its last part
but while COMPACTING; JOB and SUB are the kinds 1 and 2 (R16, R182, R183, R192). -/
def Obligations.StagedTransferJudged : Prop :=
  let ok (kind key : Nat) : Prop := (kind = 1 ∧ 1 ≤ key ∧ key ≤ 999) ∨ (kind = 2 ∧ key ≤ 31)
  (∀ (kind key length : Nat) (s : State), StartedUp s →
    (¬ (ok kind key ∧ 1 ≤ length ∧ length ≤ 2048) →
      exec (.jobBegin kind key length) s = .next (s.act (answer .badArgument .nothing)))
    ∧ (ok kind key → 1 ≤ length → length ≤ 2048 → exec (.jobBegin kind key length) s = .next (s.act fun b =>
        if b.inputs.locked then answer .locked .nothing b
        else if b.lib.state = .closed then answer .libraryClosed .nothing b
        else
          answer .ok .nothing { b with lib := { b.lib with
            staging := some { kind := if kind = 1 then .job else .sub, key := key, declared := length, body := [],
                              since := b.clock } } })))
  ∧ (∀ (offset : Nat) (data : List Byte) (s : State), StartedUp s → data ≠ [] →
      exec (.jobPart offset data) s = .next (s.act fun b =>
        if b.inputs.locked then answer .locked .nothing b
        else if b.lib.state = .closed then answer .libraryClosed .nothing b
        else
          match b.lib.staging with
          | none => answer .refusedState .nothing b
          | some g =>
            if offset ≠ g.body.length ∨ g.declared < g.body.length + data.length then answer .badArgument .nothing b
            else
              answer .ok (.received (g.body.length + data.length)) { b with lib := { b.lib with
                staging := some { g with body := g.body ++ data, since := b.clock } } }))
  ∧ (∀ (offset : Nat) (s : State), StartedUp s →
      exec (.jobPart offset []) s = .next (s.act (answer .badArgument .nothing)))
  ∧ (∀ (check : Nat) (s : State), StartedUp s → exec (.jobEnd check) s = .next (s.act fun b =>
      if b.inputs.locked then answer .locked .nothing b
      else if b.lib.state = .closed then answer .libraryClosed .nothing b
      else if b.lib.state = .compacting then answer .busy .nothing b
      else
        let discarded (c : Blocks) : Blocks := { c with lib := { c.lib with staging := none } }
        match b.lib.staging with
        | none => answer .refusedState .nothing b
        | some g =>
          if g.body.length < g.declared then answer .badArgument .nothing b
          else if (crc16 g.body).toNat ≠ check then answer .badArgument .transferCheck (discarded b)
          else
            match recordChecks g.kind g.key g.body with
            | some f => answer .invalidProgram (.failingRecord g.kind g.key (some f)) (discarded b)
            | none =>
              match placeRecord g.kind g.key g.body b with
              | (c, .ok) => answer .ok (.written g.kind g.key b.lib.nextSeq) (discarded c)
              | (c, .unchanged) => answer .unchanged (.same g.kind g.key) (discarded c)
              | (c, .libraryFull) => answer .libraryFull .nothing c
              | (c, st) => answer st .nothing (discarded c)))
  ∧ (∀ s : State, exec .stagingLapse s = .next (s.act fun b =>
      match b.lib.staging with
      | none => b
      | some g =>
        if b.lib.state = .compacting then b
        else raise .library { b with clock := max b.clock (g.since + 10000),
                                     lib := { b.lib with staging := none, lastEvent := some .stagingLapse } }))

/-- JOB_READ, STOCK_READ and CORR_READ are judged by R181 and answer from the index, and change nothing (R178, R187): at most
200 bytes of a body from the offset, the eight figures of a stock profile, the current values of a range of points. Of the valid
records of a kind and key the one of highest sequence number is current, and a current tombstone, or no record at all, makes the
item absent; a point's value comes from the CORR record of highest sequence number that covers it, and is INVALID where none
does; records with equal numbers are copies, equal in content (R178, R179). NOT_FOUND
for a STOCK body of another layout is the model's choice (log 15). -/
def Obligations.LibraryReads : Prop :=
  (∀ (kind key offset : Nat) (k : RecKind) (s : State), StartedUp s →
      (kind = 1 ∧ k = .job ∧ 1 ≤ key ∧ key ≤ 999) ∨ (kind = 2 ∧ k = .sub ∧ key ≤ 31) →
      exec (.jobRead kind key offset) s = .next (s.act fun b =>
        if b.lib.state = .closed then answer .libraryClosed .nothing b
        else
          match currentItem b.lib k key with
          | none => answer .notFound .nothing b
          | some r =>
            if offset < r.body.length then
              answer .ok (.body r.seq r.body.length ((r.body.drop offset).take 200)) b
            else answer .badArgument .nothing b))
  ∧ (∀ (kind key offset : Nat) (s : State), StartedUp s →
      ¬ ((kind = 1 ∧ 1 ≤ key ∧ key ≤ 999) ∨ (kind = 2 ∧ key ≤ 31)) →
      exec (.jobRead kind key offset) s = .next (s.act (answer .badArgument .nothing)))
  ∧ (∀ (key : Nat) (s : State), StartedUp s → exec (.stockRead key) s = .next (s.act fun b =>
        if key = 0 ∨ 63 < key then answer .badArgument .nothing b
        else if b.lib.state = .closed then answer .libraryClosed .nothing b
        else
          match (currentItem b.lib .stock key).bind fun r => (decodeStock r.body).map fun f => (f, r.seq) with
          | none => answer .notFound .nothing b
          | some x => answer .ok (.stock x.1 x.2) b))
  ∧ (∀ (start count : Nat) (s : State), StartedUp s → exec (.corrRead start count) s = .next (s.act fun b =>
        if 231 < start ∨ count = 0 ∨ 29 < count ∨ 232 < start + count then answer .badArgument .nothing b
        else if b.lib.state = .closed then answer .libraryClosed .nothing b
        else answer .ok (.corrValues ((List.range count).map fun i => currentPoint b.lib (start + i))) b))
  ∧ (∀ (l : Lib) (kind : RecKind) (key : Nat), currentItem l kind key = match currentRecord l kind key with
      | some r => if r.body = [] then none else some r
      | none => none)
  ∧ (∀ (l : Lib) (kind : RecKind) (key : Nat), kind ≠ .corr →
      let among (r : Rec) : Prop := r.kind = kind ∧ r.key = key
      ((∀ p ∈ allRecords l.flash, ¬ among p.2) → currentRecord (reindex l) kind key = none)
      ∧ (∀ p ∈ allRecords l.flash, among p.2 →
          (∀ q ∈ allRecords l.flash, among q.2 → q.2.seq < p.2.seq ∨ q.2 = p.2) →
          currentRecord (reindex l) kind key = some p.2))
  ∧ (∀ (l : Lib) (j : Nat), j < 232 →
      let covers (r : Rec) : Prop := r.kind = .corr ∧ r.key ≤ j ∧ j < r.key + (decodeCorr r.body).length
      ((∀ p ∈ allRecords l.flash, ¬ covers p.2) → currentPoint (reindex l) j = none)
      ∧ (∀ p ∈ allRecords l.flash, covers p.2 →
          (∀ q ∈ allRecords l.flash, covers q.2 → q.2.seq < p.2.seq ∨ q.2 = p.2) →
          ∀ v, (decodeCorr p.2.body)[j - p.2.key]? = some v → currentPoint (reindex l) j = v))
  ∧ (∀ body : List Byte, decodeCorr body = corrValuesOf (body.drop 4))

/-- STOCK_WRITE, JOB_DELETE and CORR_WRITE are judged in the order of R181: a profile in the ranges of R3 is placed by
R180, a delete places a tombstone or is UNCHANGED with the item absent, and a CORR_WRITE places one record from the first
point that differs, which GAX then receives (R184), with notice GAUGE where its table changes (R104, R106). The ranges are
those of R3, and the period is even. The bytes of a STOCK and of a CORR body (log 15), and no notice GAUGE for a table
that does not change (log 48), are the model's choices. -/
def Obligations.LibraryWrites : Prop :=
  let open_ (f : Blocks → Blocks) (b : Blocks) : Blocks :=
    if b.inputs.locked then answer .locked .nothing b
    else if b.lib.state = .closed then answer .libraryClosed .nothing b
    else if b.lib.state = .compacting then answer .busy .nothing b
    else f b
  (∀ (key : Nat) (f : StockFigures) (s : State), StartedUp s →
      (StockFigures.inRange f = true → 1 ≤ key → key ≤ 63 →
        exec (.stockWrite key f) s = .next (s.act (open_ fun b =>
          answer (placeRecord .stock key (StockFigures.encode f) b).2 .nothing
            (placeRecord .stock key (StockFigures.encode f) b).1)))
      ∧ (StockFigures.inRange f = false ∨ key = 0 ∨ 63 < key →
        exec (.stockWrite key f) s = .next (s.act (answer .badArgument .nothing))))
  ∧ (∀ (kind key : Nat) (k : RecKind) (s : State), StartedUp s →
      (kind = 1 ∧ k = .job ∧ 1 ≤ key ∧ key ≤ 999) ∨ (kind = 2 ∧ k = .sub ∧ key ≤ 31)
        ∨ (kind = 3 ∧ k = .stock ∧ 1 ≤ key ∧ key ≤ 63) →
      exec (.jobDelete kind key) s = .next (s.act (open_ fun b =>
        match currentItem b.lib k key with
        | none => answer .unchanged .nothing b
        | some _ => answer (programNext k key [] b).2 .nothing (programNext k key [] b).1)))
  ∧ (∀ (kind key : Nat) (s : State), StartedUp s →
      ¬ ((kind = 1 ∧ 1 ≤ key ∧ key ≤ 999) ∨ (kind = 2 ∧ key ≤ 31) ∨ (kind = 3 ∧ 1 ≤ key ∧ key ≤ 63)) →
      exec (.jobDelete kind key) s = .next (s.act (answer .badArgument .nothing)))
  ∧ (∀ (start count : Nat) (values : List (Option Int)) (s : State), StartedUp s →
      count = 0 ∨ 29 < count ∨ 232 < start + count ∨ values.length ≠ count ∨ (∃ v : Int, some v ∈ values ∧ (v < -250 ∨ 250 < v)) →
      exec (.corrWrite start count values) s = .next (s.act (answer .badArgument .nothing)))
  ∧ (∀ (start count : Nat) (values : List (Option Int)) (s : State), StartedUp s →
      values.length = count → 1 ≤ count → count ≤ 29 → start + count ≤ 232 →
      (∀ v : Int, some v ∈ values → -250 ≤ v ∧ v ≤ 250) →
      exec (.corrWrite start count values) s = .next (s.act (open_ fun b =>
        match firstDifference ((List.range count).map fun i => currentPoint b.lib (start + i)) values with
        | none => answer .unchanged .nothing b
        | some i =>
          match programNext .corr (start + i) (encodeCorr (values.drop i)) b with
          | (c, .ok) =>
            answer .ok (.corrWritten (start + i) (count - i))
              (gaxTable (c.gax.table.take (start + i) ++ values.drop i ++ c.gax.table.drop (start + count)) c)
          | (c, st) => answer st .nothing c)))
  ∧ (∀ (table : List (Option Int)) (b : Blocks), gaxTable table b =
      if b.gax.table = table then b else raise .gauge { b with gax := { b.gax with table := table } })
  ∧ (∀ f : StockFigures,
      (StockFigures.inRange f = true ↔
        (-200 ≤ f.stretchA ∧ f.stretchA ≤ 200) ∧ (-200 ≤ f.stretchB ∧ f.stretchB ≤ 200) ∧ f.squeeze ≤ 500
        ∧ (50 ≤ f.clampPressure ∧ f.clampPressure ≤ 550) ∧ (10 ≤ f.jogTime ∧ f.jogTime ≤ 120)
        ∧ (20 ≤ f.jogPeriod ∧ f.jogPeriod ≤ 80 ∧ f.jogPeriod % 2 = 0) ∧ (20 ≤ f.jogDuty ∧ f.jogDuty ≤ 80)
        ∧ (1 ≤ f.jogGap ∧ f.jogGap ≤ 5))
      ∧ StockFigures.encode f = beBytes 2 f.stretchA ++ beBytes 2 f.stretchB ++ beBytes 2 f.squeeze
          ++ beBytes 2 f.clampPressure ++ beBytes 2 f.jogTime ++ beBytes 2 f.jogPeriod ++ beBytes 2 f.jogDuty
          ++ beBytes 2 f.jogGap
      ∧ (StockFigures.inRange f = true → decodeStock (StockFigures.encode f) = some f))
  ∧ (∀ values : List (Option Int), encodeCorr values = beBytes 4 values.length
      ++ (values.map fun v => match v with | none => [0x80, 0x00] | some x => beBytes 2 x).flatten)
  ∧ (∀ old new : List (Option Int), old.length = new.length →
      (firstDifference old new = none ↔ old = new)
      ∧ (∀ i, firstDifference old new = some i ↔
          i < old.length ∧ old[i]? ≠ new[i]? ∧ ∀ k < i, old[k]? = new[k]?))

/-- A record is placed by R180: the body of the current record gives UNCHANGED with nothing written, a sequence number
past 4,294,967,295 gives LIBRARY_FULL with notice LIBRARY, a record that fits is appended to the open section, enters the
index and takes the next sequence number, and one that does not fit, or finds no section open, begins the next erased
section, or with fewer than two of them gives LIBRARY_FULL; the open section is the begun one of highest order number, and
the next erased section is the first after it in section number order, going from 95 back to 0; a programming or a
beginning that fails closes the library, with the index and the next sequence number as they were, the staging discarded,
notice LIBRARY raised, and a deferred store of CKU failed with notice KNIFE (R128, R177, R180, R186). What a failed
programming or beginning leaves in its section is a free value (log 14). That with no section begun the first erased one
counted from 0 is begun, also where section 0 is bad, is the model's choice (log 83). -/
def Obligations.RecordPlaced : Prop :=
  let size (r : Rec) : Nat := 12 + (r.body.length + 3) / 4 * 4
  let leaves (flash : List Section) (i : Nat) (r : Rec) (left : List Section) : Prop :=
    left = flash ∨ ∃ x : Slot, (x = .valid r ∨ x = .torn ∨ x = .damaged (size r)) ∧ left = appendSlot flash i x
  let spoiled (left : List Section) (b : Blocks) : Blocks :=
    { b with freeIndex := b.freeIndex + 1, lib := { b.lib with flash := left } }
  (∀ (why : LibFailure) (b : Blocks),
      let closed : Blocks := raise .library { b with lib := { b.lib with
        state := .closed, work := none, staging := none, failure := some why, deadline := none, lastEvent := some .closed } }
      libClose why b = if b.cku.storeDeferred = true then
          raise .knife { closed with cku := { b.cku with storeDeferred := false, unstored := true } }
        else closed)
  ∧ (∀ (flash : List Section) (i : Nat) (x : Slot), appendSlot flash i x =
      flash.modify i fun c => match c with | .begun n slots => .begun n (slots ++ [x]) | c => c)
  ∧ ∀ (kind : RecKind) (key : Nat) (body : List Byte) (b : Blocks),
    (∀ r, currentRecord b.lib kind key = some r → r.body = body → placeRecord kind key body b = (b, .unchanged))
    ∧ ((∀ r, currentRecord b.lib kind key = some r → r.body ≠ body) →
        placeRecord kind key body b = programNext kind key body b)
    ∧ (4294967295 < b.lib.nextSeq →
        programNext kind key body b
          = (raise .library { b with lib := { b.lib with lastEvent := some .libraryFull } }, .libraryFull))
    ∧ (∀ i, b.lib.nextSeq ≤ 4294967295 → openSection b.lib.flash = some i → b.inputs.programFails = false →
        12 + (body.length + 3) / 4 * 4 ≤ 2032 - usedRoom (slotsAt b.lib.flash i) →
        programNext kind key body b = ({ b with lib := { reindex { b.lib with
          flash := appendSlot b.lib.flash i (.valid ⟨kind, key, b.lib.nextSeq, body⟩) } with
          nextSeq := b.lib.nextSeq + 1 } }, .ok))
    ∧ (b.lib.nextSeq ≤ 4294967295 →
        (∀ i, openSection b.lib.flash = some i → 2032 - usedRoom (slotsAt b.lib.flash i) < 12 + (body.length + 3) / 4 * 4) →
        (erasedCount b.lib.flash < 2 →
          programNext kind key body b
            = (raise .library { b with lib := { b.lib with lastEvent := some .libraryFull } }, .libraryFull))
        ∧ (∀ i, 2 ≤ erasedCount b.lib.flash → nextErased b.lib.flash = some i → highestOrder b.lib.flash < 4294967295 →
            b.inputs.beginFails = false → b.inputs.programFails = false →
            let begun : List Section := b.lib.flash.set i (.begun (highestOrder b.lib.flash + 1) [])
            programNext kind key body b = ({ b with lib := { reindex { b.lib with
              flash := appendSlot begun i (.valid ⟨kind, key, b.lib.nextSeq, body⟩) } with
              nextSeq := b.lib.nextSeq + 1 } }, .ok))
        ∧ (2 ≤ erasedCount b.lib.flash → nextErased b.lib.flash = none ∨ 4294967295 ≤ highestOrder b.lib.flash →
            programNext kind key body b = (libClose .beginSection b, .libraryClosed))
        ∧ (∀ i, 2 ≤ erasedCount b.lib.flash → nextErased b.lib.flash = some i → highestOrder b.lib.flash < 4294967295 →
            b.inputs.beginFails = true →
            ∃ c : Section, (c = .erased ∨ c = .bad ∨ c = .begun (highestOrder b.lib.flash + 1) [])
              ∧ programNext kind key body b
                  = (libClose .beginSection (spoiled (b.lib.flash.set i c) b), .libraryClosed))
        ∧ (∀ i, 2 ≤ erasedCount b.lib.flash → nextErased b.lib.flash = some i → highestOrder b.lib.flash < 4294967295 →
            b.inputs.beginFails = false → b.inputs.programFails = true →
            let begun : List Section := b.lib.flash.set i (.begun (highestOrder b.lib.flash + 1) [])
            ∃ left : List Section, leaves begun i ⟨kind, key, b.lib.nextSeq, body⟩ left
              ∧ programNext kind key body b = (libClose .program (spoiled left b), .libraryClosed)))
    ∧ (∀ i, b.lib.nextSeq ≤ 4294967295 → openSection b.lib.flash = some i → b.inputs.programFails = true →
        12 + (body.length + 3) / 4 * 4 ≤ 2032 - usedRoom (slotsAt b.lib.flash i) →
        ∃ left : List Section, leaves b.lib.flash i ⟨kind, key, b.lib.nextSeq, body⟩ left
          ∧ programNext kind key body b = (libClose .program (spoiled left b), .libraryClosed))
    ∧ (∀ flash : List Section,
        (∀ i, nextErased flash = some i → i < 96 ∧ flash[i]? = some .erased)
        ∧ (nextErased flash = none → ∀ i < 96, flash[i]? ≠ some .erased)
        ∧ (∀ i, openSection flash = some i → ∃ (n : Nat) (slots : List Slot), flash[i]? = some (.begun n slots) ∧ highestOrder flash = n
            ∧ ∀ (j m : Nat) (more : List Slot), flash[j]? = some (Section.begun m more) → m ≤ n)
        ∧ (openSection flash = none → highestOrder flash = 0 ∧ ∀ (j m : Nat) (more : List Slot), flash[j]? ≠ some (Section.begun m more))
        ∧ ∀ i, nextErased flash = some i →
            let first : Nat := match openSection flash with | some j => j + 1 | none => 0
            ∃ k < 96, i = (first + k) % 96 ∧ ∀ m < k, flash[(first + m) % 96]? ≠ some .erased)

/-- LIB_COMPACT and LIB_ERASE are judged by R181 and R186; a LIB_ERASE discards the staging and erases the sections one at
a time, 40 ms each, and at the last LIB is OPEN and empty with the next sequence number 1, GAX's table is all INVALID and
CKU stores its record; a compaction takes its sources in order, the bad sections and then the begun ones by rising order
number, each once, copies the live records of each and erases it, and at its end LIB is OPEN with the damaged count 0; a
programming or a beginning that fails closes the library and ends the copying; a failed erase closes it, with the index of
the valid records that are left, and leaves its section as it was, bad or erased (log 14), as a failed programming or
beginning leaves a free value; a library that closes discards the staging and fails CKU's deferred store; CKU's deferred
store is made when the library is no longer COMPACTING (R104, R128, R177, R179, R182, R185, R186). The order of the
sources (log 16), a knife record's bytes (log 15), the index made again from what is left at the end of each erase (log
17), the erase's failure read at that end (log 35), no notice GAUGE for a table that does not change (log 48), the spent
sections judged afresh after each erase (log 69), and a LIB_ERASE's order from section 0 up to 95 (log 84), are the
model's choices. -/
def Obligations.CompactionAndErase : Prop :=
  let open_ (closedToo : Bool) (f : Blocks → Blocks) (b : Blocks) : Blocks :=
    if b.inputs.locked then answer .locked .nothing b
    else if b.lib.state = .closed ∧ closedToo = false then answer .libraryClosed .nothing b
    else if b.lib.state = .compacting then answer .busy .nothing b
    else f b
  let emptied (b : Blocks) : Blocks := { b with lib := { b.lib with
    state := .opened, work := none, damaged := 0, failure := none, deadline := none,
    staging := b.lib.staging.map fun g => { g with since := b.clock } } }
  let erased (i : Nat) (d : Ms) (b : Blocks) : Blocks := { b with
    clock := max b.clock d,
    lib := { reindex { b.lib with flash := b.lib.flash.set i .erased } with deadline := none } }
  let event (e : LibEvent) (b : Blocks) : Blocks := raise .library { b with lib := { b.lib with lastEvent := some e } }
  let size (r : Rec) : Nat := 12 + (r.body.length + 3) / 4 * 4
  let leaves (flash : List Section) (i : Nat) (r : Rec) (left : List Section) : Prop :=
    left = flash ∨ ∃ x : Slot, (x = .valid r ∨ x = .torn ∨ x = .damaged (size r)) ∧ left = appendSlot flash i x
  let spoiled (left : List Section) (b : Blocks) : Blocks :=
    { b with freeIndex := b.freeIndex + 1, lib := { b.lib with flash := left } }
  (∀ (why : LibFailure) (b : Blocks),
      let closed : Blocks := raise .library { b with lib := { b.lib with
        state := .closed, work := none, staging := none, failure := some why, deadline := none, lastEvent := some .closed } }
      libClose why b = if b.cku.storeDeferred = true then
          raise .knife { closed with cku := { b.cku with storeDeferred := false, unstored := true } }
        else closed)
  ∧ (∀ b : Blocks, b.msu.phase ≠ .waitLibrary → libReady b = b)
  ∧ (∀ s : State, StartedUp s → exec .libCompact s = .next (s.act (open_ false fun b =>
      answer .accepted .nothing (beginCompaction b))))
  ∧ (∀ s : State, StartedUp s → exec .libErase s = .next (s.act (open_ true fun b =>
      if b.seq.state = .running then answer .refusedState .nothing b
      else
        answer .accepted .nothing { b with lib := { b.lib with
          state := .compacting, work := some (.eraseAll 0), staging := none, deadline := some (b.clock + 40) } })))
  ∧ (∀ (i : Nat) (d : Ms) (s : State), s.blocks.lib.work = some (.eraseAll i) → s.blocks.lib.deadline = some d →
      s.blocks.inputs.eraseFails = false → i + 1 < 96 →
      exec .sectionEraseDone s = .next (s.act fun b => { b with
        clock := max b.clock d,
        lib := { reindex { b.lib with flash := b.lib.flash.set i .erased } with
                 work := some (.eraseAll (i + 1)), deadline := some (max b.clock d + 40) } }))
  ∧ (∀ (d : Ms) (s : State), s.blocks.lib.work = some (.eraseAll 95) → s.blocks.lib.deadline = some d →
      s.blocks.inputs.eraseFails = false →
      exec .sectionEraseDone s = .next (s.act fun b =>
        let empty : Blocks := emptied (erased 95 d b)
        let fresh : Blocks := { empty with lib := { empty.lib with nextSeq := 1 }, gax := { b.gax with table := allInvalid } }
        let told : Blocks := if b.gax.table = allInvalid then fresh else raise .gauge fresh
        event .eraseEnded (ckuStore { told with cku := { b.cku with storeDeferred := false } })))
  ∧ (∀ l : Lib, (∀ c ∈ l.flash, c = Section.erased) →
      (reindex l).index = [] ∧ (reindex l).corrIndex = List.replicate 232 none)
  ∧ (∀ b : Blocks, ckuStore b = match b.lib.state with
      | .compacting => { b with cku := { b.cku with storeDeferred := true } }
      | .closed => raise .knife { b with cku := { b.cku with unstored := true } }
      | .opened =>
        match placeRecord .knife 0 b.cku.knife.encode b with
        | (c, .ok) => { c with cku := { c.cku with unstored := false, lastStored := c.cku.knife.C } }
        | (c, .unchanged) => { c with cku := { c.cku with unstored := false, lastStored := c.cku.knife.C } }
        | (c, _) => raise .knife { c with cku := { c.cku with unstored := true } })
  ∧ (∀ b : Blocks,
      let begun : Blocks := event .compactionBegun { b with lib := { b.lib with state := .compacting } }
      beginCompaction b = match compactionSources b.lib.flash with
        | [] => endCompaction begun
        | src :: rest => takeSource src rest none 0 (rest.length + 1) begun)
  ∧ (∀ (src done total : Nat) (rest : List Nat) (dest : Option Nat) (b : Blocks),
      let copied := copyLive (sectionRecords src 0 (slotsAt b.lib.flash src)) dest b
      takeSource src rest dest done total b =
        if copied.1.lib.state = .closed then libReady copied.1
        else { copied.1 with lib := { copied.1.lib with
          work := some (.compact src rest copied.2 done total), deadline := some (copied.1.clock + 40) } })
  ∧ (∀ (flash : List Section) (i : Nat), i ∈ compactionSources flash ↔
      flash[i]? = some .bad ∨ ∃ n slots, flash[i]? = some (.begun n slots))
  ∧ (∀ flash : List Section, ∃ begun : List Nat,
      compactionSources flash = ((List.range flash.length).filter fun i => decide (flash[i]? = some .bad)) ++ begun
        ∧ begun.Nodup ∧ (∀ i ∈ begun, flash[i]? ≠ some .bad)
        ∧ begun.Pairwise fun i j => ∀ (n m : Nat) (xs ys : List Slot),
            flash[i]? = some (.begun n xs) → flash[j]? = some (.begun m ys) → n ≤ m)
  ∧ (∀ (dest : Option Nat) (b : Blocks), copyLive [] dest b = (b, dest))
  ∧ (∀ (p : Place × Rec) (rest : List (Place × Rec)) (dest : Option Nat) (b : Blocks),
      (isLive b.lib p = false → copyLive (p :: rest) dest b = copyLive rest dest b)
      ∧ (isLive b.lib p = true →
          (∀ c i, copyRecord p.2 dest b = (c, some i) → copyLive (p :: rest) dest b = copyLive rest (some i) c)
          ∧ (∀ c, copyRecord p.2 dest b = (c, none) → copyLive (p :: rest) dest b = (c, none))))
  ∧ (∀ (l : Lib) (p : Place × Rec), isLive l p = true ↔
      (p.2.kind = .corr ∧ some p.1 ∈ l.corrIndex)
        ∨ (p.2.kind ≠ .corr ∧ ∃ e, (l.index.find? fun e => e.kind == p.2.kind && e.key == p.2.key) = some e
          ∧ e.place = p.1 ∧ (p.2.body ≠ [] ∨ ∃ q ∈ allRecords l.flash,
              q.1.sect ≠ p.1.sect ∧ q.2.kind = p.2.kind ∧ q.2.key = p.2.key)))
  ∧ (∀ (r : Rec) (dest : Option Nat) (i : Nat) (b : Blocks), b.inputs.programFails = false →
      (dest = some i ∧ 12 + (r.body.length + 3) / 4 * 4 ≤ 2032 - usedRoom (slotsAt b.lib.flash i)
        → copyRecord r dest b = ({ b with lib := reindex { b.lib with
            flash := appendSlot b.lib.flash i (.valid r) } }, some i))
      ∧ ((∀ j, dest = some j → 2032 - usedRoom (slotsAt b.lib.flash j) < 12 + (r.body.length + 3) / 4 * 4) →
          nextErased b.lib.flash = some i → highestOrder b.lib.flash < 4294967295 → b.inputs.beginFails = false →
          let begun : List Section := b.lib.flash.set i (.begun (highestOrder b.lib.flash + 1) [])
          copyRecord r dest b
            = ({ b with lib := reindex { b.lib with flash := appendSlot begun i (.valid r) } }, some i)))
  ∧ (∀ (r : Rec) (dest : Option Nat) (i : Nat) (b : Blocks), b.inputs.programFails = true → dest = some i →
      size r ≤ 2032 - usedRoom (slotsAt b.lib.flash i) →
      ∃ left : List Section, leaves b.lib.flash i r left ∧ copyRecord r dest b = (libClose .program (spoiled left b), none))
  ∧ (∀ (r : Rec) (dest : Option Nat) (b : Blocks),
      (∀ j, dest = some j → 2032 - usedRoom (slotsAt b.lib.flash j) < size r) →
      (nextErased b.lib.flash = none ∨ 4294967295 ≤ highestOrder b.lib.flash →
        copyRecord r dest b = (libClose .beginSection b, none))
      ∧ (∀ i, nextErased b.lib.flash = some i → highestOrder b.lib.flash < 4294967295 → b.inputs.beginFails = true →
        ∃ c : Section, (c = .erased ∨ c = .bad ∨ c = .begun (highestOrder b.lib.flash + 1) [])
          ∧ copyRecord r dest b = (libClose .beginSection (spoiled (b.lib.flash.set i c) b), none))
      ∧ (∀ i, nextErased b.lib.flash = some i → highestOrder b.lib.flash < 4294967295 → b.inputs.beginFails = false →
        b.inputs.programFails = true →
        let begun : List Section := b.lib.flash.set i (.begun (highestOrder b.lib.flash + 1) [])
        ∃ left : List Section, leaves begun i r left ∧ copyRecord r dest b = (libClose .program (spoiled left b), none)))
  ∧ (∀ (src done total : Nat) (dest : Option Nat) (d : Ms) (s : State),
      s.blocks.lib.deadline = some d → s.blocks.inputs.eraseFails = false →
      (s.blocks.lib.work = some (.compact src [] dest done total) →
        exec .sectionEraseDone s = .next (s.act fun b => endCompaction (erased src d b)))
      ∧ (∀ next rest, s.blocks.lib.work = some (.compact src (next :: rest) dest done total) →
        exec .sectionEraseDone s = .next (s.act fun b =>
          takeSource next rest dest (done + 1) total (erased src d b)))
      ∧ (∀ powerOn, s.blocks.lib.work = some (.spent src powerOn) →
        exec .sectionEraseDone s = .next (s.act fun b => eraseSpent powerOn (erased src d b))))
  ∧ (∀ b : Blocks, endCompaction b = libReady (event .compactionEnded (emptied b)))
  ∧ (∀ (w : LibWork) (d : Ms) (s : State), s.blocks.lib.work = some w → s.blocks.lib.deadline = some d →
      s.blocks.inputs.eraseFails = true →
      exec .sectionEraseDone s = .next (s.act fun b =>
        let left := spoilSection (eraseTarget w) { b with clock := max b.clock d }
        libReady (libClose .erase { left with lib := reindex left.lib })))
  ∧ (∀ (i : Nat) (b : Blocks), ∃ left : Section → Section, (∀ c, left c = c ∨ left c = .bad ∨ left c = .erased)
      ∧ spoilSection i b = { b with freeIndex := b.freeIndex + 1, lib := { b.lib with flash := b.lib.flash.modify i left } })
  ∧ (∀ r : KnifeRecord,
      r.encode = beBytes 2 r.k ++ beBytes 2 r.w ++ beBytes 4 r.C ++ beBytes 2 r.G ++ [0, 0]
      ∧ (-300 ≤ r.k → r.k ≤ 300 → r.w ≤ 20 → r.C ≤ 16777215 → r.G ≤ 15 → decodeKnife r.encode = some r))
  ∧ (∀ (w : LibWork) (d : Ms) (s : State), s.blocks.lib.work = some w → s.blocks.lib.deadline = some d → ∃ t : State,
      exec .sectionEraseDone s = .next t ∧ t.pending = s.pending ∧ s.blocks.clock ≤ t.blocks.clock ∧ d ≤ t.blocks.clock
      ∧ (s.blocks.inputs.eraseFails = true → t.blocks.lib.state = .closed ∧ t.blocks.lib.failure = some .erase
          ∧ t.blocks.lib.staging = none ∧ t.blocks.lnk.flags.library = true)
      ∧ (s.blocks.inputs.eraseFails = false → w = .eraseAll 95 →
          t.blocks.gax.table = allInvalid ∧ t.blocks.lnk.flags.library = true
            ∧ t.blocks.cku.storeDeferred = false))
  ∧ (∀ s : State, s.blocks.lib.work = none ∨ s.blocks.lib.deadline = none → exec .sectionEraseDone s = .next s)
  ∧ (∀ s : State, exec .deferredKnifeStore s = .next (s.act fun b =>
      if b.cku.storeDeferred = true ∧ b.lib.state ≠ .compacting then
        ckuStore { b with cku := { b.cku with storeDeferred := false } }
      else b))

/-! ## Line link -/

/-- A sound REQUEST frame taken while hunting, no byte of it more than 5 ms after the one before, joins the queue of fewer
than 4, and past 4 the refusal list; a frame whose check does not match is dropped with cause CHECK, and a length above 240
with cause LENGTH, and hunting resumes after its start byte; a sound frame of another kind is dropped with cause KIND, and
hunting resumes after it; a byte more than 5 ms late, the length byte or a later one, drops the frame with cause GAP and is
judged afresh (R188, R189, R194, R195). That a length byte both late and above 240 counts GAP is the model's choice (log
70). -/
def Obligations.FramesReceived : Prop :=
  (∀ (bytes : List RxByte) (s : State), exec (.frameReceived bytes) s = .next (s.act fun b =>
      { b with lnk := receive 0 (b.lnk.gathered ++ bytes) b.lnk }))
  ∧ (∀ (tag : Byte) (body : List Byte) (bytes : List RxByte) (s : State), s.blocks.lnk.gathered = [] → body.length ≤ 240 →
    let covered : List Byte := BitVec.ofNat 8 body.length :: 1 :: tag :: body
    let frame : List Byte := 0x7E :: covered ++ [((crc16 covered) >>> 8).setWidth 8, (crc16 covered).setWidth 8]
    bytes.map (·.byte) = frame → (∀ y ∈ bytes.tail, y.gapUs ≤ 5000) →
    exec (.frameReceived bytes) s = .next (s.act fun b =>
      let counted (c : LinkCounters) : LinkCounters := { c with requests := min 65535 (c.requests + 1) }
      if b.lnk.queue.length < 4 then
        { b with lnk := { b.lnk with queue := b.lnk.queue ++ [⟨tag, body, none⟩], counters := counted b.lnk.counters } }
      else if b.lnk.refusals.length < 4 then
        { b with lnk := { b.lnk with refusals := b.lnk.refusals ++ [⟨tag, body.headD 0⟩],
                                     counters := counted b.lnk.counters } }
      else
        { b with lnk := { b.lnk with counters := { b.lnk.counters with
            dropped := min 65535 (b.lnk.counters.dropped + 1), overrun := min 65535 (b.lnk.counters.overrun + 1) } } }))
  ∧ (∀ (length tag : Byte) (body : List Byte) (hi lo : Byte) (x : RxByte) (rest more : List RxByte) (l : Lnk),
      length.toNat = body.length → body.length ≤ 240 → x.byte = 0x7E →
      rest.map (·.byte) = length :: 1 :: tag :: body ++ [hi, lo] → (∀ y ∈ rest, y.gapUs ≤ 5000) →
      (crc16 (length :: 1 :: tag :: body)).toNat = hi.toNat * 256 + lo.toNat →
      receive 0 (x :: (rest ++ more)) l = receive 0 more
        (if l.queue.length < 4 then
          { l with queue := l.queue ++ [⟨tag, body, none⟩],
                   counters := { l.counters with requests := min 65535 (l.counters.requests + 1) } }
         else if l.refusals.length < 4 then
          { l with refusals := l.refusals ++ [⟨tag, body.headD 0⟩],
                   counters := { l.counters with requests := min 65535 (l.counters.requests + 1) } }
         else dropFrame .overrun l))
  ∧ (∀ (length kind tag : Byte) (body : List Byte) (hi lo : Byte) (x : RxByte) (rest more : List RxByte) (l : Lnk),
      length.toNat = body.length → body.length ≤ 240 → x.byte = 0x7E →
      rest.map (·.byte) = length :: kind :: tag :: body ++ [hi, lo] → (∀ y ∈ rest, y.gapUs ≤ 5000) →
      (crc16 (length :: kind :: tag :: body)).toNat ≠ hi.toNat * 256 + lo.toNat →
      receive 0 (x :: (rest ++ more)) l = receive 0 (rest ++ more) (dropFrame .check l))
  ∧ (∀ (x : RxByte) (rest : List RxByte) (l : Lnk), x.byte ≠ 0x7E → receive 0 (x :: rest) l = receive 0 rest l)
  ∧ (∀ (x first : RxByte) (rest : List RxByte) (l : Lnk), x.byte = 0x7E → first.gapUs ≤ 5000 → 240 < first.byte.toNat →
      receive 0 (x :: first :: rest) l = receive 0 (first :: rest) (dropFrame .length l))
  ∧ (∀ (x first : RxByte) (rest : List RxByte) (l : Lnk), x.byte = 0x7E → 5000 < first.gapUs →
      receive 0 (x :: first :: rest) l = receive 0 (first :: rest) (dropFrame .gap l))
  ∧ (∀ (x first late : RxByte) (middle rest : List RxByte) (l : Lnk), x.byte = 0x7E → first.gapUs ≤ 5000 →
      first.byte.toNat ≤ 240 → (∀ y ∈ middle, y.gapUs ≤ 5000) → middle.length < first.byte.toNat + 4 → 5000 < late.gapUs →
      receive 0 (x :: first :: (middle ++ late :: rest)) l = receive 0 (late :: rest) (dropFrame .gap l))
  ∧ (∀ (length kind tag : Byte) (body : List Byte) (hi lo : Byte) (x : RxByte) (rest more : List RxByte) (l : Lnk),
      length.toNat = body.length → body.length ≤ 240 → kind ≠ 1 → x.byte = 0x7E →
      rest.map (·.byte) = length :: kind :: tag :: body ++ [hi, lo] → (∀ y ∈ rest, y.gapUs ≤ 5000) →
      (crc16 (length :: kind :: tag :: body)).toNat = hi.toNat * 256 + lo.toNat →
      receive 0 (x :: (rest ++ more)) l = receive 0 more (dropFrame .kind l))
  ∧ (∀ (x : RxByte) (l : Lnk), x.byte = 0x7E → receive 0 [] l = { l with gathered := [] }
      ∧ receive 0 [x] l = { l with gathered := [x] }
      ∧ ∀ (first : RxByte) (rest : List RxByte), first.byte.toNat ≤ 240 → rest.length < first.byte.toNat + 4 →
          (∀ y ∈ first :: rest, y.gapUs ≤ 5000) →
          receive 0 (x :: first :: rest) l = { l with gathered := x :: first :: rest })
  ∧ (∀ (cause : DropCause) (l : Lnk), dropFrame cause l = { l with counters :=
      let one (n : Nat) : Nat := min 65535 (n + 1)
      let c := { l.counters with dropped := one l.counters.dropped }
      match cause with
      | .length => { c with length := one c.length }
      | .gap => { c with gap := one c.gap }
      | .check => { c with check := one c.check }
      | .kind => { c with kind := one c.kind }
      | .overrun => { c with overrun := one c.overrun } })

/-- The request at the head, not yet answered, is judged by R190: UNKNOWN_REQUEST for an empty body or a code outside the
table of R192, BUSY before start-up has ended but for CELL_STATUS 5 and LINK_STATUS 90, BAD_ARGUMENT for a body of another
length; otherwise, and for those two in start-up also, its owner's answer is its reply. The codes are those of the table of
R192, and each spells its request, its arguments high byte first, and a correction value of 8000 hex is INVALID. A RESTART
that comes as a frame is judged as R175 lays down; its reply is the last of the old session, so the link begins afresh only
when that has been sent, the model's choice (log 20). The widths of the arguments that R192 does not name, a lot count of four
bytes among them, are the model's choice (log 9). -/
def Obligations.RequestHandedOn : Prop :=
  (∀ p ∈ ([(2, .estopReset), (3, .restart), (5, .cellStatus), (11, .jobStart), (12, .jobHold), (13, .jobResume),
      (14, .jobAbort), (15, .continue_), (16, .runStatus), (17, .holdRead), (20, .blockStatus), (22, .frontCleared),
      (23, .blockClear), (30, .gaugeHome), (32, .gaugeStatus), (41, .knifeReturn), (43, .knifeStatus), (60, .liftLower),
      (61, .liftRaise), (62, .feedPause), (63, .feedResume), (65, .feedStatus), (79, .libStatus), (80, .libCompact),
      (81, .libErase), (90, .linkStatus)] : List (Nat × Instr)),
    readRequest p.1 [] = some p.2 ∧ ∀ x rest, readRequest p.1 (x :: rest) = none)
  ∧ (∀ x : Byte, readRequest 1 [x] = some (.modeSet x.toNat) ∧ readRequest 4 [x] = some (.unitReset x.toNat)
      ∧ readRequest 21 [x] = some (.piecesRead x.toNat) ∧ readRequest 24 [x] = some (.setOrientation x.toNat)
      ∧ readRequest 50 [x] = some (.turnManual x.toNat))
  ∧ (∀ (code : Nat) (args : List Byte), code ∈ [1, 4, 21, 24, 50] → args.length ≠ 1 → readRequest code args = none)
  ∧ (∀ a b c d e f g h : Byte,
      readRequest 10 [a, b, c, d, e, f, g, h] = some (.jobLoad (beNat [a, b]) (beNat [c, d, e, f]) (beNat [g, h]))
      ∧ readRequest 31 [a, b, c, d] = some (.gaugeJog (beInt [a, b, c, d]))
      ∧ readRequest 40 [a, b] = some (.manualCut (beNat [a, b]))
      ∧ readRequest 42 [a, b, c, d, e, f] = some (.knifeChanged (beInt [a, b]) (beNat [c, d]) (beNat [e, f]))
      ∧ readRequest 64 [a, b, c] = some (.sensorBaseline (beNat [a, b]) c.toNat)
      ∧ readRequest 70 [a, b, c, d, e] = some (.jobBegin a.toNat (beNat [b, c]) (beNat [d, e]))
      ∧ readRequest 72 [a, b] = some (.jobEnd (beNat [a, b]))
      ∧ readRequest 73 [a, b, c, d, e] = some (.jobRead a.toNat (beNat [b, c]) (beNat [d, e]))
      ∧ readRequest 74 [a, b, c] = some (.jobDelete a.toNat (beNat [b, c]))
      ∧ readRequest 76 [a, b] = some (.stockRead (beNat [a, b]))
      ∧ readRequest 78 [a, b, c, d] = some (.corrRead (beNat [a, b]) (beNat [c, d])))
  ∧ (∀ p ∈ ([(10, 8), (31, 4), (40, 2), (42, 6), (64, 3), (70, 5), (72, 2), (73, 5), (74, 3), (75, 18), (76, 2),
      (78, 4)] : List (Nat × Nat)), ∀ args : List Byte, args.length ≠ p.2 → readRequest p.1 args = none)
  ∧ (∀ (a b : Byte) (data : List Byte), readRequest 71 (a :: b :: data) =
      if data = [] then none else some (.jobPart (beNat [a, b]) data))
  ∧ (∀ (a b : Byte) (figures : List Byte), readRequest 75 (a :: b :: figures) =
      match decodeStock figures with | some f => some (.stockWrite (beNat [a, b]) f) | none => none)
  ∧ (∀ (a b c d : Byte) (values : List Byte), readRequest 77 (a :: b :: c :: d :: values) =
      if values.length = 2 * beNat [c, d] then
        some (.corrWrite (beNat [a, b]) (beNat [c, d]) (corrValuesOf values)) else none)
  ∧ (∀ (code : Nat) (args : List Byte), (code = 71 ∧ args.length < 2) ∨ (code = 77 ∧ args.length < 4) →
      readRequest code args = none)
  ∧ (∀ figures : List Byte, decodeStock figures = match figures with
      | [a, a', b, b', c, c', d, d', e, e', f, f', g, g', h, h'] =>
        some { stretchA := beInt [a, a'], stretchB := beInt [b, b'], squeeze := beNat [c, c'],
               clampPressure := beNat [d, d'], jogTime := beNat [e, e'], jogPeriod := beNat [f, f'],
               jogDuty := beNat [g, g'], jogGap := beNat [h, h'] }
      | _ => none)
  ∧ (corrValuesOf [] = [] ∧ ∀ (hi lo : Byte) (rest : List Byte), corrValuesOf [hi] = []
      ∧ corrValuesOf (hi :: lo :: rest) =
        (if hi = 0x80 ∧ lo = 0 then none else some (beInt [hi, lo])) :: corrValuesOf rest)
  ∧ (∀ b : Blocks, serve .restart b =
      if b.seq.state = .running then answer .refusedState .nothing b
      else
        let stopped := orderlyStop b
        answer .ok .nothing (startBlocks .restart { stopped with lnk := { stopped.lnk with restartReply := true } }))
  ∧ (∀ a b : Byte, beNat [a, b] = a.toNat * 256 + b.toNat
      ∧ beInt [a, b] = if a.toNat < 128 then (a.toNat * 256 + b.toNat : Int) else (a.toNat * 256 + b.toNat : Int) - 65536) ∧
  (∀ (tag : Byte) (body : List Byte) (rest : List Request) (s : State), s.blocks.lnk.queue = ⟨tag, body, none⟩ :: rest →
    exec .requestHandOn s = .next (s.act fun b =>
      let served := handBody body b
      { served with lnk := { served.lnk with queue := match served.lnk.queue with
          | r :: others => { r with reply := served.answer } :: others
          | [] => [] } }))
  ∧ (∀ s : State, (∀ tag body rest, s.blocks.lnk.queue ≠ ⟨tag, body, none⟩ :: rest) → exec .requestHandOn s = .next s)
  ∧ (∀ b : Blocks, handBody [] b = answer .unknownRequest .nothing b)
  ∧ (∀ code : Nat, code ∈ requestCodes ↔
      (1 ≤ code ∧ code ≤ 5) ∨ (10 ≤ code ∧ code ≤ 17) ∨ (20 ≤ code ∧ code ≤ 24) ∨ (30 ≤ code ∧ code ≤ 32)
        ∨ (40 ≤ code ∧ code ≤ 43) ∨ code = 50 ∨ (60 ≤ code ∧ code ≤ 65) ∨ (70 ≤ code ∧ code ≤ 81) ∨ code = 90)
  ∧ (∀ (code : Byte) (args : List Byte) (b : Blocks), code.toNat ∉ requestCodes →
      handBody (code :: args) b = answer .unknownRequest .nothing b)
  ∧ (∀ (code : Byte) (args : List Byte) (b : Blocks), code.toNat ∈ requestCodes → b.msu.phase ≠ .ended →
      code.toNat ≠ 5 → code.toNat ≠ 90 → handBody (code :: args) b = answer .busy .nothing b)
  ∧ (∀ b : Blocks, handBody [5] b = serve .cellStatus b ∧ handBody [90] b = serve .linkStatus b)
  ∧ (∀ (x : Byte) (rest : List Byte) (b : Blocks),
      handBody (5 :: x :: rest) b = answer .badArgument .nothing b ∧ handBody (90 :: x :: rest) b = answer .badArgument .nothing b)
  ∧ (∀ s : State, exec .cellStatus s = .next (s.act (serve .cellStatus)) ∧ exec .linkStatus s = .next (s.act (serve .linkStatus)))
  ∧ (∀ (code : Byte) (args : List Byte) (b : Blocks), code.toNat ∈ requestCodes → b.msu.phase = .ended →
      handBody (code :: args) b = match readRequest code.toNat args with
        | none => answer .badArgument .nothing b
        | some c => serve c b)
  ∧ (∀ c : Instr, c.isRequest = true → c ≠ .restart → ∀ s : State, StartedUp s → exec c s = .next (s.act (serve c)))

/-- The free transmitter sends by the order of R191: a QUEUE_FULL reply, the reply at the head, the notice of the pending kind
of lowest number, with the notice number rising to 255 and back to 0 (R193); a frame sent is counted, and a reply's request
leaves its place (R189, R194). That a frame is counted at its end, a QUEUE_FULL reply among the replies (log 22), and that the
end of a RESTART's reply begins the link afresh (log 20), and that a notice does not wait for the end of start-up (log 77),
are the model's choices. A notice carries the snapshot of its kind (R50, R69, R106, R130, R142, R155, R166, R176, R187, R193):
SEQUENCE in IDLE what the record without a job holds, CELL the whole status of TRN, and GAUGE before any move both marks clear
with no kind and no completion, the model's choices (log 61, log 78, log 87). A frame is its start, length, kind, tag, body
and check; a reply's body is the code, the status and the result, high byte first, in widths that R192 gives or the model
chooses, each field of each result and snapshot in the order of its rule and each name as its place in its list (R192, R193,
R195, log 8; a sequence number past the last, log 75). -/
def Obligations.TransmitterSends : Prop :=
  (∀ s : State, exec .transmitNextFrame s = .next (s.act fun b =>
      if b.lnk.tx ≠ none then b
      else
        match b.lnk.refusals, b.lnk.queue with
        | r :: rest, _ => { b with lnk := { b.lnk with refusals := rest, tx := some (.queueFull r) } }
        | [], ⟨tag, body, some a⟩ :: _ => { b with lnk := { b.lnk with tx := some (.reply tag (body.headD 0) a) } }
        | [], _ =>
          let f := b.lnk.flags
          let kind : Option NoticeKind :=
            if f.cell then some .cell else if f.sequence then some .sequence else if f.hold then some .hold
            else if f.front then some .front else if f.feed then some .feed else if f.gauge then some .gauge
            else if f.knife then some .knife else if f.library then some .library else none
          match kind with
          | none => b
          | some k => { b with lnk := { b.lnk with
              flags := f.set k false, tx := some (.notice b.lnk.noticeNumber (noticeSnapshot k b)),
              noticeNumber := (b.lnk.noticeNumber + 1) % 256 } }))
  ∧ (∀ s : State, exec .frameSent s = .next (s.act fun b =>
      match b.lnk.tx with
      | none => b
      | some (.queueFull _) => { b with lnk := { b.lnk with
          tx := none, counters := { b.lnk.counters with replies := min 65535 (b.lnk.counters.replies + 1) } } }
      | some (.notice _ _) => { b with lnk := { b.lnk with
          tx := none, counters := { b.lnk.counters with notices := min 65535 (b.lnk.counters.notices + 1) } } }
      | some (.reply _ _ _) =>
        if b.lnk.restartReply then { b with lnk := Lnk.atReset }
        else { b with lnk := { b.lnk with
          tx := none, queue := b.lnk.queue.tail,
          counters := { b.lnk.counters with replies := min 65535 (b.lnk.counters.replies + 1) } } }))
  ∧ (∀ b : Blocks,
      noticeSnapshot .cell b = .cell b.msu.mode b.msu.estop b.inputs.permitKey b.inputs.locked b.inputs.guardClosed b.msu.cause
        { state := b.trn.state, fault := b.trn.fault, armsOpen := b.inputs.armsOpen, gripClosed := b.inputs.gripClosed,
          quarter := b.inputs.quarter, pending := b.trn.pending, record := b.trn.record, lastTurn := b.trn.lastTurn }
      ∧ noticeSnapshot .sequence b = .sequence b.seq.state b.seq.run.job b.seq.run.lot b.seq.run.finished b.seq.run.loc
        b.seq.run.phase b.seq.run.wait b.seq.run.operatorCode
      ∧ noticeSnapshot .hold b = .hold b.seq.state b.seq.hold
      ∧ noticeSnapshot .front b = .front b.trk.queue.length (b.trk.queue.getLast?.map fun p => (p.load, p.number))
        b.trk.clearPending b.trk.made b.trk.delivered b.trk.trims
      ∧ noticeSnapshot .feed b = .feed b.lft.state b.lft.fault b.lft.height b.lft.partedOff b.lft.feedPaused b.jog.state
        b.jog.fault b.jog.retries b.jog.transferred
      ∧ noticeSnapshot .gauge b = .gauge b.gax.state b.gax.fault b.gax.referenced b.gax.inPosition b.gax.drive (gaxPosition b)
        (match b.gax.move with | some m => m.uncorrected | none => false)
        (match b.gax.move with | some m => m.clamped | none => false)
        (match b.gax.move with | some m => some m.kind | none => none)
        (match b.gax.move with | some m => m.completed | none => none) (invalidPoints b.gax.table)
      ∧ noticeSnapshot .knife b = .knife b.cku.state b.cku.fault b.inputs.upperStop b.inputs.tdc b.cku.flap b.cku.knife.C
        (min 400 (b.cku.knife.C * b.cku.knife.w / 1000)) b.cku.wearCap b.cku.unstored b.cku.lastManual
      ∧ noticeSnapshot .library b = .library b.lib.state
        (b.lib.flash.filter fun c => decide (c = Section.erased)).length
        (b.lib.flash.filter fun c => decide (c ≠ Section.erased)).length b.lib.damaged b.lib.staging.isSome b.lib.lastEvent)
  ∧ (∀ (table : List (Option Int)), table.length = 232 →
      invalidPoints table = ((List.range 232).filter fun j => decide (4 ≤ j ∧ j ≤ 230 ∧ table[j]? = some none)).length)
  ∧ (∀ (tag code : Byte) (a : Answer) (n : Nat) (d : NoticeData) (r : Refused),
      let frame (kind : Byte) (tag : Byte) (body : List Byte) : List Byte :=
        let covered : List Byte := BitVec.ofNat 8 body.length :: kind :: tag :: body
        0x7E :: covered ++ [((crc16 covered) >>> 8).setWidth 8, (crc16 covered).setWidth 8]
      sentFrame (.reply tag code a) = frame 2 tag (code :: BitVec.ofNat 8 a.status.code :: a.result.bytes)
      ∧ sentFrame (.queueFull r) = frame 2 r.tag [r.code, 14]
      ∧ sentFrame (.notice n d) = frame 3 (BitVec.ofNat 8 n) (BitVec.ofNat 8 d.kind.number :: d.bytes))
  ∧ (∀ (k : NoticeKind) (b : Blocks), (noticeSnapshot k b).kind = k ∧ k.number = match k with
      | .cell => 1 | .sequence => 2 | .hold => 3 | .front => 4 | .feed => 5 | .gauge => 6 | .knife => 7 | .library => 8)
  ∧ ([Status.ok, .accepted, .unchanged, .badArgument, .unknownRequest, .refusedMode, .refusedState, .notFound, .invalidProgram,
      .locked, .libraryFull, .libraryClosed, .busy, .tooSoon, .queueFull, .noBaseline].map Status.code = List.range 16)
  ∧ (∀ (len : Nat) (x : Int), (beBytes len x).length = len
      ∧ (0 ≤ x → x < 256 ^ len → (beNat (beBytes len x) : Int) = x)
      ∧ (0 < len → -(2 ^ (8 * len - 1)) ≤ x → x < 2 ^ (8 * len - 1) → beInt (beBytes len x) = x))
  ∧ (let m (v : Bool) : List Byte := [if v then 1 else 0]
     let p (i : Nat) : List Byte := [BitVec.ofNat 8 (i + 1)]
     let n1 (x : Int) : List Byte := beBytes 1 x
     let n2 (x : Int) : List Byte := beBytes 2 x
     let n4 (x : Int) : List Byte := beBytes 4 x
     let name : Option Nat → List Byte := fun o => match o with | none => [0] | some i => p i
     let opt {α : Type} (f : α → List Byte) (o : Option α) : List Byte := match o with | none => m false | some x => m true ++ f x
     let prog (q : ProgId) : List Byte := match q with | .main => p 0 ++ n2 0 | .sub n => p 1 ++ n2 n
     let loc (l : Loc) : List Byte := prog l.prog ++ n1 l.index
     let run (r : Running) : List Byte :=
       n2 r.job ++ n4 r.lot ++ n2 r.stock ++ n4 r.finished ++ loc r.loc ++ p r.phase.ctorIdx ++ n4 r.cutsLeft ++ n1 r.quartersLeft
         ++ p r.wait.ctorIdx ++ n4 r.mainBase ++ opt (fun x : Nat => n2 x) r.override ++ opt (fun x : Nat => n1 x) r.operatorCode
     let frame (f : Frame) : List Byte :=
       prog f.caller ++ n1 f.retIndex ++ n2 f.sub ++ n4 f.repeats ++ n4 f.base ++ opt (fun x : Nat => n2 x) f.saved
     let hold (h : HoldRecord) : List Byte :=
       name (h.cause.map (·.ctorIdx)) ++ m h.more ++ opt loc h.loc ++ p h.phase.ctorIdx ++ n4 h.depth ++ n4 h.holds
     let block (k : Block) : List Byte :=
       n4 k.portion ++ n4 k.nomDepth ++ n4 k.nomWidth ++ n4 k.strDepth ++ n4 k.strWidth ++ n2 k.height
         ++ opt (fun x : Nat => n1 x) k.orientation ++ p k.axis.ctorIdx
         ++ (m k.edges.head ++ m k.edges.foot ++ m k.edges.left ++ m k.edges.right) ++ m k.partialCut
     let piece (c : Piece) : List Byte :=
       n4 c.load ++ n4 c.number ++ n4 c.portion ++ opt loc c.loc ++ n4 c.nomWidth ++ n4 c.strWidth ++ n4 c.nomLength
         ++ n4 c.strLength ++ n2 c.height ++ opt (fun x : Nat => n1 x) c.orientation ++ p c.kind.ctorIdx
     let move (v : MoveRecord) : List Byte :=
       p v.kind.ctorIdx ++ p v.asker.ctorIdx ++ n4 v.target ++ n2 v.corr ++ m v.uncorrected ++ n4 v.encoderTarget ++ n4 v.countTarget
         ++ m v.clamped ++ p v.approach.ctorIdx ++ opt (fun o => n4 o.pos ++ n4 o.count) v.overshoot ++ p v.leg.ctorIdx
         ++ n4 v.start ++ n4 v.moveTime ++ opt m v.completed
     let cycle (c : Cycle) : List Byte :=
       p c.asker.ctorIdx ++ n2 c.target ++ m c.waste ++ m c.armed ++ m c.restAsked ++ name (c.lastReversal.map (·.ctorIdx))
         ++ opt n4 c.knifeTerm ++ m c.bdcTaken
     let last (l : LastTurn) : List Byte := n1 l.done ++ p l.ended.ctorIdx
     let turner (u : TurnerStatus) : List Byte :=
       p u.state.ctorIdx ++ name (u.fault.map (·.ctorIdx)) ++ m u.armsOpen ++ m u.gripClosed ++ m u.quarter
         ++ opt (fun x : Nat => n1 x) u.pending
         ++ opt (fun w => p w.asker.ctorIdx ++ n1 w.requested ++ n1 w.done ++ m w.restAsked) u.record ++ opt last u.lastTurn
     let jogger (j : JoggerStatus) : List Byte :=
       p j.state.ctorIdx ++ name (j.fault.map (·.ctorIdx))
         ++ (m j.entry ++ m j.frontStop ++ m j.sideStop ++ m j.carriageHome ++ m j.backTable) ++ n4 j.retries ++ m j.repeatWaiting
         ++ opt (fun c => m c.front ++ m c.side) j.lastCheck
         ++ opt (fun w => n2 w.jogTime ++ n2 w.period ++ n2 w.duty ++ n2 w.gap ++ n4 w.onTime ++ n4 w.periods) j.record
         ++ n4 j.transferred ++ m j.mayTransfer ++ name (j.transferRefusal.map (·.ctorIdx))
     let flags (f : Flags) : List Byte :=
       m f.cell ++ m f.sequence ++ m f.hold ++ m f.front ++ m f.feed ++ m f.gauge ++ m f.knife ++ m f.library
     (∀ d : CellStatusData, (Result.cell d).bytes =
        p d.mode.ctorIdx ++ p d.estop.ctorIdx ++ p d.permitKey.ctorIdx ++ m d.locked ++ m d.curtainClear ++ m d.guardClosed
          ++ opt (fun q => m q.1 ++ m q.2) d.buttons
          ++ (opt (fun x : Nat => n4 x) d.coolDowns.gax ++ opt (fun x : Nat => n4 x) d.coolDowns.cku ++ opt (fun x : Nat => n4 x) d.coolDowns.trn
            ++ opt (fun x : Nat => n4 x) d.coolDowns.lft ++ opt (fun x : Nat => n4 x) d.coolDowns.jog)
          ++ p d.cause.ctorIdx ++ m d.startupEnded ++ turner d.turner)
     ∧ (∀ d : RunStatusData, (Result.run d).bytes = p d.state.ctorIdx ++ (match d.record with
          | none => []
          | some (r, stack) => run r ++ n4 stack.length ++ (stack.map frame).flatten))
     ∧ (∀ h : HoldRecord, (Result.hold h).bytes = hold h)
     ∧ (∀ d : BlockStatusData, (Result.block d).bytes =
        opt block d.block ++ m d.unknown ++ m d.sensor ++ name (d.notReady.map (·.ctorIdx)) ++ n4 d.queueLength
          ++ m d.clearPending ++ n4 d.made ++ n4 d.delivered ++ n4 d.trims)
     ∧ (∀ (length : Nat) (shown : List Piece), (Result.pieces length shown).bytes = n4 length ++ (shown.map piece).flatten)
     ∧ (∀ d : GaugeStatusData, (Result.gauge d).bytes =
        p d.state.ctorIdx ++ name (d.homing.map (·.ctorIdx)) ++ name (d.fault.map (·.ctorIdx)) ++ m d.referenced ++ m d.inPosition
          ++ m d.drive ++ n4 d.encoder ++ opt n4 d.position ++ opt n4 d.start
          ++ opt (fun q => p q.kind.ctorIdx ++ n4 q.target) d.pending ++ opt move d.move ++ n4 d.invalidPoints)
     ∧ (∀ d : KnifeStatusData, (Result.knife d).bytes =
        p d.state.ctorIdx ++ name (d.fault.map (·.ctorIdx)) ++ opt m d.contactDetail ++ m d.upperStop ++ m d.tdc ++ m d.bdc
          ++ p d.flap.ctorIdx ++ opt (fun x : Nat => n2 x) d.sample ++ m d.contact ++ opt cycle d.cycle ++ m d.leftHeld ++ m d.rightHeld
          ++ m d.rearmed ++ (n2 d.knife.k ++ n2 d.knife.w ++ n4 d.knife.C ++ n2 d.knife.G) ++ n4 d.wearPart ++ n4 d.knifeTerm
          ++ m d.wearCap ++ n4 d.lastStored ++ m d.unstored ++ m d.storeDeferred)
     ∧ (∀ d : FeedStatusData, (Result.feed d).bytes =
        p d.state.ctorIdx ++ name (d.fault.map (·.ctorIdx)) ++ opt (fun x : Nat => n2 x) d.height ++ m d.lowerLimit ++ m d.topLimit
          ++ m d.bladeHome ++ m d.pusherHome ++ n4 d.baseline ++ n2 d.window ++ n1 d.depth ++ opt (fun x : Nat => n4 x) d.latest
          ++ p d.judgement.ctorIdx ++ m d.baselinePending ++ n4 d.partedOff ++ opt (fun x : Nat => n4 x) d.lot ++ m d.feedPaused
          ++ m d.mayPart ++ name (d.partRefusal.map (·.ctorIdx)) ++ jogger d.jogger)
     ∧ (∀ d : LibStatusData, (Result.library d).bytes =
        p d.state.ctorIdx ++ opt (fun w => p w.name.ctorIdx ++ n4 w.sourcesDone ++ n4 w.total) d.work
          ++ n4 d.erased ++ n4 d.inUse ++ n4 d.bad ++ n2 d.room ++ n4 d.nextSeq ++ n4 d.damaged
          ++ opt (fun g => p g.kind.ctorIdx ++ n2 g.key ++ n2 g.declared ++ n2 g.received ++ n4 g.timeLeft) d.staging
          ++ m d.locked ++ name (d.failure.map (·.ctorIdx)))
     ∧ (∀ d : LinkStatusData, (Result.link d).bytes =
        n4 d.counters.dropped ++ n4 d.counters.length ++ n4 d.counters.gap ++ n4 d.counters.check ++ n4 d.counters.kind
          ++ n4 d.counters.overrun ++ n4 d.counters.requests ++ n4 d.counters.replies ++ n4 d.counters.notices
          ++ n4 d.queue ++ n4 d.refusals ++ flags d.flags ++ n1 d.nextNotice)
     ∧ (Result.nothing.bytes = [] ∧ Result.transferCheck.bytes = p 0)
     ∧ (∀ a : AutoRefusal, (Result.autoRefusal a).bytes = p a.ctorIdx)
     ∧ (∀ (kind : RecKind) (key seq : Nat) (f : Option CheckFailure),
        (Result.failingRecord kind key f).bytes =
            p kind.ctorIdx ++ n2 key ++ opt (fun c => p c.code.ctorIdx ++ opt (fun x : Nat => n1 x) c.step) f
          ∧ (Result.written kind key seq).bytes = p kind.ctorIdx ++ n2 key ++ n4 seq
          ∧ (Result.same kind key).bytes = p kind.ctorIdx ++ n2 key)
     ∧ (∀ (n seq length : Nat) (body : List Byte),
        (Result.pressure n).bytes = n2 n ∧ (Result.received n).bytes = n2 n
          ∧ (Result.body seq length body).bytes = n4 seq ++ n2 length ++ body
          ∧ (Result.corrWritten n length).bytes = n2 n ++ n2 length)
     ∧ (∀ (f : StockFigures) (seq : Nat), (Result.stock f seq).bytes =
        n2 f.stretchA ++ n2 f.stretchB ++ n2 f.squeeze ++ n2 f.clampPressure ++ n2 f.jogTime ++ n2 f.jogPeriod ++ n2 f.jogDuty
          ++ n2 f.jogGap ++ n4 seq)
     ∧ (∀ (target count : Int) (approach : Approach) (clamped uncorrected : Bool),
        (Result.jog target count approach clamped uncorrected).bytes =
          n4 target ++ n4 count ++ p approach.ctorIdx ++ m clamped ++ m uncorrected)
     ∧ (∀ values : List (Option Int), (Result.corrValues values).bytes
        = (values.map fun v => match v with | none => [0x80, 0x00] | some x => n2 x).flatten)
     ∧ (∀ (mode : CellMode) (estop : EstopState) (key : PermitKey) (locked guard : Bool) (cause : StartupCause) (u : TurnerStatus),
        (NoticeData.cell mode estop key locked guard cause u).bytes =
          p mode.ctorIdx ++ p estop.ctorIdx ++ p key.ctorIdx ++ m locked ++ m guard ++ p cause.ctorIdx ++ turner u)
     ∧ (∀ (state : SeqState) (job lot finished : Nat) (l : Loc) (phase : Phase) (wait : WaitReason) (code : Option Nat),
        (NoticeData.sequence state job lot finished l phase wait code).bytes =
          p state.ctorIdx ++ n2 job ++ n4 lot ++ n4 finished ++ loc l ++ p phase.ctorIdx ++ p wait.ctorIdx ++ opt (fun x : Nat => n1 x) code)
     ∧ (∀ (state : SeqState) (h : HoldRecord), (NoticeData.hold state h).bytes = p state.ctorIdx ++ hold h)
     ∧ (∀ (length made delivered trims : Nat) (newest : Option (Nat × Nat)) (clear : Bool),
        (NoticeData.front length newest clear made delivered trims).bytes =
          n4 length ++ opt (fun q => n4 q.1 ++ n4 q.2) newest ++ m clear ++ n4 made ++ n4 delivered ++ n4 trims)
     ∧ (∀ (lift : LftState) (fault : Option LftFault) (height : Option Nat) (parted retries transferred : Nat) (paused : Bool)
          (jog : JogState) (jogFault : Option JogFault),
        (NoticeData.feed lift fault height parted paused jog jogFault retries transferred).bytes =
          p lift.ctorIdx ++ name (fault.map (·.ctorIdx)) ++ opt (fun x : Nat => n2 x) height ++ n4 parted ++ m paused ++ p jog.ctorIdx
            ++ name (jogFault.map (·.ctorIdx)) ++ n4 retries ++ n4 transferred)
     ∧ (∀ (state : GaxState) (fault : Option GaxFault) (referenced inPosition drive uncorrected clamped : Bool)
          (position : Option Um) (kind : Option MoveKind) (completed : Option Bool) (invalid : Nat),
        (NoticeData.gauge state fault referenced inPosition drive position uncorrected clamped kind completed invalid).bytes =
          p state.ctorIdx ++ name (fault.map (·.ctorIdx)) ++ m referenced ++ m inPosition ++ m drive ++ opt n4 position
            ++ m uncorrected ++ m clamped ++ name (kind.map (·.ctorIdx)) ++ opt m completed ++ n4 invalid)
     ∧ (∀ (state : CycleState) (fault : Option CkuFault) (up tdc cap unstored : Bool) (flap : FlapState) (cuts wear : Nat)
          (outcome : Option Bool),
        (NoticeData.knife state fault up tdc flap cuts wear cap unstored outcome).bytes =
          p state.ctorIdx ++ name (fault.map (·.ctorIdx)) ++ m up ++ m tdc ++ p flap.ctorIdx ++ n4 cuts ++ n4 wear ++ m cap
            ++ m unstored ++ opt m outcome)
     ∧ (∀ (state : LibState) (erased inUse damaged : Nat) (staging : Bool) (event : Option LibEvent),
        (NoticeData.library state erased inUse damaged staging event).bytes =
          p state.ctorIdx ++ n4 erased ++ n4 inUse ++ n4 damaged ++ m staging ++ name (event.map (·.ctorIdx))))
  ∧ ([CellMode.standby, .setup, .auto].map (·.ctorIdx) = List.range 3
    ∧ [EstopState.chainOk, .stopped, .readyToReset].map (·.ctorIdx) = List.range 3
    ∧ [PermitKey.twoHand, .guardedAuto].map (·.ctorIdx) = List.range 2
    ∧ [StartupCause.powerOn, .restart].map (·.ctorIdx) = List.range 2
    ∧ [SeqState.idle, .loaded, .running, .held, .finished].map (·.ctorIdx) = List.range 5
    ∧ [Phase.none, .compute, .position, .clamp, .flapOpen, .permit, .stroke, .returning, .release, .flapClose, .clearance, .turn,
        .push, .load].map (·.ctorIdx) = List.range 14
    ∧ [WaitReason.none, .portion, .frontClear, .permit, .operator, .unit].map (·.ctorIdx) = List.range 6
    ∧ [HoldCause.operatorHold, .permitChanged, .estop, .lightCurtain, .guardOpen, .gaugeFault, .knifeFault, .turnerFault,
        .dimensionRange, .orientationUnknown, .stackLimit, .blockNotEjected, .ejectNoBlock, .turnEnvelope].map (·.ctorIdx)
        = List.range 14
    ∧ [AutoRefusal.notReferenced, .knifeOffTdc, .clampDown, .knifeReturnNeeded, .chainOpen].map (·.ctorIdx) = List.range 5)
  ∧ ([DepthAxis.headFoot, .leftRight].map (·.ctorIdx) = List.range 2 ∧ [PieceKind.strip, .last].map (·.ctorIdx) = List.range 2
    ∧ [NotReady.blockPresent, .blockUnknown, .noJob, .oversize].map (·.ctorIdx) = List.range 4
    ∧ [GaxState.unreferenced, .homing, .standstill, .moving, .settling, .fault].map (·.ctorIdx) = List.range 6
    ∧ [HomingPhase.clear, .seek, .final].map (·.ctorIdx) = List.range 3
    ∧ [MoveKind.cut, .clearance, .load, .push, .homeFinal, .jog].map (·.ctorIdx) = List.range 6
    ∧ [MoveAsker.seq, .terminal, .homing].map (·.ctorIdx) = List.range 3
    ∧ [Approach.direct, .forward, .rearward].map (·.ctorIdx) = List.range 3
    ∧ [Leg.overshoot, .final].map (·.ctorIdx) = List.range 2
    ∧ [GaxFault.moveTimeout, .settleTimeout, .limitSwitch, .driveFault].map (·.ctorIdx) = List.range 4
    ∧ [CycleState.open_, .clamping, .clamped, .stroking, .gap, .returning, .releasing, .fault, .knifeReturnNeeded].map (·.ctorIdx)
        = List.range 9
    ∧ [CutAsker.seq, .manual].map (·.ctorIdx) = List.range 2
    ∧ [ReversalCause.twoHandRelease, .curtain, .pressure, .strokeTime, .rest, .estop].map (·.ctorIdx) = List.range 6
    ∧ [CkuFault.clampTimeout, .pressureLost, .strokeTimeout, .returnTimeout, .releaseTimeout, .flapTimeout, .knifeCreep,
        .clampCreep].map (·.ctorIdx) = List.range 8
    ∧ [FlapState.closed, .opening, .opened, .closing].map (·.ctorIdx) = List.range 4)
  ∧ ([TrnState.parked, .gripping, .turning, .releasing, .fault].map (·.ctorIdx) = List.range 5
    ∧ [TurnAsker.seq, .terminal].map (·.ctorIdx) = List.range 2
    ∧ [TrnFault.gripTimeout, .turnTimeout, .releaseTimeout, .interlockLost, .chainOpened, .positionLost].map (·.ctorIdx)
        = List.range 6
    ∧ [LftState.lowered, .raising, .atLevel, .parting, .empty, .lowering, .fault].map (·.ctorIdx) = List.range 7
    ∧ [Judgement.faultCount, .present, .absent, .notJudged].map (·.ctorIdx) = List.range 4
    ∧ [LftFault.positionUnknown, .levelSensor, .partTimeout, .chainOpened].map (·.ctorIdx) = List.range 4
    ∧ [PartRefusal.jobNotRunning, .feedPaused, .joggerOccupied, .lotParted, .chainOpen, .gearNotAtRest].map (·.ctorIdx)
        = List.range 6
    ∧ [JogState.empty, .receiving, .jogging, .aligned, .transferring, .fault].map (·.ctorIdx) = List.range 6
    ∧ [JogFault.tableOccupied, .strayPortion, .portionLost, .jogMisaligned, .transferTimeout, .carriageTimeout, .interlockLost,
        .chainOpened].map (·.ctorIdx) = List.range 8
    ∧ [TransferRefusal.tableNotReady, .notWaitingPortion, .gaugeNotAtLoad, .clampDown, .turnerNotParked, .chainOpen].map
        (·.ctorIdx) = List.range 6
    ∧ [LibState.opened, .compacting, .closed].map (·.ctorIdx) = List.range 3
    ∧ [WorkName.compact, .erase].map (·.ctorIdx) = List.range 2
    ∧ [RecKind.job, .sub, .stock, .knife, .corr].map (·.ctorIdx) = List.range 5
    ∧ [LibFailure.program, .beginSection, .erase].map (·.ctorIdx) = List.range 3
    ∧ [LibEvent.libraryFull, .stagingLapse, .closed, .compactionBegun, .compactionEnded, .eraseEnded].map (·.ctorIdx)
        = List.range 6
    ∧ [CheckCode.length, .stepCount, .headerRange, .kind, .fieldRange, .repeatMode, .returnInMain, .endInSub, .endMisplaced,
        .skipLast, .skipTerminator, .noTerminator].map (·.ctorIdx) = List.range 12)
end

