-- ==== Sys2Proof/Laws/State.lean ====
section
/-! SUPPORT. What each update leaves of each field: one lemma per update and field, true by rfl. -/

set_option Elab.async false

namespace Sys2Proof.Machine

open Sys2Proof

@[simp] theorem inputs_setMsu (f) (b : Blocks) : (setMsu f b).inputs = b.inputs := rfl
@[simp] theorem msu_setMsu (f) (b : Blocks) : (setMsu f b).msu = f b.msu := rfl
@[simp] theorem seq_setMsu (f) (b : Blocks) : (setMsu f b).seq = b.seq := rfl
@[simp] theorem trk_setMsu (f) (b : Blocks) : (setMsu f b).trk = b.trk := rfl
@[simp] theorem gax_setMsu (f) (b : Blocks) : (setMsu f b).gax = b.gax := rfl
@[simp] theorem cku_setMsu (f) (b : Blocks) : (setMsu f b).cku = b.cku := rfl
@[simp] theorem trn_setMsu (f) (b : Blocks) : (setMsu f b).trn = b.trn := rfl
@[simp] theorem lft_setMsu (f) (b : Blocks) : (setMsu f b).lft = b.lft := rfl
@[simp] theorem jog_setMsu (f) (b : Blocks) : (setMsu f b).jog = b.jog := rfl
@[simp] theorem lib_setMsu (f) (b : Blocks) : (setMsu f b).lib = b.lib := rfl
@[simp] theorem lnk_setMsu (f) (b : Blocks) : (setMsu f b).lnk = b.lnk := rfl
@[simp] theorem clock_setMsu (f) (b : Blocks) : (setMsu f b).clock = b.clock := rfl
@[simp] theorem answer_setMsu (f) (b : Blocks) : (setMsu f b).answer = b.answer := rfl
@[simp] theorem freeIndex_setMsu (f) (b : Blocks) : (setMsu f b).freeIndex = b.freeIndex := rfl

@[simp] theorem inputs_setSeq (f) (b : Blocks) : (setSeq f b).inputs = b.inputs := rfl
@[simp] theorem msu_setSeq (f) (b : Blocks) : (setSeq f b).msu = b.msu := rfl
@[simp] theorem seq_setSeq (f) (b : Blocks) : (setSeq f b).seq = f b.seq := rfl
@[simp] theorem trk_setSeq (f) (b : Blocks) : (setSeq f b).trk = b.trk := rfl
@[simp] theorem gax_setSeq (f) (b : Blocks) : (setSeq f b).gax = b.gax := rfl
@[simp] theorem cku_setSeq (f) (b : Blocks) : (setSeq f b).cku = b.cku := rfl
@[simp] theorem trn_setSeq (f) (b : Blocks) : (setSeq f b).trn = b.trn := rfl
@[simp] theorem lft_setSeq (f) (b : Blocks) : (setSeq f b).lft = b.lft := rfl
@[simp] theorem jog_setSeq (f) (b : Blocks) : (setSeq f b).jog = b.jog := rfl
@[simp] theorem lib_setSeq (f) (b : Blocks) : (setSeq f b).lib = b.lib := rfl
@[simp] theorem lnk_setSeq (f) (b : Blocks) : (setSeq f b).lnk = b.lnk := rfl
@[simp] theorem clock_setSeq (f) (b : Blocks) : (setSeq f b).clock = b.clock := rfl
@[simp] theorem answer_setSeq (f) (b : Blocks) : (setSeq f b).answer = b.answer := rfl
@[simp] theorem freeIndex_setSeq (f) (b : Blocks) : (setSeq f b).freeIndex = b.freeIndex := rfl

@[simp] theorem inputs_setTrk (f) (b : Blocks) : (setTrk f b).inputs = b.inputs := rfl
@[simp] theorem msu_setTrk (f) (b : Blocks) : (setTrk f b).msu = b.msu := rfl
@[simp] theorem seq_setTrk (f) (b : Blocks) : (setTrk f b).seq = b.seq := rfl
@[simp] theorem trk_setTrk (f) (b : Blocks) : (setTrk f b).trk = f b.trk := rfl
@[simp] theorem gax_setTrk (f) (b : Blocks) : (setTrk f b).gax = b.gax := rfl
@[simp] theorem cku_setTrk (f) (b : Blocks) : (setTrk f b).cku = b.cku := rfl
@[simp] theorem trn_setTrk (f) (b : Blocks) : (setTrk f b).trn = b.trn := rfl
@[simp] theorem lft_setTrk (f) (b : Blocks) : (setTrk f b).lft = b.lft := rfl
@[simp] theorem jog_setTrk (f) (b : Blocks) : (setTrk f b).jog = b.jog := rfl
@[simp] theorem lib_setTrk (f) (b : Blocks) : (setTrk f b).lib = b.lib := rfl
@[simp] theorem lnk_setTrk (f) (b : Blocks) : (setTrk f b).lnk = b.lnk := rfl
@[simp] theorem clock_setTrk (f) (b : Blocks) : (setTrk f b).clock = b.clock := rfl
@[simp] theorem answer_setTrk (f) (b : Blocks) : (setTrk f b).answer = b.answer := rfl
@[simp] theorem freeIndex_setTrk (f) (b : Blocks) : (setTrk f b).freeIndex = b.freeIndex := rfl

@[simp] theorem inputs_setGax (f) (b : Blocks) : (setGax f b).inputs = b.inputs := rfl
@[simp] theorem msu_setGax (f) (b : Blocks) : (setGax f b).msu = b.msu := rfl
@[simp] theorem seq_setGax (f) (b : Blocks) : (setGax f b).seq = b.seq := rfl
@[simp] theorem trk_setGax (f) (b : Blocks) : (setGax f b).trk = b.trk := rfl
@[simp] theorem gax_setGax (f) (b : Blocks) : (setGax f b).gax = f b.gax := rfl
@[simp] theorem cku_setGax (f) (b : Blocks) : (setGax f b).cku = b.cku := rfl
@[simp] theorem trn_setGax (f) (b : Blocks) : (setGax f b).trn = b.trn := rfl
@[simp] theorem lft_setGax (f) (b : Blocks) : (setGax f b).lft = b.lft := rfl
@[simp] theorem jog_setGax (f) (b : Blocks) : (setGax f b).jog = b.jog := rfl
@[simp] theorem lib_setGax (f) (b : Blocks) : (setGax f b).lib = b.lib := rfl
@[simp] theorem lnk_setGax (f) (b : Blocks) : (setGax f b).lnk = b.lnk := rfl
@[simp] theorem clock_setGax (f) (b : Blocks) : (setGax f b).clock = b.clock := rfl
@[simp] theorem answer_setGax (f) (b : Blocks) : (setGax f b).answer = b.answer := rfl
@[simp] theorem freeIndex_setGax (f) (b : Blocks) : (setGax f b).freeIndex = b.freeIndex := rfl

@[simp] theorem inputs_setCku (f) (b : Blocks) : (setCku f b).inputs = b.inputs := rfl
@[simp] theorem msu_setCku (f) (b : Blocks) : (setCku f b).msu = b.msu := rfl
@[simp] theorem seq_setCku (f) (b : Blocks) : (setCku f b).seq = b.seq := rfl
@[simp] theorem trk_setCku (f) (b : Blocks) : (setCku f b).trk = b.trk := rfl
@[simp] theorem gax_setCku (f) (b : Blocks) : (setCku f b).gax = b.gax := rfl
@[simp] theorem cku_setCku (f) (b : Blocks) : (setCku f b).cku = f b.cku := rfl
@[simp] theorem trn_setCku (f) (b : Blocks) : (setCku f b).trn = b.trn := rfl
@[simp] theorem lft_setCku (f) (b : Blocks) : (setCku f b).lft = b.lft := rfl
@[simp] theorem jog_setCku (f) (b : Blocks) : (setCku f b).jog = b.jog := rfl
@[simp] theorem lib_setCku (f) (b : Blocks) : (setCku f b).lib = b.lib := rfl
@[simp] theorem lnk_setCku (f) (b : Blocks) : (setCku f b).lnk = b.lnk := rfl
@[simp] theorem clock_setCku (f) (b : Blocks) : (setCku f b).clock = b.clock := rfl
@[simp] theorem answer_setCku (f) (b : Blocks) : (setCku f b).answer = b.answer := rfl
@[simp] theorem freeIndex_setCku (f) (b : Blocks) : (setCku f b).freeIndex = b.freeIndex := rfl

@[simp] theorem inputs_setTrn (f) (b : Blocks) : (setTrn f b).inputs = b.inputs := rfl
@[simp] theorem msu_setTrn (f) (b : Blocks) : (setTrn f b).msu = b.msu := rfl
@[simp] theorem seq_setTrn (f) (b : Blocks) : (setTrn f b).seq = b.seq := rfl
@[simp] theorem trk_setTrn (f) (b : Blocks) : (setTrn f b).trk = b.trk := rfl
@[simp] theorem gax_setTrn (f) (b : Blocks) : (setTrn f b).gax = b.gax := rfl
@[simp] theorem cku_setTrn (f) (b : Blocks) : (setTrn f b).cku = b.cku := rfl
@[simp] theorem trn_setTrn (f) (b : Blocks) : (setTrn f b).trn = f b.trn := rfl
@[simp] theorem lft_setTrn (f) (b : Blocks) : (setTrn f b).lft = b.lft := rfl
@[simp] theorem jog_setTrn (f) (b : Blocks) : (setTrn f b).jog = b.jog := rfl
@[simp] theorem lib_setTrn (f) (b : Blocks) : (setTrn f b).lib = b.lib := rfl
@[simp] theorem lnk_setTrn (f) (b : Blocks) : (setTrn f b).lnk = b.lnk := rfl
@[simp] theorem clock_setTrn (f) (b : Blocks) : (setTrn f b).clock = b.clock := rfl
@[simp] theorem answer_setTrn (f) (b : Blocks) : (setTrn f b).answer = b.answer := rfl
@[simp] theorem freeIndex_setTrn (f) (b : Blocks) : (setTrn f b).freeIndex = b.freeIndex := rfl

@[simp] theorem inputs_setLft (f) (b : Blocks) : (setLft f b).inputs = b.inputs := rfl
@[simp] theorem msu_setLft (f) (b : Blocks) : (setLft f b).msu = b.msu := rfl
@[simp] theorem seq_setLft (f) (b : Blocks) : (setLft f b).seq = b.seq := rfl
@[simp] theorem trk_setLft (f) (b : Blocks) : (setLft f b).trk = b.trk := rfl
@[simp] theorem gax_setLft (f) (b : Blocks) : (setLft f b).gax = b.gax := rfl
@[simp] theorem cku_setLft (f) (b : Blocks) : (setLft f b).cku = b.cku := rfl
@[simp] theorem trn_setLft (f) (b : Blocks) : (setLft f b).trn = b.trn := rfl
@[simp] theorem lft_setLft (f) (b : Blocks) : (setLft f b).lft = f b.lft := rfl
@[simp] theorem jog_setLft (f) (b : Blocks) : (setLft f b).jog = b.jog := rfl
@[simp] theorem lib_setLft (f) (b : Blocks) : (setLft f b).lib = b.lib := rfl
@[simp] theorem lnk_setLft (f) (b : Blocks) : (setLft f b).lnk = b.lnk := rfl
@[simp] theorem clock_setLft (f) (b : Blocks) : (setLft f b).clock = b.clock := rfl
@[simp] theorem answer_setLft (f) (b : Blocks) : (setLft f b).answer = b.answer := rfl
@[simp] theorem freeIndex_setLft (f) (b : Blocks) : (setLft f b).freeIndex = b.freeIndex := rfl

@[simp] theorem inputs_setJog (f) (b : Blocks) : (setJog f b).inputs = b.inputs := rfl
@[simp] theorem msu_setJog (f) (b : Blocks) : (setJog f b).msu = b.msu := rfl
@[simp] theorem seq_setJog (f) (b : Blocks) : (setJog f b).seq = b.seq := rfl
@[simp] theorem trk_setJog (f) (b : Blocks) : (setJog f b).trk = b.trk := rfl
@[simp] theorem gax_setJog (f) (b : Blocks) : (setJog f b).gax = b.gax := rfl
@[simp] theorem cku_setJog (f) (b : Blocks) : (setJog f b).cku = b.cku := rfl
@[simp] theorem trn_setJog (f) (b : Blocks) : (setJog f b).trn = b.trn := rfl
@[simp] theorem lft_setJog (f) (b : Blocks) : (setJog f b).lft = b.lft := rfl
@[simp] theorem jog_setJog (f) (b : Blocks) : (setJog f b).jog = f b.jog := rfl
@[simp] theorem lib_setJog (f) (b : Blocks) : (setJog f b).lib = b.lib := rfl
@[simp] theorem lnk_setJog (f) (b : Blocks) : (setJog f b).lnk = b.lnk := rfl
@[simp] theorem clock_setJog (f) (b : Blocks) : (setJog f b).clock = b.clock := rfl
@[simp] theorem answer_setJog (f) (b : Blocks) : (setJog f b).answer = b.answer := rfl
@[simp] theorem freeIndex_setJog (f) (b : Blocks) : (setJog f b).freeIndex = b.freeIndex := rfl

@[simp] theorem inputs_setLib (f) (b : Blocks) : (setLib f b).inputs = b.inputs := rfl
@[simp] theorem msu_setLib (f) (b : Blocks) : (setLib f b).msu = b.msu := rfl
@[simp] theorem seq_setLib (f) (b : Blocks) : (setLib f b).seq = b.seq := rfl
@[simp] theorem trk_setLib (f) (b : Blocks) : (setLib f b).trk = b.trk := rfl
@[simp] theorem gax_setLib (f) (b : Blocks) : (setLib f b).gax = b.gax := rfl
@[simp] theorem cku_setLib (f) (b : Blocks) : (setLib f b).cku = b.cku := rfl
@[simp] theorem trn_setLib (f) (b : Blocks) : (setLib f b).trn = b.trn := rfl
@[simp] theorem lft_setLib (f) (b : Blocks) : (setLib f b).lft = b.lft := rfl
@[simp] theorem jog_setLib (f) (b : Blocks) : (setLib f b).jog = b.jog := rfl
@[simp] theorem lib_setLib (f) (b : Blocks) : (setLib f b).lib = f b.lib := rfl
@[simp] theorem lnk_setLib (f) (b : Blocks) : (setLib f b).lnk = b.lnk := rfl
@[simp] theorem clock_setLib (f) (b : Blocks) : (setLib f b).clock = b.clock := rfl
@[simp] theorem answer_setLib (f) (b : Blocks) : (setLib f b).answer = b.answer := rfl
@[simp] theorem freeIndex_setLib (f) (b : Blocks) : (setLib f b).freeIndex = b.freeIndex := rfl

@[simp] theorem inputs_setLnk (f) (b : Blocks) : (setLnk f b).inputs = b.inputs := rfl
@[simp] theorem msu_setLnk (f) (b : Blocks) : (setLnk f b).msu = b.msu := rfl
@[simp] theorem seq_setLnk (f) (b : Blocks) : (setLnk f b).seq = b.seq := rfl
@[simp] theorem trk_setLnk (f) (b : Blocks) : (setLnk f b).trk = b.trk := rfl
@[simp] theorem gax_setLnk (f) (b : Blocks) : (setLnk f b).gax = b.gax := rfl
@[simp] theorem cku_setLnk (f) (b : Blocks) : (setLnk f b).cku = b.cku := rfl
@[simp] theorem trn_setLnk (f) (b : Blocks) : (setLnk f b).trn = b.trn := rfl
@[simp] theorem lft_setLnk (f) (b : Blocks) : (setLnk f b).lft = b.lft := rfl
@[simp] theorem jog_setLnk (f) (b : Blocks) : (setLnk f b).jog = b.jog := rfl
@[simp] theorem lib_setLnk (f) (b : Blocks) : (setLnk f b).lib = b.lib := rfl
@[simp] theorem lnk_setLnk (f) (b : Blocks) : (setLnk f b).lnk = f b.lnk := rfl
@[simp] theorem clock_setLnk (f) (b : Blocks) : (setLnk f b).clock = b.clock := rfl
@[simp] theorem answer_setLnk (f) (b : Blocks) : (setLnk f b).answer = b.answer := rfl
@[simp] theorem freeIndex_setLnk (f) (b : Blocks) : (setLnk f b).freeIndex = b.freeIndex := rfl

@[simp] theorem inputs_setInputs (f) (b : Blocks) : (setInputs f b).inputs = f b.inputs := rfl
@[simp] theorem msu_setInputs (f) (b : Blocks) : (setInputs f b).msu = b.msu := rfl
@[simp] theorem seq_setInputs (f) (b : Blocks) : (setInputs f b).seq = b.seq := rfl
@[simp] theorem trk_setInputs (f) (b : Blocks) : (setInputs f b).trk = b.trk := rfl
@[simp] theorem gax_setInputs (f) (b : Blocks) : (setInputs f b).gax = b.gax := rfl
@[simp] theorem cku_setInputs (f) (b : Blocks) : (setInputs f b).cku = b.cku := rfl
@[simp] theorem trn_setInputs (f) (b : Blocks) : (setInputs f b).trn = b.trn := rfl
@[simp] theorem lft_setInputs (f) (b : Blocks) : (setInputs f b).lft = b.lft := rfl
@[simp] theorem jog_setInputs (f) (b : Blocks) : (setInputs f b).jog = b.jog := rfl
@[simp] theorem lib_setInputs (f) (b : Blocks) : (setInputs f b).lib = b.lib := rfl
@[simp] theorem lnk_setInputs (f) (b : Blocks) : (setInputs f b).lnk = b.lnk := rfl
@[simp] theorem clock_setInputs (f) (b : Blocks) : (setInputs f b).clock = b.clock := rfl
@[simp] theorem answer_setInputs (f) (b : Blocks) : (setInputs f b).answer = b.answer := rfl
@[simp] theorem freeIndex_setInputs (f) (b : Blocks) : (setInputs f b).freeIndex = b.freeIndex := rfl

@[simp] theorem inputs_setRun (f) (b : Blocks) : (setRun f b).inputs = b.inputs := rfl
@[simp] theorem msu_setRun (f) (b : Blocks) : (setRun f b).msu = b.msu := rfl
@[simp] theorem trk_setRun (f) (b : Blocks) : (setRun f b).trk = b.trk := rfl
@[simp] theorem gax_setRun (f) (b : Blocks) : (setRun f b).gax = b.gax := rfl
@[simp] theorem cku_setRun (f) (b : Blocks) : (setRun f b).cku = b.cku := rfl
@[simp] theorem trn_setRun (f) (b : Blocks) : (setRun f b).trn = b.trn := rfl
@[simp] theorem lft_setRun (f) (b : Blocks) : (setRun f b).lft = b.lft := rfl
@[simp] theorem jog_setRun (f) (b : Blocks) : (setRun f b).jog = b.jog := rfl
@[simp] theorem lib_setRun (f) (b : Blocks) : (setRun f b).lib = b.lib := rfl
@[simp] theorem lnk_setRun (f) (b : Blocks) : (setRun f b).lnk = b.lnk := rfl
@[simp] theorem clock_setRun (f) (b : Blocks) : (setRun f b).clock = b.clock := rfl
@[simp] theorem answer_setRun (f) (b : Blocks) : (setRun f b).answer = b.answer := rfl
@[simp] theorem freeIndex_setRun (f) (b : Blocks) : (setRun f b).freeIndex = b.freeIndex := rfl
@[simp] theorem seq_state_setRun (f) (b : Blocks) : (setRun f b).seq.state = b.seq.state := rfl
@[simp] theorem seq_snapshot_setRun (f) (b : Blocks) : (setRun f b).seq.snapshot = b.seq.snapshot := rfl
@[simp] theorem seq_stack_setRun (f) (b : Blocks) : (setRun f b).seq.stack = b.seq.stack := rfl
@[simp] theorem seq_hold_setRun (f) (b : Blocks) : (setRun f b).seq.hold = b.seq.hold := rfl
@[simp] theorem seq_target_setRun (f) (b : Blocks) : (setRun f b).seq.target = b.seq.target := rfl
@[simp] theorem run_setRun (f) (b : Blocks) : (setRun f b).seq.run = f b.seq.run := rfl

@[simp] theorem inputs_raise (k) (b : Blocks) : (raise k b).inputs = b.inputs := rfl
@[simp] theorem msu_raise (k) (b : Blocks) : (raise k b).msu = b.msu := rfl
@[simp] theorem seq_raise (k) (b : Blocks) : (raise k b).seq = b.seq := rfl
@[simp] theorem trk_raise (k) (b : Blocks) : (raise k b).trk = b.trk := rfl
@[simp] theorem gax_raise (k) (b : Blocks) : (raise k b).gax = b.gax := rfl
@[simp] theorem cku_raise (k) (b : Blocks) : (raise k b).cku = b.cku := rfl
@[simp] theorem trn_raise (k) (b : Blocks) : (raise k b).trn = b.trn := rfl
@[simp] theorem lft_raise (k) (b : Blocks) : (raise k b).lft = b.lft := rfl
@[simp] theorem jog_raise (k) (b : Blocks) : (raise k b).jog = b.jog := rfl
@[simp] theorem lib_raise (k) (b : Blocks) : (raise k b).lib = b.lib := rfl
@[simp] theorem clock_raise (k) (b : Blocks) : (raise k b).clock = b.clock := rfl
@[simp] theorem answer_raise (k) (b : Blocks) : (raise k b).answer = b.answer := rfl
@[simp] theorem freeIndex_raise (k) (b : Blocks) : (raise k b).freeIndex = b.freeIndex := rfl
@[simp] theorem lnk_gathered_raise (k) (b : Blocks) : (raise k b).lnk.gathered = b.lnk.gathered := rfl
@[simp] theorem lnk_queue_raise (k) (b : Blocks) : (raise k b).lnk.queue = b.lnk.queue := rfl
@[simp] theorem lnk_refusals_raise (k) (b : Blocks) : (raise k b).lnk.refusals = b.lnk.refusals := rfl
@[simp] theorem lnk_tx_raise (k) (b : Blocks) : (raise k b).lnk.tx = b.lnk.tx := rfl
@[simp] theorem lnk_noticeNumber_raise (k) (b : Blocks) : (raise k b).lnk.noticeNumber = b.lnk.noticeNumber := rfl
@[simp] theorem lnk_counters_raise (k) (b : Blocks) : (raise k b).lnk.counters = b.lnk.counters := rfl
@[simp] theorem lnk_restartReply_raise (k) (b : Blocks) : (raise k b).lnk.restartReply = b.lnk.restartReply := rfl
@[simp] theorem flags_raise (k) (b : Blocks) : (raise k b).lnk.flags = b.lnk.flags.set k true := rfl

@[simp] theorem inputs_answer (st r) (b : Blocks) : (answer st r b).inputs = b.inputs := rfl
@[simp] theorem msu_answer (st r) (b : Blocks) : (answer st r b).msu = b.msu := rfl
@[simp] theorem seq_answer (st r) (b : Blocks) : (answer st r b).seq = b.seq := rfl
@[simp] theorem trk_answer (st r) (b : Blocks) : (answer st r b).trk = b.trk := rfl
@[simp] theorem gax_answer (st r) (b : Blocks) : (answer st r b).gax = b.gax := rfl
@[simp] theorem cku_answer (st r) (b : Blocks) : (answer st r b).cku = b.cku := rfl
@[simp] theorem trn_answer (st r) (b : Blocks) : (answer st r b).trn = b.trn := rfl
@[simp] theorem lft_answer (st r) (b : Blocks) : (answer st r b).lft = b.lft := rfl
@[simp] theorem jog_answer (st r) (b : Blocks) : (answer st r b).jog = b.jog := rfl
@[simp] theorem lib_answer (st r) (b : Blocks) : (answer st r b).lib = b.lib := rfl
@[simp] theorem lnk_answer (st r) (b : Blocks) : (answer st r b).lnk = b.lnk := rfl
@[simp] theorem clock_answer (st r) (b : Blocks) : (answer st r b).clock = b.clock := rfl
@[simp] theorem answer_answer (st r) (b : Blocks) : (answer st r b).answer = some ⟨st, r⟩ := rfl
@[simp] theorem freeIndex_answer (st r) (b : Blocks) : (answer st r b).freeIndex = b.freeIndex := rfl

@[simp] theorem inputs_nextFree (b : Blocks) : (nextFree b).inputs = b.inputs := rfl
@[simp] theorem msu_nextFree (b : Blocks) : (nextFree b).msu = b.msu := rfl
@[simp] theorem seq_nextFree (b : Blocks) : (nextFree b).seq = b.seq := rfl
@[simp] theorem trk_nextFree (b : Blocks) : (nextFree b).trk = b.trk := rfl
@[simp] theorem gax_nextFree (b : Blocks) : (nextFree b).gax = b.gax := rfl
@[simp] theorem cku_nextFree (b : Blocks) : (nextFree b).cku = b.cku := rfl
@[simp] theorem trn_nextFree (b : Blocks) : (nextFree b).trn = b.trn := rfl
@[simp] theorem lft_nextFree (b : Blocks) : (nextFree b).lft = b.lft := rfl
@[simp] theorem jog_nextFree (b : Blocks) : (nextFree b).jog = b.jog := rfl
@[simp] theorem lib_nextFree (b : Blocks) : (nextFree b).lib = b.lib := rfl
@[simp] theorem lnk_nextFree (b : Blocks) : (nextFree b).lnk = b.lnk := rfl
@[simp] theorem clock_nextFree (b : Blocks) : (nextFree b).clock = b.clock := rfl
@[simp] theorem answer_nextFree (b : Blocks) : (nextFree b).answer = b.answer := rfl
@[simp] theorem freeIndex_nextFree (b : Blocks) : (nextFree b).freeIndex = b.freeIndex + 1 := rfl

@[simp] theorem inputs_setBlock (k) (b : Blocks) : (setBlock k b).inputs = b.inputs := rfl
@[simp] theorem msu_setBlock (k) (b : Blocks) : (setBlock k b).msu = b.msu := rfl
@[simp] theorem seq_setBlock (k) (b : Blocks) : (setBlock k b).seq = b.seq := rfl
@[simp] theorem gax_setBlock (k) (b : Blocks) : (setBlock k b).gax = b.gax := rfl
@[simp] theorem cku_setBlock (k) (b : Blocks) : (setBlock k b).cku = b.cku := rfl
@[simp] theorem trn_setBlock (k) (b : Blocks) : (setBlock k b).trn = b.trn := rfl
@[simp] theorem lft_setBlock (k) (b : Blocks) : (setBlock k b).lft = b.lft := rfl
@[simp] theorem jog_setBlock (k) (b : Blocks) : (setBlock k b).jog = b.jog := rfl
@[simp] theorem lib_setBlock (k) (b : Blocks) : (setBlock k b).lib = b.lib := rfl
@[simp] theorem lnk_setBlock (k) (b : Blocks) : (setBlock k b).lnk = b.lnk := rfl
@[simp] theorem clock_setBlock (k) (b : Blocks) : (setBlock k b).clock = b.clock := rfl
@[simp] theorem answer_setBlock (k) (b : Blocks) : (setBlock k b).answer = b.answer := rfl
@[simp] theorem freeIndex_setBlock (k) (b : Blocks) : (setBlock k b).freeIndex = b.freeIndex := rfl
@[simp] theorem block_setBlock (k) (b : Blocks) : (setBlock k b).trk.block = k := rfl

@[simp] theorem blocks_act (f) (s : State) : (State.act f s).blocks = f s.blocks := rfl
@[simp] theorem silent_act (f) (s : State) : (State.act f s).silent = s.silent := rfl
@[simp] theorem pending_act (f) (s : State) : (State.act f s).pending = s.pending := rfl

end Sys2Proof.Machine
end

