-- ==== Sys2Proof/Laws/Link.lean ====
section
/-! SUPPORT. The units never touch the link but for its pending flags: one lemma per shared operation. -/

set_option Elab.async false

namespace Sys2Proof.Machine

open Sys2Proof

@[simp] theorem linkCore_setMsu (f) (b : Blocks) : linkCore (setMsu f b) = linkCore b := rfl
@[simp] theorem linkCore_setSeq (f) (b : Blocks) : linkCore (setSeq f b) = linkCore b := rfl
@[simp] theorem linkCore_setTrk (f) (b : Blocks) : linkCore (setTrk f b) = linkCore b := rfl
@[simp] theorem linkCore_setGax (f) (b : Blocks) : linkCore (setGax f b) = linkCore b := rfl
@[simp] theorem linkCore_setCku (f) (b : Blocks) : linkCore (setCku f b) = linkCore b := rfl
@[simp] theorem linkCore_setTrn (f) (b : Blocks) : linkCore (setTrn f b) = linkCore b := rfl
@[simp] theorem linkCore_setLft (f) (b : Blocks) : linkCore (setLft f b) = linkCore b := rfl
@[simp] theorem linkCore_setJog (f) (b : Blocks) : linkCore (setJog f b) = linkCore b := rfl
@[simp] theorem linkCore_setLib (f) (b : Blocks) : linkCore (setLib f b) = linkCore b := rfl
@[simp] theorem linkCore_setInputs (f) (b : Blocks) : linkCore (setInputs f b) = linkCore b := rfl
@[simp] theorem linkCore_setRun (f) (b : Blocks) : linkCore (setRun f b) = linkCore b := rfl
@[simp] theorem linkCore_setBlock (f) (b : Blocks) : linkCore (setBlock f b) = linkCore b := rfl
@[simp] theorem linkCore_raise (k) (b : Blocks) : linkCore (raise k b) = linkCore b := rfl
@[simp] theorem linkCore_answer (k r) (b : Blocks) : linkCore (answer k r b) = linkCore b := rfl
@[simp] theorem linkCore_nextFree (b : Blocks) : linkCore (nextFree b) = linkCore b := rfl
@[simp] theorem linkCore_clockAt (d) (b : Blocks) : linkCore (clockAt d b) = linkCore b := by cases d <;> rfl
@[simp] theorem linkCore_raiseIf (c k) (b : Blocks) : linkCore (raiseIf c k b) = linkCore b := by cases c <;> rfl
@[simp] theorem linkCore_joinPiece (p : Piece) (b : Blocks) : linkCore (joinPiece p b) = linkCore b := by
  simp only [joinPiece]
  simp_all
@[simp] theorem linkCore_markPartialCut (b : Blocks) : linkCore (markPartialCut b) = linkCore b := by
  simp only [markPartialCut]
  simp_all
@[simp] theorem linkCore_cutBdcUpdate (waste : Bool) (b : Blocks) : linkCore (cutBdcUpdate waste b) = linkCore b := by
  simp only [cutBdcUpdate]
  repeat' split
  all_goals simp_all
@[simp] theorem linkCore_manualBdcUpdate (term : Int) (b : Blocks) : linkCore (manualBdcUpdate term b) = linkCore b := by
  simp only [manualBdcUpdate]
  repeat' split
  all_goals simp_all
@[simp] theorem linkCore_quarterUpdate (b : Blocks) : linkCore (quarterUpdate b) = linkCore b := by
  simp only [quarterUpdate]
  simp_all
@[simp] theorem linkCore_orientationLost (b : Blocks) : linkCore (orientationLost b) = linkCore b := by
  simp only [orientationLost]
  simp_all
@[simp] theorem linkCore_ejectPiece (b : Blocks) : linkCore (ejectPiece b) = linkCore b := by
  simp only [ejectPiece]
  repeat' split
  all_goals simp_all
@[simp] theorem linkCore_createBlock (f : TransferFigures) (portion : Nat) (b : Blocks) : linkCore (createBlock f portion b) = linkCore b := by
  simp only [createBlock]
  simp_all
@[simp] theorem linkCore_deliverQueue (b : Blocks) : linkCore (deliverQueue b) = linkCore b := by
  simp only [deliverQueue]
  simp_all
@[simp] theorem linkCore_trkStart (b : Blocks) : linkCore (trkStart b) = linkCore b := by
  simp only [trkStart]
  simp_all
@[simp] theorem linkCore_jogFault (code : JogFault) (b : Blocks) : linkCore (jogFault code b) = linkCore b := by
  simp only [jogFault]
  repeat' split
  all_goals simp_all
@[simp] theorem linkCore_jogWatch (b : Blocks) : linkCore (jogWatch b) = linkCore b := by
  simp only [jogWatch]
  repeat' split
  all_goals simp_all
@[simp] theorem linkCore_jogBegin (snap : Snapshot) (b : Blocks) : linkCore (jogBegin snap b) = linkCore b := by
  simp only [jogBegin]
  simp_all
@[simp] theorem linkCore_tryJog (b : Blocks) : linkCore (tryJog b) = linkCore b := by
  simp only [tryJog]
  repeat' split
  all_goals simp_all
@[simp] theorem linkCore_checkFailed (b : Blocks) : linkCore (checkFailed b) = linkCore b := by
  simp only [checkFailed]
  repeat' split
  all_goals simp_all
@[simp] theorem linkCore_alignmentCheck (b : Blocks) : linkCore (alignmentCheck b) = linkCore b := by
  simp only [alignmentCheck]
  repeat' split
  all_goals simp_all
@[simp] theorem linkCore_jogEnd (b : Blocks) : linkCore (jogEnd b) = linkCore b := by
  simp only [jogEnd]
  simp_all
@[simp] theorem linkCore_entryEvent (ofParting : Bool) (b : Blocks) : linkCore (entryEvent ofParting b) = linkCore b := by
  simp only [entryEvent]
  repeat' split
  all_goals simp_all
@[simp] theorem linkCore_carriageIsHome (b : Blocks) : linkCore (carriageIsHome b) = linkCore b := by
  simp only [carriageIsHome]
  repeat' split
  all_goals simp_all
@[simp] theorem linkCore_pauseRepeat (b : Blocks) : linkCore (pauseRepeat b) = linkCore b := by
  simp only [pauseRepeat]
  repeat' split
  all_goals simp_all
@[simp] theorem linkCore_jogEstop (b : Blocks) : linkCore (jogEstop b) = linkCore b := by
  simp only [jogEstop]
  repeat' split
  all_goals simp_all
@[simp] theorem linkCore_jogChainReset (b : Blocks) : linkCore (jogChainReset b) = linkCore b := by
  simp only [jogChainReset]
  repeat' split
  all_goals simp_all
@[simp] theorem linkCore_jogReset (b : Blocks) : linkCore (jogReset b) = linkCore b := by
  simp only [jogReset]
  repeat' split
  all_goals simp_all
@[simp] theorem linkCore_jogStart (b : Blocks) : linkCore (jogStart b) = linkCore b := by
  simp only [jogStart]
  repeat' split
  all_goals simp_all
@[simp] theorem linkCore_gaxStartValues (b : Blocks) : linkCore (gaxStartValues b) = linkCore b := by
  simp only [gaxStartValues]
  simp_all
@[simp] theorem linkCore_gaxStopped (b : Blocks) : linkCore (gaxStopped b) = linkCore b := by
  simp only [gaxStopped]
  repeat' split
  all_goals simp_all
@[simp] theorem linkCore_gaxDecelerate (b : Blocks) : linkCore (gaxDecelerate b) = linkCore b := by
  simp only [gaxDecelerate]
  simp_all
@[simp] theorem linkCore_gaxStop (b : Blocks) : linkCore (gaxStop b) = linkCore b := by
  simp only [gaxStop]
  repeat' split
  all_goals simp_all
@[simp] theorem linkCore_repend (b : Blocks) : linkCore (repend b) = linkCore b := by
  simp only [repend]
  repeat' split
  all_goals simp_all
@[simp] theorem linkCore_gaxInterlock (b : Blocks) : linkCore (gaxInterlock b) = linkCore b := by
  simp only [gaxInterlock]
  repeat' split
  all_goals simp_all
@[simp] theorem linkCore_gaxRest (b : Blocks) : linkCore (gaxRest b) = linkCore b := by
  simp only [gaxRest]
  repeat' split
  all_goals simp_all
@[simp] theorem linkCore_gaxModeRest (b : Blocks) : linkCore (gaxModeRest b) = linkCore b := by
  simp only [gaxModeRest]
  repeat' split
  all_goals simp_all
@[simp] theorem linkCore_gaxBegin (kind : MoveKind) (asker : MoveAsker) (p : Um) (clamped : Bool) (start : Um) (b : Blocks) : linkCore (gaxBegin kind asker p clamped start b) = linkCore b := by
  simp only [gaxBegin]
  repeat' split
  all_goals simp_all
@[simp] theorem linkCore_beginPending (b : Blocks) : linkCore (beginPending b) = linkCore b := by
  simp only [beginPending]
  repeat' split
  all_goals simp_all
@[simp] theorem linkCore_gaxSettle (b : Blocks) : linkCore (gaxSettle b) = linkCore b := by
  simp only [gaxSettle]
  simp_all
@[simp] theorem linkCore_gaxInPosition (m : MoveRecord) (b : Blocks) : linkCore (gaxInPosition m b) = linkCore b := by
  simp only [gaxInPosition]
  simp_all
@[simp] theorem linkCore_gaxEnterFault (code : GaxFault) (b : Blocks) : linkCore (gaxEnterFault code b) = linkCore b := by
  simp only [gaxEnterFault]
  repeat' split
  all_goals simp_all
@[simp] theorem linkCore_gaxEstop (b : Blocks) : linkCore (gaxEstop b) = linkCore b := by
  simp only [gaxEstop]
  repeat' split
  all_goals simp_all
@[simp] theorem linkCore_driveEnable (on) (b : Blocks) : linkCore (driveEnable on b) = linkCore b := rfl
@[simp] theorem linkCore_gaxChainReset (b : Blocks) : linkCore (gaxChainReset b) = linkCore b := by
  simp only [gaxChainReset]
  simp_all
@[simp] theorem linkCore_gaxHome (b : Blocks) : linkCore (gaxHome b) = linkCore b := by
  simp only [gaxHome]
  repeat' split
  all_goals simp_all
@[simp] theorem linkCore_gaxReference (b : Blocks) : linkCore (gaxReference b) = linkCore b := by
  simp only [gaxReference]
  simp_all
@[simp] theorem linkCore_gaxReset (b : Blocks) : linkCore (gaxReset b) = linkCore b := by
  simp only [gaxReset]
  repeat' split
  all_goals simp_all
@[simp] theorem linkCore_gaxTable (table : List (Option Int)) (b : Blocks) : linkCore (gaxTable table b) = linkCore b := by
  simp only [gaxTable]
  simp_all
@[simp] theorem linkCore_gaxStart (b : Blocks) : linkCore (gaxStart b) = linkCore b := by
  simp only [gaxStart]
  simp_all
@[simp] theorem linkCore_flapClose (b : Blocks) : linkCore (flapClose b) = linkCore b := by
  simp only [flapClose]
  repeat' split
  all_goals simp_all
@[simp] theorem linkCore_flapOpen (b : Blocks) : linkCore (flapOpen b) = linkCore b := by
  simp only [flapOpen]
  repeat' split
  all_goals simp_all
@[simp] theorem linkCore_makeCycle (asker : CutAsker) (target : Nat) (waste armed : Bool) (b : Blocks) : linkCore (makeCycle asker target waste armed b) = linkCore b := by
  simp only [makeCycle]
  repeat' split
  all_goals simp_all
@[simp] theorem linkCore_beginClamping (b : Blocks) : linkCore (beginClamping b) = linkCore b := by
  simp only [beginClamping]
  simp_all
@[simp] theorem linkCore_manualEnds (completed : Bool) (b : Blocks) : linkCore (manualEnds completed b) = linkCore b := by
  simp only [manualEnds]
  simp_all
@[simp] theorem linkCore_ckuResetEnds (b : Blocks) : linkCore (ckuResetEnds b) = linkCore b := by
  simp only [ckuResetEnds]
  repeat' split
  all_goals simp_all
@[simp] theorem linkCore_ckuOpened (b : Blocks) : linkCore (ckuOpened b) = linkCore b := by
  simp only [ckuOpened]
  repeat' split
  all_goals simp_all
@[simp] theorem linkCore_ckuRelease (b : Blocks) : linkCore (ckuRelease b) = linkCore b := by
  simp only [ckuRelease]
  repeat' split
  all_goals simp_all
@[simp] theorem linkCore_beginStroke (b : Blocks) : linkCore (beginStroke b) = linkCore b := by
  simp only [beginStroke]
  simp_all
@[simp] theorem linkCore_beginGap (b : Blocks) : linkCore (beginGap b) = linkCore b := by
  simp only [beginGap]
  simp_all
@[simp] theorem linkCore_recordReversal (cause : ReversalCause) (b : Blocks) : linkCore (recordReversal cause b) = linkCore b := by
  simp only [recordReversal]
  simp_all
@[simp] theorem linkCore_reverse (cause : ReversalCause) (b : Blocks) : linkCore (reverse cause b) = linkCore b := by
  simp only [reverse]
  simp_all
@[simp] theorem linkCore_askRest (b : Blocks) : linkCore (askRest b) = linkCore b := by
  simp only [askRest]
  simp_all
@[simp] theorem linkCore_knifeReturnStops (b : Blocks) : linkCore (knifeReturnStops b) = linkCore b := by
  simp only [knifeReturnStops]
  simp_all
@[simp] theorem linkCore_ckuRest (b : Blocks) : linkCore (ckuRest b) = linkCore b := by
  simp only [ckuRest]
  repeat' split
  all_goals simp_all
@[simp] theorem linkCore_ckuModeRest (b : Blocks) : linkCore (ckuModeRest b) = linkCore b := by
  simp only [ckuModeRest]
  repeat' split
  all_goals simp_all
@[simp] theorem linkCore_ckuValvesShut (next : CycleState) (b : Blocks) : linkCore (ckuValvesShut next b) = linkCore b := by
  simp only [ckuValvesShut]
  repeat' split
  all_goals simp_all
@[simp] theorem linkCore_ckuWorkEnds (b c : Blocks) : linkCore (ckuWorkEnds b c) = linkCore c := by
  simp only [ckuWorkEnds]
  repeat' split
  all_goals simp_all
@[simp] theorem linkCore_ckuEstop (b : Blocks) : linkCore (ckuEstop b) = linkCore b := by
  simp only [ckuEstop]
  repeat' split
  all_goals simp_all
@[simp] theorem linkCore_ckuEnterFault (code : CkuFault) (b : Blocks) : linkCore (ckuEnterFault code b) = linkCore b := by
  simp only [ckuEnterFault]
  repeat' split
  all_goals simp_all
@[simp] theorem linkCore_judgeWear (b : Blocks) : linkCore (judgeWear b) = linkCore b := by
  simp only [judgeWear]
  simp_all
@[simp] theorem linkCore_countCut (b : Blocks) : linkCore (countCut b) = linkCore b := by
  simp only [countCut]
  simp_all
@[simp] theorem linkCore_ckuReset (b : Blocks) : linkCore (ckuReset b) = linkCore b := by
  simp only [ckuReset]
  repeat' split
  all_goals simp_all
@[simp] theorem linkCore_ckuStart (b : Blocks) : linkCore (ckuStart b) = linkCore b := by
  simp only [ckuStart]
  repeat' split
  all_goals simp_all
@[simp] theorem linkCore_ckuLoad (record : Option KnifeRecord) (b : Blocks) : linkCore (ckuLoad record b) = linkCore b := by
  simp only [ckuLoad]
  simp_all
@[simp] theorem linkCore_trnBegin (asker : TurnAsker) (quarters : Nat) (b : Blocks) : linkCore (trnBegin asker quarters b) = linkCore b := by
  simp only [trnBegin]
  simp_all
@[simp] theorem linkCore_trnRelease (b : Blocks) : linkCore (trnRelease b) = linkCore b := by
  simp only [trnRelease]
  simp_all
@[simp] theorem linkCore_turnAskRest (b : Blocks) : linkCore (turnAskRest b) = linkCore b := by
  simp only [turnAskRest]
  simp_all
@[simp] theorem linkCore_turnToRest (b : Blocks) : linkCore (turnToRest b) = linkCore b := by
  simp only [turnToRest]
  repeat' split
  all_goals simp_all
@[simp] theorem linkCore_trnRest (b : Blocks) : linkCore (trnRest b) = linkCore b := by
  simp only [trnRest]
  repeat' split
  all_goals simp_all
@[simp] theorem linkCore_trnModeRest (b : Blocks) : linkCore (trnModeRest b) = linkCore b := by
  simp only [trnModeRest]
  repeat' split
  all_goals simp_all
@[simp] theorem linkCore_trnPark (b : Blocks) : linkCore (trnPark b) = linkCore b := by
  simp only [trnPark]
  simp_all
@[simp] theorem linkCore_trnEnterFault (code : TrnFault) (b : Blocks) : linkCore (trnEnterFault code b) = linkCore b := by
  simp only [trnEnterFault]
  repeat' split
  all_goals simp_all
@[simp] theorem linkCore_armsAreOpen (b : Blocks) : linkCore (armsAreOpen b) = linkCore b := by
  simp only [armsAreOpen]
  repeat' split
  all_goals simp_all
@[simp] theorem linkCore_trnReset (b : Blocks) : linkCore (trnReset b) = linkCore b := by
  simp only [trnReset]
  repeat' split
  all_goals simp_all
@[simp] theorem linkCore_trnStart (b : Blocks) : linkCore (trnStart b) = linkCore b := by
  simp only [trnStart]
  repeat' split
  all_goals simp_all
@[simp] theorem linkCore_enterHeld (cause : HoldCause) (b : Blocks) : linkCore (enterHeld cause b) = linkCore b := by
  simp only [enterHeld]
  simp_all
@[simp] theorem linkCore_furtherCause (b : Blocks) : linkCore (furtherCause b) = linkCore b := by
  simp only [furtherCause]
  simp_all
@[simp] theorem linkCore_advanceBy (k : Nat) (b : Blocks) : linkCore (advanceBy k b) = linkCore b := by
  simp only [advanceBy]
  simp_all
@[simp] theorem linkCore_heldRelease (b : Blocks) : linkCore (heldRelease b) = linkCore b := by
  simp only [heldRelease]
  repeat' split
  all_goals simp_all
@[simp] theorem linkCore_ckuToRest (b : Blocks) : linkCore (ckuToRest b) = linkCore b := by
  simp only [ckuToRest]
  repeat' split
  all_goals simp_all
@[simp] theorem linkCore_unitsToRest (b : Blocks) : linkCore (unitsToRest b) = linkCore b := by
  simp only [unitsToRest]
  simp_all
@[simp] theorem linkCore_holdCause (cause : HoldCause) (b : Blocks) : linkCore (holdCause cause b) = linkCore b := by
  simp only [holdCause]
  repeat' split
  all_goals simp_all
@[simp] theorem linkCore_holdEstop (b : Blocks) : linkCore (holdEstop b) = linkCore b := by
  simp only [holdEstop]
  repeat' split
  all_goals simp_all
@[simp] theorem linkCore_gaxFaults (code : GaxFault) (b : Blocks) : linkCore (gaxFaults code b) = linkCore b := by
  simp only [gaxFaults]
  repeat' split
  all_goals simp_all
@[simp] theorem linkCore_ckuFaults (code : CkuFault) (b : Blocks) : linkCore (ckuFaults code b) = linkCore b := by
  simp only [ckuFaults]
  repeat' split
  all_goals simp_all
@[simp] theorem linkCore_trnFaults (code : TrnFault) (b : Blocks) : linkCore (trnFaults code b) = linkCore b := by
  simp only [trnFaults]
  repeat' split
  all_goals simp_all
@[simp] theorem linkCore_ckuReverses (cause : ReversalCause) (b : Blocks) : linkCore (ckuReverses cause b) = linkCore b := by
  simp only [ckuReverses]
  repeat' split
  all_goals simp_all
@[simp] theorem linkCore_libEvent (e : LibEvent) (b : Blocks) : linkCore (libEvent e b) = linkCore b := by
  simp only [libEvent]
  simp_all
@[simp] theorem linkCore_deferredStoreFails (b : Blocks) : linkCore (deferredStoreFails b) = linkCore b := by
  simp only [deferredStoreFails]
  repeat' split
  all_goals simp_all
@[simp] theorem linkCore_libClose (why : LibFailure) (b : Blocks) : linkCore (libClose why b) = linkCore b := by
  simp only [libClose]
  simp_all
@[simp] theorem linkCore_programRecord (i : Nat) (r : Rec) (b : Blocks) : linkCore (programRecord i r b).1 = linkCore b := by
  simp only [programRecord]
  repeat' split
  all_goals simp_all
@[simp] theorem linkCore_beginSection (b : Blocks) : linkCore (beginSection b).1 = linkCore b := by
  simp only [beginSection]
  repeat' split
  all_goals simp_all
@[simp] theorem linkCore_programNext (kind : RecKind) (key : Nat) (body : List Byte) (b : Blocks) : linkCore (programNext kind key body b).1 = linkCore b := by
  have hb := linkCore_beginSection b
  simp only [programNext]
  repeat' split
  all_goals simp_all [-linkCore_beginSection]
@[simp] theorem linkCore_placeRecord (kind : RecKind) (key : Nat) (body : List Byte) (b : Blocks) : linkCore (placeRecord kind key body b).1 = linkCore b := by
  simp only [placeRecord]
  repeat' split
  all_goals simp
@[simp] theorem linkCore_ckuStore (b : Blocks) : linkCore (ckuStore b) = linkCore b := by
  have h := linkCore_placeRecord .knife 0 b.cku.knife.encode b
  simp only [ckuStore]
  repeat' split
  all_goals simp_all [-linkCore_placeRecord]
@[simp] theorem linkCore_storeIfDue (b : Blocks) : linkCore (storeIfDue b) = linkCore b := by
  simp only [storeIfDue]
  repeat' split
  all_goals simp_all
@[simp] theorem linkCore_libReady (b : Blocks) : linkCore (libReady b) = linkCore b := by
  simp only [libReady]
  repeat' split
  all_goals simp_all
@[simp] theorem linkCore_copyRecord (r : Rec) (dest : Option Nat) (b : Blocks) : linkCore (copyRecord r dest b).1 = linkCore b := by
  have hb := linkCore_beginSection b
  simp only [copyRecord]
  repeat' split
  all_goals grind [linkCore_programRecord]
@[simp] theorem linkCore_beginErase (b : Blocks) : linkCore (beginErase b) = linkCore b := by
  simp only [beginErase]
  simp_all
@[simp] theorem linkCore_copyLive (l : List (Place × Rec)) (d : Option Nat) (b : Blocks) :
    linkCore (copyLive l d b).1 = linkCore b := by
  induction l generalizing d b with
  | nil => rfl
  | cons p rest ih =>
    have h := linkCore_copyRecord p.2 d b
    simp only [copyLive]
    repeat' split
    all_goals simp_all [-linkCore_copyRecord]
@[simp] theorem linkCore_takeSource (src : Nat) (rest : List Nat) (dest : Option Nat) (done total : Nat) (b : Blocks) : linkCore (takeSource src rest dest done total b) = linkCore b := by
  have h := linkCore_copyLive (sectionRecords src 0 (slotsAt b.lib.flash src)) dest b
  simp only [takeSource]
  generalize copyLive (sectionRecords src 0 (slotsAt b.lib.flash src)) dest b = p at h ⊢
  obtain ⟨c, d⟩ := p
  dsimp only at h ⊢
  split <;> simp [h]
@[simp] theorem linkCore_deferredStore (b : Blocks) : linkCore (deferredStore b) = linkCore b := by
  simp only [deferredStore]
  repeat' split
  all_goals simp_all
@[simp] theorem linkCore_endCompaction (b : Blocks) : linkCore (endCompaction b) = linkCore b := by
  simp only [endCompaction]
  simp_all
@[simp] theorem linkCore_beginCompaction (b : Blocks) : linkCore (beginCompaction b) = linkCore b := by
  simp only [beginCompaction]
  repeat' split
  all_goals simp_all
@[simp] theorem linkCore_afterSpent (powerOn : Bool) (b : Blocks) : linkCore (afterSpent powerOn b) = linkCore b := by
  simp only [afterSpent]
  repeat' split
  all_goals simp_all
@[simp] theorem linkCore_eraseSpent (powerOn : Bool) (b : Blocks) : linkCore (eraseSpent powerOn b) = linkCore b := by
  simp only [eraseSpent]
  repeat' split
  all_goals simp_all
@[simp] theorem linkCore_spoilSection (i : Nat) (b : Blocks) : linkCore (spoilSection i b) = linkCore b := by
  simp only [spoilSection]
  simp_all
@[simp] theorem linkCore_interruptErase (b : Blocks) : linkCore (interruptErase b) = linkCore b := by
  simp only [interruptErase]
  repeat' split
  all_goals simp_all
@[simp] theorem linkCore_libStart (powerOn : Bool) (b : Blocks) : linkCore (libStart powerOn b) = linkCore b := by
  simp only [libStart]
  repeat' split
  all_goals simp_all
@[simp] theorem linkCore_endEraseAll (b : Blocks) : linkCore (endEraseAll b) = linkCore b := by
  simp only [endEraseAll]
  simp_all
@[simp] theorem linkCore_sectionErased (w : LibWork) (b : Blocks) : linkCore (sectionErased w b) = linkCore b := by
  simp only [sectionErased]
  repeat' split
  all_goals simp_all
@[simp] theorem linkCore_eraseFailed (w : LibWork) (b : Blocks) : linkCore (eraseFailed w b) = linkCore b := by
  simp only [eraseFailed]; simp

@[simp] theorem linkCore_eraseDone (w : LibWork) (b : Blocks) : linkCore (eraseDone w b) = linkCore b := by
  simp only [eraseDone]
  repeat' split
  all_goals simp_all
@[simp] theorem linkCore_askMove (kind : MoveKind) (p : Um) (b : Blocks) : linkCore (askMove kind p b) = linkCore b := by
  simp only [askMove]
  repeat' split
  all_goals simp_all
@[simp] theorem linkCore_askClamp (target : Nat) (waste : Bool) (b : Blocks) : linkCore (askClamp target waste b) = linkCore b := by
  simp only [askClamp]
  repeat' split
  all_goals simp_all
@[simp] theorem linkCore_askTurn (quarters : Nat) (b : Blocks) : linkCore (askTurn quarters b) = linkCore b := by
  simp only [askTurn]
  repeat' split
  all_goals simp_all
@[simp] theorem linkCore_enterPhase (p : Phase) (w : WaitReason) (b : Blocks) : linkCore (enterPhase p w b) = linkCore b := by
  simp only [enterPhase]
  simp_all
@[simp] theorem linkCore_waitFor (w : WaitReason) (b : Blocks) : linkCore (waitFor w b) = linkCore b := by
  simp only [waitFor]
  simp_all
@[simp] theorem linkCore_baseTaken (b : Blocks) : linkCore (baseTaken b) = linkCore b := by
  simp only [baseTaken]
  repeat' split
  all_goals simp_all
@[simp] theorem linkCore_setBaseInForce (b : Blocks) : linkCore (setBaseInForce b) = linkCore b := by
  simp only [setBaseInForce]
  simp_all
@[simp] theorem linkCore_computeCut (mode : CutMode) (waste : Bool) (dim : Um) (b : Blocks) : linkCore (computeCut mode waste dim b) = linkCore b := by
  simp only [computeCut]
  repeat' split
  all_goals simp_all
@[simp] theorem linkCore_toPermit (b : Blocks) : linkCore (toPermit b) = linkCore b := by
  simp only [toPermit]
  simp_all
@[simp] theorem linkCore_turnPhase (b : Blocks) : linkCore (turnPhase b) = linkCore b := by
  simp only [turnPhase]
  simp_all
@[simp] theorem linkCore_turnTaken (quarters : Nat) (b : Blocks) : linkCore (turnTaken quarters b) = linkCore b := by
  simp only [turnTaken]
  repeat' split
  all_goals simp_all
@[simp] theorem linkCore_ejectTaken (b : Blocks) : linkCore (ejectTaken b) = linkCore b := by
  simp only [ejectTaken]
  repeat' split
  all_goals simp_all
@[simp] theorem linkCore_ejectLoad (b : Blocks) : linkCore (ejectLoad b) = linkCore b := by
  simp only [ejectLoad]
  repeat' split
  all_goals simp_all
@[simp] theorem linkCore_pauseTaken (code : Nat) (b : Blocks) : linkCore (pauseTaken code b) = linkCore b := by
  simp only [pauseTaken]
  simp_all
@[simp] theorem linkCore_waitPortion (b : Blocks) : linkCore (waitPortion b) = linkCore b := by
  simp only [waitPortion]
  repeat' split
  all_goals simp_all
@[simp] theorem linkCore_endTaken (b : Blocks) : linkCore (endTaken b) = linkCore b := by
  simp only [endTaken]
  repeat' split
  all_goals simp_all
@[simp] theorem linkCore_pushFrame (sub count : Nat) (own : Option Nat) (b : Blocks) : linkCore (pushFrame sub count own b) = linkCore b := by
  simp only [pushFrame]
  repeat' split
  all_goals simp_all
@[simp] theorem linkCore_returnFrame (f : Frame) (rest : List Frame) (b : Blocks) : linkCore (returnFrame f rest b) = linkCore b := by
  simp only [returnFrame]
  repeat' split
  all_goals simp_all
theorem linkCore_instantStep (st : ProgStep) (b c : Blocks) (h : instantStep st b = some c) : linkCore c = linkCore b := by
  simp only [instantStep] at h
  repeat' split at h
  all_goals first | contradiction | (injection h with h; subst h; simp)
@[simp] theorem linkCore_endingStep (s : ProgStep) (b : Blocks) : linkCore (endingStep s b) = linkCore b := by
  simp only [endingStep]
  repeat' split
  all_goals simp_all
@[simp] theorem linkCore_takeSteps (n : Nat) (b : Blocks) : linkCore (takeSteps n b) = linkCore b := by
  induction n generalizing b with
  | zero => rfl
  | succ n ih =>
    simp only [takeSteps]
    repeat' split
    · rfl
    · rename_i h
      rw [ih]
      exact linkCore_instantStep _ _ _ h
    · simp
@[simp] theorem linkCore_takeStep (b : Blocks) : linkCore (takeStep b) = linkCore b := by
  simp [takeStep]
@[simp] theorem linkCore_nextStep (b : Blocks) : linkCore (nextStep b) = linkCore b := by
  simp only [nextStep]
  simp_all
@[simp] theorem linkCore_recompute (b : Blocks) : linkCore (recompute b) = linkCore b := by
  simp only [recompute]
  repeat' split
  all_goals simp_all
@[simp] theorem linkCore_goOn (b : Blocks) : linkCore (goOn b) = linkCore b := by
  simp only [goOn]
  repeat' split
  all_goals simp_all
@[simp] theorem linkCore_seqInPosition (kind : MoveKind) (b : Blocks) : linkCore (seqInPosition kind b) = linkCore b := by
  simp only [seqInPosition]
  repeat' split
  all_goals simp_all
@[simp] theorem linkCore_seqAtPressure (b : Blocks) : linkCore (seqAtPressure b) = linkCore b := by
  simp only [seqAtPressure]
  repeat' split
  all_goals simp_all
@[simp] theorem linkCore_seqFlapOpen (b : Blocks) : linkCore (seqFlapOpen b) = linkCore b := by
  simp only [seqFlapOpen]
  repeat' split
  all_goals simp_all
@[simp] theorem linkCore_seqStrokeBegun (b : Blocks) : linkCore (seqStrokeBegun b) = linkCore b := by
  simp only [seqStrokeBegun]
  repeat' split
  all_goals simp_all
@[simp] theorem linkCore_seqBdc (b : Blocks) : linkCore (seqBdc b) = linkCore b := by
  simp only [seqBdc]
  repeat' split
  all_goals simp_all
@[simp] theorem linkCore_seqTdc (b : Blocks) : linkCore (seqTdc b) = linkCore b := by
  simp only [seqTdc]
  repeat' split
  all_goals simp_all
@[simp] theorem linkCore_seqBackToPermit (b : Blocks) : linkCore (seqBackToPermit b) = linkCore b := by
  simp only [seqBackToPermit]
  repeat' split
  all_goals simp_all
@[simp] theorem linkCore_seqReleased (b : Blocks) : linkCore (seqReleased b) = linkCore b := by
  simp only [seqReleased]
  repeat' split
  all_goals simp_all
@[simp] theorem linkCore_seqFlapClosed (b : Blocks) : linkCore (seqFlapClosed b) = linkCore b := by
  simp only [seqFlapClosed]
  repeat' split
  all_goals simp_all
@[simp] theorem linkCore_seqQuarter (b : Blocks) : linkCore (seqQuarter b) = linkCore b := by
  simp only [seqQuarter]
  repeat' split
  all_goals simp_all
@[simp] theorem linkCore_portionArrival (b : Blocks) : linkCore (portionArrival b) = linkCore b := by
  simp only [portionArrival]
  repeat' split
  all_goals simp_all
@[simp] theorem linkCore_clearTold (b : Blocks) : linkCore (clearTold b) = linkCore b := by
  simp only [clearTold]
  repeat' split
  all_goals simp_all
@[simp] theorem linkCore_takeClear (b : Blocks) : linkCore (takeClear b) = linkCore b := by
  simp only [takeClear]
  simp_all
@[simp] theorem linkCore_resumeStep (b : Blocks) : linkCore (resumeStep b) = linkCore b := by
  simp only [resumeStep]
  repeat' split
  all_goals simp_all
@[simp] theorem linkCore_reportOpened (b c : Blocks) : linkCore (reportOpened b c) = linkCore c := by
  simp only [reportOpened]
  repeat' split
  all_goals simp_all
@[simp] theorem linkCore_transferArrives (f : TransferFigures) (b : Blocks) : linkCore (transferArrives f b) = linkCore b := by
  simp only [transferArrives]
  simp_all
@[simp] theorem linkCore_lftFault (code : LftFault) (b : Blocks) : linkCore (lftFault code b) = linkCore b := by
  simp only [lftFault]
  simp_all
@[simp] theorem linkCore_liftRises (b : Blocks) : linkCore (liftRises b) = linkCore b := by
  simp only [liftRises]
  repeat' split
  all_goals simp_all
@[simp] theorem linkCore_liftSinks (b : Blocks) : linkCore (liftSinks b) = linkCore b := by
  simp only [liftSinks]
  repeat' split
  all_goals simp_all
@[simp] theorem linkCore_liftRaises (b : Blocks) : linkCore (liftRaises b) = linkCore b := by
  simp only [liftRaises]
  simp_all
@[simp] theorem linkCore_liftLowers (b : Blocks) : linkCore (liftLowers b) = linkCore b := by
  simp only [liftLowers]
  simp_all
@[simp] theorem linkCore_liftEmpty (b : Blocks) : linkCore (liftEmpty b) = linkCore b := by
  simp only [liftEmpty]
  simp_all
@[simp] theorem linkCore_keepCount (n : Nat) (j : Judgement) (b : Blocks) : linkCore (keepCount n j b) = linkCore b := by
  simp only [keepCount]
  simp_all
@[simp] theorem linkCore_sensorFault (b : Blocks) : linkCore (sensorFault b) = linkCore b := by
  simp only [sensorFault]
  repeat' split
  all_goals simp_all
@[simp] theorem linkCore_paperSeen (b : Blocks) : linkCore (paperSeen b) = linkCore b := by
  simp only [paperSeen]
  repeat' split
  all_goals simp_all
@[simp] theorem linkCore_noPaperSeen (n : Nat) (b : Blocks) : linkCore (noPaperSeen n b) = linkCore b := by
  simp only [noPaperSeen]
  repeat' split
  all_goals simp_all
@[simp] theorem linkCore_levelMeasured (count : Nat) (b : Blocks) : linkCore (levelMeasured count b) = linkCore b := by
  simp only [levelMeasured]
  repeat' split
  all_goals simp_all
@[simp] theorem linkCore_baselineMeasured (count : Nat) (b : Blocks) : linkCore (baselineMeasured count b) = linkCore b := by
  simp only [baselineMeasured]
  repeat' split
  all_goals simp_all
@[simp] theorem linkCore_topLimitCovers (b : Blocks) : linkCore (topLimitCovers b) = linkCore b := by
  simp only [topLimitCovers]
  repeat' split
  all_goals simp_all
@[simp] theorem linkCore_lowerLimitCovers (b : Blocks) : linkCore (lowerLimitCovers b) = linkCore b := by
  simp only [lowerLimitCovers]
  repeat' split
  all_goals simp_all
@[simp] theorem linkCore_partingBegins (b : Blocks) : linkCore (partingBegins b) = linkCore b := by
  simp only [partingBegins]
  simp_all
@[simp] theorem linkCore_gearArrives (b : Blocks) : linkCore (gearArrives b) = linkCore b := by
  simp only [gearArrives]
  repeat' split
  all_goals simp_all
@[simp] theorem linkCore_partingEnds (b : Blocks) : linkCore (partingEnds b) = linkCore b := by
  simp only [partingEnds]
  repeat' split
  all_goals simp_all
@[simp] theorem linkCore_gearWithdrawn (b : Blocks) : linkCore (gearWithdrawn b) = linkCore b := by
  simp only [gearWithdrawn]
  repeat' split
  all_goals simp_all
@[simp] theorem linkCore_lftReset (b : Blocks) : linkCore (lftReset b) = linkCore b := by
  simp only [lftReset]
  repeat' split
  all_goals simp_all
@[simp] theorem linkCore_lftEstop (b : Blocks) : linkCore (lftEstop b) = linkCore b := by
  simp only [lftEstop]
  repeat' split
  all_goals simp_all
@[simp] theorem linkCore_lftChainReset (b : Blocks) : linkCore (lftChainReset b) = linkCore b := by
  simp only [lftChainReset]
  repeat' split
  all_goals simp_all
@[simp] theorem linkCore_lftStart (b : Blocks) : linkCore (lftStart b) = linkCore b := by
  simp only [lftStart]
  repeat' split
  all_goals simp_all
@[simp] theorem linkCore_msuStart (cause : StartupCause) (b : Blocks) : linkCore (msuStart cause b) = linkCore b := by
  simp only [msuStart]
  repeat' split
  all_goals simp_all
@[simp] theorem linkCore_startBlocks (cause : StartupCause) (b : Blocks) : linkCore (startBlocks cause b) = linkCore b := by
  simp only [startBlocks]
  simp_all
@[simp] theorem linkCore_orderlyStop (b : Blocks) : linkCore (orderlyStop b) = linkCore b := by
  simp only [orderlyStop]
  repeat' split
  all_goals simp_all
@[simp] theorem linkCore_startupEnds (b : Blocks) : linkCore (startupEnds b) = linkCore b := by
  simp only [startupEnds]
  simp_all
@[simp] theorem linkCore_chainOpens (b : Blocks) : linkCore (chainOpens b) = linkCore b := by
  simp only [chainOpens]
  repeat' split
  all_goals simp_all
@[simp] theorem linkCore_chainResets (b : Blocks) : linkCore (chainResets b) = linkCore b := by
  simp only [chainResets]
  simp_all
@[simp] theorem linkCore_resetPart (u : UnitName) (b : Blocks) : linkCore (resetPart u b) = linkCore b := by
  simp only [resetPart]
  repeat' split
  all_goals simp_all
@[simp] theorem linkCore_resetTaken (u : UnitName) (b : Blocks) : linkCore (resetTaken u b) = linkCore b := by
  simp only [resetTaken]
  repeat' split
  all_goals simp_all

/-! ## Level changes -/

@[simp] theorem linkCore_referenceUncovered (b : Blocks) : linkCore (referenceUncovered b) = linkCore b := by
  simp only [referenceUncovered]
  repeat' split
  all_goals simp_all
@[simp] theorem linkCore_bandRestarts (b : Blocks) : linkCore (bandRestarts b) = linkCore b := by
  simp only [bandRestarts]
  simp_all
@[simp] theorem linkCore_encoderOutOfBand (e : Int) (b : Blocks) : linkCore (encoderOutOfBand e b) = linkCore b := by
  simp only [encoderOutOfBand]
  repeat' split
  all_goals simp_all
@[simp] theorem linkCore_encoderTurns (e : Int) (b : Blocks) : linkCore (encoderTurns e b) = linkCore b := by
  simp only [encoderTurns]
  repeat' split
  all_goals simp_all
@[simp] theorem linkCore_flapOpens (b : Blocks) : linkCore (flapOpens b) = linkCore b := by
  simp only [flapOpens]
  repeat' split
  all_goals simp_all
@[simp] theorem linkCore_flapCloses (b : Blocks) : linkCore (flapCloses b) = linkCore b := by
  simp only [flapCloses]
  repeat' split
  all_goals simp_all
@[simp] theorem linkCore_quarterBegins (b : Blocks) : linkCore (quarterBegins b) = linkCore b := by
  simp only [quarterBegins]
  simp_all
@[simp] theorem linkCore_gripCloses (b : Blocks) : linkCore (gripCloses b) = linkCore b := by
  simp only [gripCloses]
  repeat' split
  all_goals simp_all
@[simp] theorem linkCore_gearHomes (b : Blocks) : linkCore (gearHomes b) = linkCore b := by
  simp only [gearHomes]
  repeat' split
  all_goals simp_all
@[simp] theorem linkCore_gearLevel (b : Blocks) : linkCore (gearLevel b) = linkCore b := by
  simp only [gearLevel]
  repeat' split
  all_goals simp_all
@[simp] theorem linkCore_stopUncovers (edge : StopEdge) (b : Blocks) : linkCore (stopUncovers edge b) = linkCore b := by
  simp only [stopUncovers]
  repeat' split
  all_goals simp_all
/-- A level change leaves the link but for its flags. -/
@[simp] theorem linkCore_applyLevel (c : LevelChange) (b : Blocks) : linkCore (applyLevel c b) = linkCore b := by
  unfold applyLevel
  split <;> first | rfl | simp

end Sys2Proof.Machine
end

