-- ==== Sys2Proof/Laws/Ops.lean ====
section
/-! SUPPORT. What the shared operations can do, once each: time, notices, requests, hold causes, the placing of a record, the
step. -/

set_option Elab.async false

namespace Sys2Proof.Machine

open Sys2Proof

/-! ## The step -/

/-- A command's next state is the state acted on. -/
theorem run_eq (f : Blocks → Blocks) (s : State) : run f s = .next (s.act f) := rfl

/-- With no command waiting, one of the block's own steps runs, or a millisecond passes. -/
theorem step_of_empty {s : State} (h : s.pending = []) :
    step s = match ownStep s with | some i => exec i s | none => .next (tick s) := by
  unfold step
  rw [h]
  rfl

/-- A tick changes neither the queue nor any unit but by the waiting level change it takes. -/
theorem tick_of_no_change {s : State} (h : s.silent = []) :
    tick s = { s with blocks := { s.blocks with clock := s.blocks.clock + 1 } } := by
  unfold tick
  rw [h]

/-! ## Requests -/

/-- After start-up a request reaches its owner. -/
theorem asRequest_of_ended {f : Blocks → Blocks} {b : Blocks} (h : b.msu.phase = .ended) : asRequest f b = f b :=
  if_pos h

/-- After start-up a request's act is its owner's. -/
theorem act_asRequest {f : Blocks → Blocks} {s : State} (h : StartedUp s) : s.act (asRequest f) = s.act f := by
  unfold State.act
  rw [asRequest_of_ended h]

/-! ## Time and notices -/

/-- A timer's expiry touches the clock alone. -/
theorem clockAt_eq (d : Option Ms) (b : Blocks) :
    clockAt d b = { b with clock := match d with | some t => max b.clock t | none => b.clock } := by
  cases d <;> rfl

@[simp] theorem inputs_clockAt (d) (b : Blocks) : (clockAt d b).inputs = b.inputs := by cases d <;> rfl
@[simp] theorem msu_clockAt (d) (b : Blocks) : (clockAt d b).msu = b.msu := by cases d <;> rfl
@[simp] theorem seq_clockAt (d) (b : Blocks) : (clockAt d b).seq = b.seq := by cases d <;> rfl
@[simp] theorem trk_clockAt (d) (b : Blocks) : (clockAt d b).trk = b.trk := by cases d <;> rfl
@[simp] theorem gax_clockAt (d) (b : Blocks) : (clockAt d b).gax = b.gax := by cases d <;> rfl
@[simp] theorem cku_clockAt (d) (b : Blocks) : (clockAt d b).cku = b.cku := by cases d <;> rfl
@[simp] theorem trn_clockAt (d) (b : Blocks) : (clockAt d b).trn = b.trn := by cases d <;> rfl
@[simp] theorem lft_clockAt (d) (b : Blocks) : (clockAt d b).lft = b.lft := by cases d <;> rfl
@[simp] theorem jog_clockAt (d) (b : Blocks) : (clockAt d b).jog = b.jog := by cases d <;> rfl
@[simp] theorem lib_clockAt (d) (b : Blocks) : (clockAt d b).lib = b.lib := by cases d <;> rfl
@[simp] theorem lnk_clockAt (d) (b : Blocks) : (clockAt d b).lnk = b.lnk := by cases d <;> rfl
@[simp] theorem answer_clockAt (d) (b : Blocks) : (clockAt d b).answer = b.answer := by cases d <;> rfl
@[simp] theorem freeIndex_clockAt (d) (b : Blocks) : (clockAt d b).freeIndex = b.freeIndex := by cases d <;> rfl

/-- The clock never runs back at an expiry, and reaches the end of the time. -/
theorem le_clock_clockAt (d : Option Ms) (b : Blocks) : b.clock ≤ (clockAt d b).clock ∧ ∀ t, d = some t → t ≤ (clockAt d b).clock := by
  cases d <;> simp [clockAt]

@[simp] theorem inputs_raiseIf (c k) (b : Blocks) : (raiseIf c k b).inputs = b.inputs := by cases c <;> rfl
@[simp] theorem msu_raiseIf (c k) (b : Blocks) : (raiseIf c k b).msu = b.msu := by cases c <;> rfl
@[simp] theorem seq_raiseIf (c k) (b : Blocks) : (raiseIf c k b).seq = b.seq := by cases c <;> rfl
@[simp] theorem trk_raiseIf (c k) (b : Blocks) : (raiseIf c k b).trk = b.trk := by cases c <;> rfl
@[simp] theorem gax_raiseIf (c k) (b : Blocks) : (raiseIf c k b).gax = b.gax := by cases c <;> rfl
@[simp] theorem cku_raiseIf (c k) (b : Blocks) : (raiseIf c k b).cku = b.cku := by cases c <;> rfl
@[simp] theorem trn_raiseIf (c k) (b : Blocks) : (raiseIf c k b).trn = b.trn := by cases c <;> rfl
@[simp] theorem lft_raiseIf (c k) (b : Blocks) : (raiseIf c k b).lft = b.lft := by cases c <;> rfl
@[simp] theorem jog_raiseIf (c k) (b : Blocks) : (raiseIf c k b).jog = b.jog := by cases c <;> rfl
@[simp] theorem lib_raiseIf (c k) (b : Blocks) : (raiseIf c k b).lib = b.lib := by cases c <;> rfl
@[simp] theorem clock_raiseIf (c k) (b : Blocks) : (raiseIf c k b).clock = b.clock := by cases c <;> rfl
@[simp] theorem answer_raiseIf (c k) (b : Blocks) : (raiseIf c k b).answer = b.answer := by cases c <;> rfl
@[simp] theorem freeIndex_raiseIf (c k) (b : Blocks) : (raiseIf c k b).freeIndex = b.freeIndex := by cases c <;> rfl

/-- A flag set is read back. -/
@[simp] theorem Flags.get_set_same (f : Flags) (k : NoticeKind) (v : Bool) : (f.set k v).get k = v := by cases k <;> rfl

/-- A flag set leaves the others. -/
theorem Flags.get_set_other (f : Flags) {j k : NoticeKind} (h : j ≠ k) (v : Bool) : (f.set k v).get j = f.get j := by
  cases j <;> cases k <;> first | rfl | exact absurd rfl h

/-- A counter stops at its top. -/
theorem addUpTo_le (top n k : Nat) : addUpTo top n k ≤ top := min_le_left _ _

/-! ## Hold causes (R41 to R44) -/

/-- In RUNNING the hold record is filled and the units are brought to rest. -/
theorem holdCause_of_running {b : Blocks} (c : HoldCause) (h : b.seq.state = .running) :
    holdCause c b = unitsToRest (enterHeld c b) := by
  simp [holdCause, h]

/-- In HELD a further cause is marked. -/
theorem holdCause_of_held {b : Blocks} (c : HoldCause) (h : b.seq.state = .held) : holdCause c b = furtherCause b := by
  simp [holdCause, h]

/-- In every other state a hold cause does nothing. -/
theorem holdCause_of_other {b : Blocks} (c : HoldCause) (h : b.seq.state = .idle ∨ b.seq.state = .loaded ∨ b.seq.state = .finished) :
    holdCause c b = b := by
  rcases h with h | h | h <;> simp [holdCause, h]

/-! ## Placing a record (R180) -/

/-- A write is compared first, and then placed as the next record. -/
theorem placeRecord_cases (kind : RecKind) (key : Nat) (body : List Byte) (b : Blocks) :
    ((∃ r, currentRecord b.lib kind key = some r ∧ r.body = body) ∧ placeRecord kind key body b = (b, .unchanged))
      ∨ placeRecord kind key body b = programNext kind key body b := by
  simp only [placeRecord]
  split
  · rename_i r h
    split
    · rename_i hb
      exact .inl ⟨⟨r, h, hb⟩, rfl⟩
    · exact .inr rfl
  · exact .inr rfl

/-- A record is programmed, or the flash fails and the library is closed. -/
theorem programRecord_cases (i : Nat) (r : Rec) (b : Blocks) :
    (b.inputs.programFails = false ∧ programRecord i r b
        = (setLib (fun l => reindex { l with flash := appendSlot l.flash i (.valid r) }) b, .done))
      ∨ (b.inputs.programFails = true ∧ (programRecord i r b).2 = .failed) := by
  simp only [programRecord]
  cases h : b.inputs.programFails <;> simp

/-- The status a placed record gives. -/
theorem programNext_status (kind : RecKind) (key : Nat) (body : List Byte) (b : Blocks) :
    (programNext kind key body b).2 = .ok ∨ (programNext kind key body b).2 = .libraryFull
      ∨ (programNext kind key body b).2 = .libraryClosed := by
  simp only [programNext]
  repeat' split
  all_goals simp

end Sys2Proof.Machine
end

