-- ==== Sys2Proof/WellFormed.lean ====
section
/-! DEFINITION. The well-formed commands: every operand of a request fits the bytes R192 gives it, and every reading of a
sensor lies in the range its rule gives. A command's meaning is defined on ill-formed operands too. -/

namespace Sys2Proof

/-- A figure of one byte, unsigned (R192). -/
def fitsByte (n : Nat) : Bool := decide (n < 256)

/-- A figure of two bytes, unsigned (R192). -/
def fitsWord (n : Nat) : Bool := decide (n < 65536)

/-- A figure of two bytes in two's complement (R192). -/
def fitsSigned (k : Int) : Bool := decide (-32768 ≤ k) && decide (k < 32768)

/-- A figure of four bytes in two's complement (R192). -/
def fitsLong (k : Int) : Bool := decide (-2147483648 ≤ k) && decide (k < 2147483648)

/-- A correction value that can be sent; the pattern 8000 hex is INVALID (R192). -/
def fitsPoint : Option Int → Bool
  | none => true
  | some v => fitsSigned v && decide (v ≠ -32768)

/-- The figures of a stock profile that can be sent (R3, R192). -/
def StockFigures.fits (f : StockFigures) : Bool :=
  fitsSigned f.stretchA && fitsSigned f.stretchB && fitsWord f.squeeze && fitsWord f.clampPressure && fitsWord f.jogTime
    && fitsWord f.jogPeriod && fitsWord f.jogDuty && fitsWord f.jogGap

/-- The level sensor's count has 16 bits (R144); the other levels are single bits or the encoder's count. -/
def Inputs.wf (i : Inputs) : Bool := fitsWord i.levelCount

/-- The well-formed commands. -/
def Instr.wf : Instr → Bool
  | .powerOn inp => inp.wf
  | .modeSet m => fitsByte m
  | .unitReset n => fitsByte n
  | .jobLoad j l k => fitsWord j && decide (l < 4294967296) && fitsWord k
  | .piecesRead n => fitsByte n
  | .setOrientation o => fitsByte o
  | .gaugeJog t => fitsLong t
  | .manualCut p => fitsWord p
  | .knifeChanged k w g => fitsSigned k && fitsWord w && fitsWord g
  | .turnManual q => fitsByte q
  | .sensorBaseline w d => fitsWord w && fitsByte d
  | .jobBegin k n l => fitsByte k && fitsWord n && fitsWord l
  | .jobPart o d => fitsWord o && decide (1 ≤ d.length) && decide (d.length ≤ 237)
  | .jobEnd c => fitsWord c
  | .jobRead k n o => fitsByte k && fitsWord n && fitsWord o
  | .jobDelete k n => fitsByte k && fitsWord n
  | .stockWrite n f => fitsWord n && f.fits
  | .stockRead n => fitsWord n
  | .corrWrite a n v => fitsWord a && fitsWord n && decide (v.length = n) && v.all fitsPoint
  | .corrRead a n => fitsWord a && fitsWord n
  | .pressureSample p => decide (p ≤ 600)
  | .levelMeasurement n => fitsWord n
  | .baselineMeasurement n => fitsWord n
  | _ => true

end Sys2Proof
end

