-- ==== Sys2Proof/Tests/Slice0.lean ====
section
/-! SUPPORT. The model's own tests: the ill-formed commands that the check refuses, figures the manual works out, one or two
steps of each family, and for every obligation with hypotheses a state and operands that meet them. -/

set_option Elab.async false

namespace Sys2Proof.Tests

open Sys2Proof Sys2Proof.Machine

/-- The state after reset with its block changed. -/
def st (f : Blocks → Blocks) : State := State.reset.act f

/-- The next state of a command. -/
def nextOf (c : Instr) (s : State) : State :=
  match exec c s with
  | .next t => t
  | _ => s

/-- The next state of a step. -/
def stepOf (s : State) : Option State :=
  match step s with
  | .next t => some t
  | _ => none

/-- The block after a command on the changed reset state. -/
def after (c : Instr) (f : Blocks → Blocks) : Blocks := (nextOf c (st f)).blocks

/-- The status a request is answered with. -/
def statusOf (c : Instr) (f : Blocks → Blocks) : Option Status := (after c f).answer.map (·.status)

/-- The stock of section 4.10. -/
def stock7 : StockFigures :=
  { stretchA := 12, stretchB := -35, squeeze := 40, clampPressure := 320, jogTime := 25, jogPeriod := 40, jogDuty := 75,
    jogGap := 2 }

/-- The block of case A of section 4.10. -/
def blockA : Block :=
  { portion := 1, nomDepth := 312000, nomWidth := 594000, strDepth := 312374, strWidth := 591921, height := 900,
    orientation := some 0, axis := .headFoot, edges := ⟨false, false, false, false⟩, partialCut := false }

/-- A snapshot with one CUT and one TURN. -/
def snapA : Snapshot :=
  { job := 214, name := [], depth := 600000, width := 880000, height := 900,
    steps := [.cut .abs 2 false 305000 none, .turn 2, .eject, .endStep], subs := [], stockNumber := 7, stock := stock7,
    loadPosition := 605720 }

/-- SEQ with the snapshot, in a state, at a step and a phase. -/
def seqAt (q : SeqState) (i : Nat) (p : Phase) (b : Blocks) : Blocks :=
  setSeq (fun s => { s with state := q, snapshot := some snapA,
                            run := { s.run with job := 214, lot := 20, stock := 7, loc := ⟨.main, i⟩, phase := p } }) b

/-- The chain closed and reset, in a mode. -/
def ready (m : CellMode) (b : Blocks) : Blocks := setMsu (fun u => { u with mode := m, estop := .chainOk }) b

/-- The gauge standing at a completed target. -/
def gaugeAt (p : Um) (b : Blocks) : Blocks :=
  setGax (fun g => { g with state := .standstill, referenced := true, inPosition := true, start := .at p, drive := true }) b

/-- A cycle record. -/
def cycle (asker : CutAsker) (bdc : Bool) : Cycle :=
  { asker := asker, target := 320, waste := false, armed := true, restAsked := false, lastReversal := none, knifeTerm := none,
    bdcTaken := bdc }

/-- CKU in a state with a cycle. -/
def ckuAt (q : CycleState) (c : Cycle) (b : Blocks) : Blocks :=
  setInputs (fun i => { i with upperStop := false }) (setCku (fun u => { u with state := q, cycle := some c }) b)

/-- A turn record. -/
def turnOf (asker : TurnAsker) (n : Nat) : TurnRecord :=
  { asker := asker, requested := n, done := 0, restAsked := false, since := 0 }

/-- TRN in a state with a record. -/
def trnAt (q : TrnState) (r : TurnRecord) (b : Blocks) : Blocks := setTrn (fun t => { t with state := q, record := some r }) b

/-! ## Ill-formed commands are refused by the check -/

theorem test_wf_powerOn : (Instr.powerOn { Inputs.atReset with levelCount := 65536 }).wf = false := by decide
theorem test_wf_modeSet : (Instr.modeSet 256).wf = false := by decide
theorem test_wf_unitReset : (Instr.unitReset 256).wf = false := by decide
theorem test_wf_jobLoad : (Instr.jobLoad 65536 1 1).wf = false ∧ (Instr.jobLoad 1 4294967296 1).wf = false
    ∧ (Instr.jobLoad 1 1 65536).wf = false := by decide
theorem test_wf_piecesRead : (Instr.piecesRead 256).wf = false := by decide
theorem test_wf_setOrientation : (Instr.setOrientation 256).wf = false := by decide
theorem test_wf_gaugeJog : (Instr.gaugeJog 2147483648).wf = false ∧ (Instr.gaugeJog (-2147483649)).wf = false := by decide
theorem test_wf_manualCut : (Instr.manualCut 65536).wf = false := by decide
theorem test_wf_knifeChanged : (Instr.knifeChanged 32768 0 8).wf = false ∧ (Instr.knifeChanged (-32769) 0 8).wf = false
    ∧ (Instr.knifeChanged 0 65536 8).wf = false ∧ (Instr.knifeChanged 0 0 65536).wf = false := by decide
theorem test_wf_turnManual : (Instr.turnManual 256).wf = false := by decide
theorem test_wf_sensorBaseline : (Instr.sensorBaseline 65536 12).wf = false ∧ (Instr.sensorBaseline 1024 256).wf = false := by
  decide
theorem test_wf_jobBegin : (Instr.jobBegin 256 1 1).wf = false ∧ (Instr.jobBegin 1 65536 1).wf = false
    ∧ (Instr.jobBegin 1 1 65536).wf = false := by decide
theorem test_wf_jobPart : (Instr.jobPart 65536 [0]).wf = false ∧ (Instr.jobPart 0 []).wf = false
    ∧ (Instr.jobPart 0 (List.replicate 238 0)).wf = false := by decide +kernel
theorem test_wf_jobEnd : (Instr.jobEnd 65536).wf = false := by decide
theorem test_wf_jobRead : (Instr.jobRead 256 1 0).wf = false ∧ (Instr.jobRead 1 65536 0).wf = false
    ∧ (Instr.jobRead 1 1 65536).wf = false := by decide
theorem test_wf_jobDelete : (Instr.jobDelete 256 1).wf = false ∧ (Instr.jobDelete 1 65536).wf = false := by decide
theorem test_wf_stockWrite : (Instr.stockWrite 65536 stock7).wf = false
    ∧ (Instr.stockWrite 7 { stock7 with stretchA := 32768 }).wf = false
    ∧ (Instr.stockWrite 7 { stock7 with stretchB := -32769 }).wf = false
    ∧ (Instr.stockWrite 7 { stock7 with squeeze := 65536 }).wf = false
    ∧ (Instr.stockWrite 7 { stock7 with clampPressure := 65536 }).wf = false
    ∧ (Instr.stockWrite 7 { stock7 with jogTime := 65536 }).wf = false
    ∧ (Instr.stockWrite 7 { stock7 with jogPeriod := 65536 }).wf = false
    ∧ (Instr.stockWrite 7 { stock7 with jogDuty := 65536 }).wf = false
    ∧ (Instr.stockWrite 7 { stock7 with jogGap := 65536 }).wf = false := by decide
theorem test_wf_stockRead : (Instr.stockRead 65536).wf = false := by decide
theorem test_wf_corrWrite : (Instr.corrWrite 65536 1 [none]).wf = false ∧ (Instr.corrWrite 0 65536 []).wf = false
    ∧ (Instr.corrWrite 0 2 [none]).wf = false ∧ (Instr.corrWrite 0 1 [some (-32768)]).wf = false := by decide
theorem test_wf_corrRead : (Instr.corrRead 65536 1).wf = false ∧ (Instr.corrRead 0 65536).wf = false := by decide
theorem test_wf_pressureSample : (Instr.pressureSample 601).wf = false := by decide
theorem test_wf_measurements : (Instr.levelMeasurement 65536).wf = false ∧ (Instr.baselineMeasurement 65536).wf = false := by
  decide
theorem test_wf_holds : (Instr.gaugeJog 702500).wf = true ∧ (Instr.stockWrite 7 stock7).wf = true
    ∧ (Instr.corrWrite 140 2 [some 5, none]).wf = true ∧ Instr.tdcCovered.wf = true := by decide

/-! ## Figures the manual works out -/

/-- R195 gives the check of the nine characters 123456789. -/
theorem test_crc : crc16 [0x31, 0x32, 0x33, 0x34, 0x35, 0x36, 0x37, 0x38, 0x39] = 0x29B1#16 := by decide +kernel

/-- Case A of section 4.10: the knife term, S, P and the count. -/
theorem test_case_a : knifeTermOf ⟨-15, 6, 23450, 8⟩ = 125 ∧ stretched 305000 12 = 305366
    ∧ countOf (305531 + 19) = 61110 := by decide +kernel

/-- R80 works out a falling correction: 10 to -20 at r = 2,600 gives -5. -/
theorem test_correction_truncates : correctionAt [some 10, some (-20)] 2600 = some (-5) := by decide +kernel

/-- R82: the lowest and the highest count of the travel. -/
theorem test_counts : countOf 21750 = 4350 ∧ countOf 1150250 = 230050 := by decide +kernel

/-- R86: the lowest nominal depth a manual cut can give. -/
theorem test_inverse : unstretched 22000 200 = 21569 := by decide +kernel

/-- Section 8.10: the baseline moves an eighth of the way, toward zero. -/
theorem test_baseline : trackedBaseline 4000 4040 = 4005 ∧ trackedBaseline 4005 3990 = 4004 := by decide +kernel

/-- R192: figures travel high byte first, negative ones in two's complement. -/
theorem test_bytes : beInt [0xFF, 0xDD] = -35 ∧ beBytes 2 (-35) = [0xFF, 0xDD] ∧ beBytes 4 305000 = [0, 4, 0xA7, 0x68] := by
  decide +kernel

/-- R196: a CUT ABS of one product piece at 305,000. -/
theorem test_step_record : readStep ([1, 1, 1, 0] ++ beBytes 4 305000 ++ [0, 0, 0, 0]) = .step (.cut .abs 1 false 305000 none) := by
  decide +kernel

/-- R3: the stock body is read back. -/
theorem test_stock_body : decodeStock (StockFigures.encode stock7) = some stock7 := by decide +kernel

/-- A jog record of the table of R158. -/
def jogOf (period gap duty : Nat) : JogRecord :=
  { jogTime := 25, period := period, duty := duty, gap := gap, onTime := coilOnTime period duty gap, start := 0, periods := 0 }

/-- The first row of the table of R158: coil A 2..15 ms, coil B 22..35 ms. -/
theorem test_coils : ((List.range 40).filter fun t => coilAOn (jogOf 40 2 75) t) = [2, 3, 4, 5, 6, 7, 8, 9, 10, 11, 12, 13, 14]
    ∧ ((List.range 40).filter fun t => coilBOn (jogOf 40 2 75) t) = [22, 23, 24, 25, 26, 27, 28, 29, 30, 31, 32, 33, 34] := by
  decide +kernel

/-- R159: 2,400 ms and 2,500 ms of 40 ms periods. -/
theorem test_periods : jogPeriods 24 40 = 60 ∧ jogPeriods 25 40 = 63 := by decide +kernel

/-! ## The families, a step or two each -/

theorem test_powerOn : (after (.powerOn Inputs.atReset) id).msu.phase = .statesTaken
    ∧ (after (.powerOn { Inputs.atReset with tdc := false }) id).cku.state = .knifeReturnNeeded := by decide +kernel
theorem test_startupEnd :
    (let b := (nextOf .startupEnd (nextOf (.powerOn Inputs.atReset) State.reset)).blocks
     (b.msu, b.seq, b.trk, b.cku) = (Msu.atReset, Seq.atReset, Trk.atReset, Cku.atReset)
      ∧ (b.trn, b.lft, b.jog, b.lnk) = (Trn.atReset, Lft.atReset, Jog.atReset, Blocks.atReset.lnk)) := by decide +kernel
theorem test_estopReset : (after .estopReset id).msu.estop = .chainOk ∧ (after .estopReset id).gax.drive = true := by decide +kernel
theorem test_autoRefused : statusOf (.modeSet 3) (ready .setup) = some .refusedState
    ∧ statusOf (.modeSet 3) (fun b => gaugeAt 1150000 (ready .setup b)) = some .ok := by decide +kernel
theorem test_jobLoad_absent : statusOf (.jobLoad 214 20 7) (ready .setup) = some .notFound := by decide +kernel
theorem test_jobHold : (after .jobHold (seqAt .running 0 .permit)).seq.hold.cause = some .operatorHold := by decide +kernel
theorem test_blockClear : statusOf .blockClear (ready .setup) = some .ok := by decide +kernel
theorem test_gaugeJog : (after (.gaugeJog 2000000) (fun b => gaugeAt 700000 (ready .setup b))).gax.move.map
    (fun m => (m.target, m.clamped, m.approach, m.overshoot, m.leg)) = some (1150000, true, .rearward, some ⟨1150000, 230000⟩, .final) := by decide +kernel
theorem test_gaugeHome : (after .gaugeHome (ready .setup)).gax.homing = .seek := by decide +kernel
theorem test_manualCut : statusOf (.manualCut 20) (ready .setup) = some .accepted
    ∧ (after (.manualCut 20) (ready .setup)).cku.cycle.map (·.target) = some 50 := by decide +kernel
theorem test_knifeChanged : (after (.knifeChanged (-15) 6 8) (ready .setup)).cku.knife = ⟨-15, 6, 0, 8⟩
    ∧ (after (.knifeChanged (-15) 6 8) (ready .setup)).cku.unstored = false := by decide +kernel
theorem test_turnManual_noBlock : statusOf (.turnManual 1) (fun b => gaugeAt 1150000 (ready .setup b)) = some .refusedState := by
  decide +kernel
theorem test_liftRaise : (after .liftRaise (ready .setup)).lft.state = .raising := by decide +kernel
theorem test_levelMeasurement : (after (.levelMeasurement 3498) (fun b => setLft (fun l => { l with state := .raising }) b)).lft.state
    = .atLevel := by decide +kernel
theorem test_stockWrite : (currentItem (after (.stockWrite 7 stock7) id).lib .stock 7).map (·.seq) = some 1
    ∧ statusOf (.stockRead 7) (fun _ => after (.stockWrite 7 stock7) id) = some .ok := by decide +kernel
theorem test_corrWrite : (after (.corrWrite 140 2 [some 5, some 8]) id).gax.table[141]? = some (some 8) := by decide +kernel
theorem test_libErase : (after .libErase id).lib.work = some (.eraseAll 0) := by decide +kernel
theorem test_frame_overLength : (after (.frameReceived [⟨0x7E, 0⟩, ⟨241, 0⟩]) id).lnk.counters.length = 1 := by decide +kernel
theorem test_transmit_notice : (after .transmitNextFrame id).lnk.noticeNumber = 1
    ∧ (after .transmitNextFrame id).lnk.flags.cell = false := by decide +kernel
theorem test_idle_tick : (stepOf (st fun b => setLnk (fun _ => Lnk.atReset) (setGax (fun g => { g with table := [] })
    (setLib (fun l => { l with flash := [], corrIndex := [] }) b)))).map (·.blocks.clock) = some 1 := by decide +kernel
theorem test_decode_none : decodeTableWord 8 0 = none ∧ State.reset.withFetchWord 8 0 = State.reset := ⟨rfl, rfl⟩

/-! ## The hypotheses of the obligations can be met -/

theorem witness_StepRunsFront : ({ State.reset with pending := [.cellStatus] } : State).pending = .cellStatus :: [] := rfl

theorem witness_StartedUp : StartedUp State.reset := rfl

theorem witness_laws : (ValveLaw Blocks.atReset ∧ LinkBounds Blocks.atReset ∧ CounterBounds Blocks.atReset
    ∧ StackBound Blocks.atReset ∧ FlashShape Blocks.atReset) ∧ (stepOf { State.reset with pending := [.jobHold] }).isSome = true := by
  unfold ValveLaw LinkBounds CounterBounds StackBound FlashShape
  decide +kernel

/-- A knife in GAP whose time has come. -/
def gapBlocks (b : Blocks) : Blocks :=
  setCku (fun u => { u with downClosedAt := some 100, deadline := some 108 }) (ckuAt .gap (cycle .seq true) b)

theorem witness_StepKeepsValveGap : GapLaw (gapBlocks Blocks.atReset)
    ∧ (nextOf .valveGapEnd (st gapBlocks)).blocks.cku.valves.ret = true := by
  refine ⟨⟨fun _ => ⟨108, rfl, by decide +kernel⟩, fun h => absurd h (by decide +kernel)⟩, by decide +kernel⟩

/-- A clamped cut with both buttons pressed. -/
def permitBlocks (b : Blocks) : Blocks :=
  setInputs (fun i => { i with leftHeld := true, rightHeld := true })
    (setCku (fun u => { u with sample := some 320, rearmed := true, leftOnset := some 0, rightOnset := some 500 })
      (ckuAt .clamped (cycle .manual false) (ready .setup b)))

theorem witness_DownValveNeedsPermit : (st permitBlocks).blocks.cku.valves.down = false
    ∧ (after .strokeBegin permitBlocks).cku.valves.down = true := by decide +kernel

theorem witness_permit_lapses : (after .strokeBegin fun b =>
    setCku (fun u => { u with rightOnset := some 501 }) (permitBlocks b)).cku.valves.down = false := by decide +kernel

theorem witness_StartupRequestsBusy : (Instr.modeSet 1).isRequest = true ∧ Instr.modeSet 1 ≠ .cellStatus
    ∧ Instr.modeSet 1 ≠ .linkStatus ∧ (after (.powerOn Inputs.atReset) id).msu.phase ≠ .ended := by decide +kernel

/-- A move of the terminal in flight. -/
def jogging : MoveRecord :=
  { kind := .jog, asker := .terminal, target := 700000, corr := 0, uncorrected := false, encoderTarget := 700000,
    countTarget := 140000, clamped := false, approach := .forward, overshoot := none, leg := .final, start := 900000,
    moveTime := 1200, completed := none }

/-- GAX with that move under way. -/
def gaxMoving (b : Blocks) : Blocks :=
  setGax (fun g => { g with state := .moving, move := some jogging, deadline := some 1200 }) (gaugeAt 900000 b)

theorem witness_LeavingSetupRestsHandWork :
    (let b := gaxMoving Blocks.atReset
     b.gax.state = .moving ∧ b.gax.stopping = false ∧ moveInFlight b = true ∧ moveAsker b = some .terminal)
    ∧ (let b := ckuAt .stroking (cycle .manual false) Blocks.atReset
       b.cku.state = .stroking ∧ manualCycle b = true)
    ∧ (let b := ckuAt .clamped (cycle .manual false) Blocks.atReset
       b.cku.state = .clamped ∧ b.inputs.upperStop = false ∧ manualCycle b = true)
    ∧ (let b := setCku (fun u => { u with knifeReturn := true, state := .returning }) Blocks.atReset
       b.cku.knifeReturn = true ∧ b.cku.state = .returning)
    ∧ (let b := trnAt .gripping (turnOf .terminal 2) Blocks.atReset
       b.trn.state = .gripping ∧ turnAsker b = some .terminal)
    ∧ (let b := trnAt .turning (turnOf .terminal 2) Blocks.atReset
       b.trn.state = .turning ∧ turnAsker b = some .terminal)
    ∧ (let b := Blocks.atReset
       b.gax.state ≠ .homing ∧ moveInFlight b = false ∧ manualCycle b = false ∧ b.cku.knifeReturn = false
        ∧ turnAsker b ≠ some .terminal) := by decide +kernel

theorem witness_EstopChainOpens :
    ((st fun b => setMsu (fun m => { m with estop := .stopped }) b).blocks.msu.estop = .stopped)
    ∧ (let b := (st fun b => setCku (fun u => { u with valves := { Valves.closed with down := true } }) (ready .auto b)).blocks
       b.msu.estop = .chainOk ∧ b.cku.valves.down = true ∧ b.trn.state = .parked ∧ b.lft.state ≠ .parting
        ∧ b.seq.state ≠ .running)
    ∧ (let b := (st fun b => setCku (fun u => { u with valves := { Valves.closed with ret := true } })
         (trnAt .turning (turnOf .seq 1) (seqAt .running 1 .turn (ready .auto b)))).blocks
       b.msu.estop = .chainOk ∧ b.cku.valves.ret = true ∧ b.trn.state ≠ .parked ∧ b.trn.state = .turning
        ∧ b.seq.state = .running)
    ∧ (let b := (st fun b => setLft (fun l => { l with state := .parting }) (setJog (fun j => { j with state := .transferring })
         (ready .auto b))).blocks
       b.msu.estop = .chainOk ∧ b.lft.state = .parting ∧ b.jog.state = .transferring)
    ∧ (let b := (st fun b => setJog (fun j => { j with state := .jogging }) (ready .auto b)).blocks
       b.msu.estop = .chainOk ∧ b.jog.state = .jogging) := by decide +kernel

theorem witness_UnitResetJudged : StartedUp (st (ready .setup)) ∧ ((0 : Nat) = 0 ∨ 5 < (0 : Nat)) ∧ ((6 : Nat) = 0 ∨ 5 < (6 : Nat))
    ∧ 1 = (match UnitName.gax with | .gax => 1 | .cku => 2 | .trn => 3 | .lft => 4 | .jog => 5)
    ∧ 5 = (match UnitName.jog with | .gax => 1 | .cku => 2 | .trn => 3 | .lft => 4 | .jog => 5) :=
  ⟨rfl, by decide, by decide, rfl, rfl⟩

/-- R124, R165, R174: CKU in OPEN is reset where the flap is not CLOSED, and JOG in RECEIVING; neither as start-up leaves them. -/
theorem test_resetActs :
    resetActs .cku Blocks.atReset = false
    ∧ resetActs .cku (setCku (fun u => { u with flap := .opened }) Blocks.atReset) = true
    ∧ resetActs .jog Blocks.atReset = false
    ∧ resetActs .jog (setJog (fun j => { j with state := .receiving }) Blocks.atReset) = true := by decide

theorem witness_UnitResetParts :
    (let b := Blocks.atReset
     b.gax.state ≠ .fault ∧ b.trn.state ≠ .fault ∧ b.lft.state ≠ .fault ∧ b.jog.state = .empty)
    ∧ (let b := setGax (fun g => { g with state := .fault, fault := some .settleTimeout }) Blocks.atReset
       b.gax.state = .fault ∧ (b.gax.fault = some .moveTimeout ∨ b.gax.fault = some .settleTimeout))
    ∧ (let b := setGax (fun g => { g with state := .fault, fault := some .limitSwitch }) Blocks.atReset
       b.gax.state = .fault ∧ (b.gax.fault = some .limitSwitch ∨ b.gax.fault = some .driveFault) ∧ b.inputs.driveFault = false)
    ∧ (let b := setInputs (fun i => { i with driveFault := true })
         (setGax (fun g => { g with state := .fault, fault := some .driveFault }) Blocks.atReset)
       b.gax.state = .fault ∧ b.gax.fault = some .driveFault ∧ b.inputs.driveFault = true)
    ∧ (let b := setInputs (fun i => { i with tdc := false }) (setCku (fun u => { u with state := .fault }) Blocks.atReset)
       b.cku.state = .fault ∧ b.inputs.tdc = false)
    ∧ (let b := setInputs (fun i => { i with upperStop := false }) (setCku (fun u => { u with state := .fault }) Blocks.atReset)
       b.cku.state = .fault ∧ b.inputs.tdc = true ∧ b.inputs.upperStop = false ∧ b.cku.flap = .closed)
    ∧ (let b := setInputs (fun i => { i with armsOpen := false }) (setTrn (fun t => { t with state := .fault }) Blocks.atReset)
       b.trn.state = .fault ∧ b.inputs.armsOpen = false)
    ∧ (let b := setInputs (fun i => { i with bladeHome := false }) (setLft (fun l => { l with state := .fault }) Blocks.atReset)
       b.lft.state = .fault ∧ gearAtRest b = false)
    ∧ (let b := setLft (fun l => { l with state := .fault }) (ready .setup Blocks.atReset)
       b.lft.state = .fault ∧ gearAtRest b = true ∧ b.lft.height.isSome = true ∧ b.lft.baseline ≠ 0 ∧ b.msu.estop = .chainOk)
    ∧ (let b := setJog (fun j => { j with state := .fault }) Blocks.atReset
       (b.jog.state = .fault ∨ b.jog.state = .receiving ∨ b.jog.state = .aligned) ∧ b.inputs.carriageHome = true)
    ∧ (let b := setInputs (fun i => { i with carriageHome := false }) (setJog (fun j => { j with state := .aligned }) Blocks.atReset)
       (b.jog.state = .fault ∨ b.jog.state = .receiving ∨ b.jog.state = .aligned) ∧ b.inputs.carriageHome = false) := by
  decide +kernel

theorem witness_StartupBegins :
    (StartedUp (st (seqAt .running 0 .none)) ∧ (st (seqAt .running 0 .none)).blocks.seq.state = .running)
    ∧ (StartedUp State.reset ∧ State.reset.blocks.seq.state ≠ .running)
    ∧ (let s := nextOf (.powerOn Inputs.atReset) State.reset
       s.blocks.msu.phase = .statesTaken ∧ s.blocks.lnk.restartReply = false)
    ∧ (State.reset.blocks.msu.phase ≠ .statesTaken ∨ State.reset.blocks.lnk.restartReply = true) := by
  unfold StartedUp
  decide +kernel

theorem witness_HoldCauseTaken : (seqAt .running 0 .permit Blocks.atReset).seq.state = .running
    ∧ (seqAt .held 0 .permit Blocks.atReset).seq.state = .held ∧ Blocks.atReset.seq.state ≠ .running
    ∧ Blocks.atReset.seq.state ≠ .held := by decide +kernel

/-- A HELD job that awaits a portion. -/
def heldWaiting (b : Blocks) : Blocks := setRun (fun r => { r with wait := .portion }) (seqAt .held 0 .none b)

theorem witness_JobResumeJudged : (heldWaiting Blocks.atReset).seq.run.wait = .portion
    ∧ (∀ p : Phase, (seqAt .held 0 p Blocks.atReset).seq.run.wait ≠ .portion
        ∧ (seqAt .held 0 p Blocks.atReset).seq.run.phase = p)
    ∧ currentStep (seqAt .held 0 .compute Blocks.atReset) = some (.cut .abs 2 false 305000 none)
    ∧ currentStep (seqAt .held 1 .turn Blocks.atReset) = some (.turn 2)
    ∧ currentStep (seqAt .held 2 .push Blocks.atReset) = some .eject := by
  refine ⟨rfl, fun p => ⟨fun h => ?_, rfl⟩, rfl, rfl, rfl⟩
  cases h

/-- A frame of a CALL with some repeats left. -/
def frameOf (n : Nat) : Frame :=
  { caller := .main, retIndex := 1, sub := 5, repeats := n, base := 305000, saved := none }

/-- The block of case A on the table, with a stack. -/
def withStack (fs : List Frame) (b : Blocks) : Blocks :=
  setSeq (fun q => { q with stack := fs }) (setTrk (fun t => { t with block := some blockA }) b)

theorem witness_CallReturnSkip :
    (withStack [] Blocks.atReset).trk.block = some blockA
    ∧ (withStack (List.replicate 5 (frameOf 0)) Blocks.atReset).seq.stack.length < 6
    ∧ ¬ (withStack (List.replicate 6 (frameOf 0)) Blocks.atReset).seq.stack.length < 6
    ∧ ((withStack [frameOf 1] Blocks.atReset).seq.stack = frameOf 1 :: [] ∧ 0 < (frameOf 1).repeats)
    ∧ ((withStack [frameOf 0] Blocks.atReset).seq.stack = frameOf 0 :: [] ∧ (frameOf 0).repeats = 0) := by decide +kernel

/-- The block of case A with the snapshot and the knife record of section 4.10. -/
def caseA (b : Blocks) : Blocks :=
  setCku (fun u => { u with knife := ⟨-15, 6, 23450, 8⟩ })
    (setTrk (fun t => { t with block := some blockA }) (seqAt .running 0 .compute b))

theorem witness_CutTargetStages :
    ((caseA Blocks.atReset).trk.block = some blockA ∧ (caseA Blocks.atReset).seq.snapshot = some snapA)
    ∧ ((0 : Int) < 1 ∨ blockA.nomDepth ≤ 0) ∧ ((312000 : Int) < 1 ∨ blockA.nomDepth ≤ 312000)
    ∧ (1 ≤ (311999 : Int) ∧ 311999 < blockA.nomDepth ∧ { blockA with orientation := none }.orientation = none)
    ∧ (1 ≤ (305000 : Int) ∧ 305000 < blockA.nomDepth ∧ blockA.orientation = some 0)
    ∧ cutTarget .abs 305000 (caseA Blocks.atReset) = .inr ⟨305000, 305366, 305531⟩
    ∧ cutTarget .abs 312000 (caseA Blocks.atReset) = .inl .dimensionRange
    ∧ cutTarget .abs 1 (caseA Blocks.atReset) = .inl .dimensionRange := by decide +kernel

theorem witness_GaugeArithmeticRounds : 0 < 10000 + (-200 : Int)
    ∧ (0 ≤ (2600 : Int) ∧ (2600 : Int) % 5000 ≠ 0 ∧ corrPoint [some 10, some (-20)] (2600 / 5000) = some 10
        ∧ corrPoint [some 10, some (-20)] (2600 / 5000 + 1) = some (-20))
    ∧ (22000 ≤ (22000 : Int) ∧ (1150000 : Int) ≤ 1150000) := by decide +kernel

/-- The block of case A with a computed target. -/
def targetSet (b : Blocks) : Blocks := setSeq (fun q => { q with target := some ⟨305000, 305366, 305531⟩ }) (caseA b)

theorem witness_BlockRecordUpdates : (targetSet Blocks.atReset).trk.block = some blockA
    ∧ (targetSet Blocks.atReset).seq.target = some ⟨305000, 305366, 305531⟩ := by decide +kernel

/-- A homing run in SEEK. -/
def seeking (b : Blocks) : Blocks := setGax (fun g => { g with state := .homing, homing := .seek }) (ready .setup b)

theorem witness_GaugeHoming :
    ¬ (State.reset.blocks.gax.state = .homing ∧ State.reset.blocks.gax.homing = .seek ∧ State.reset.blocks.gax.stopping = false)
    ∧ ((st seeking).blocks.gax.state = .homing ∧ (st seeking).blocks.gax.homing = .seek
      ∧ (st seeking).blocks.gax.stopping = false) := by decide +kernel

theorem witness_GaugeMovesBegin : MoveKind.jog ≠ .homeFinal ∧ (MoveKind.jog = .cut ∨ MoveKind.jog = .jog)
    ∧ MoveKind.load ≠ .cut ∧ MoveKind.load ≠ .jog ∧ (1150000 : Int) ≤ 1150000
    ∧ ((gaxBegin .jog .terminal 1150000 false 700000 Blocks.atReset).gax.move.map fun m => (m.overshoot, m.leg)) = some (some ⟨1150000, 230000⟩, .final)
    ∧ ((gaxBegin .jog .terminal 1149999 false 700000 Blocks.atReset).gax.move.map fun m => (m.overshoot, m.leg))
        = some (some ⟨1150000, 230000⟩, .overshoot)
    ∧ ¬ (700000 : Int) < 700000 ∧ (1149999 : Int) < 1150000 := by decide +kernel

theorem witness_GaugeFaults : Blocks.atReset.gax.state ≠ .fault
    ∧ (setGax (fun g => { g with state := .fault, fault := some .moveTimeout }) Blocks.atReset).gax.state = .fault := by
  decide +kernel

theorem witness_ClampingBegins : manualCutConditions (ready .setup Blocks.atReset) = true := by decide +kernel

theorem witness_PressureSamples : Blocks.atReset.cku.state ≠ .fault ∧ manualCycle Blocks.atReset = false
    ∧ Blocks.atReset.cku.knifeReturn = false := by decide +kernel

/-- A knife in RETURNING with a cycle. -/
def returningWith (c : Cycle) (p : Phase) (b : Blocks) : Blocks := ckuAt .returning c (seqAt .running 0 p b)

theorem witness_TdcEndsReturn :
    (State.reset.blocks.cku.state ≠ .returning)
    ∧ (let b := (st fun b => setCku (fun u => { u with fault := some .pressureLost })
         (returningWith (cycle .seq false) .stroke b)).blocks
       b.cku.state = .returning ∧ b.cku.knifeReturn = false ∧ b.cku.fault = some .pressureLost)
    ∧ (let b := (st (returningWith (cycle .seq false) .stroke)).blocks
       b.cku.state = .returning ∧ b.cku.knifeReturn = false ∧ b.cku.fault = none ∧ b.cku.cycle = some (cycle .seq false)
        ∧ (cycle .seq false).bdcTaken = false ∧ (cycle .seq false).restAsked = false ∧ (cycle .seq false).asker = .seq
        ∧ b.seq.state = .running ∧ b.seq.run.phase = .stroke)
    ∧ (let b := (st (returningWith (cycle .seq true) .returning)).blocks
       b.cku.state = .returning ∧ b.cku.knifeReturn = false ∧ b.cku.fault = none ∧ b.cku.cycle = some (cycle .seq true)
        ∧ (cycle .seq true).bdcTaken = true ∧ (cycle .seq true).restAsked = false ∧ b.inputs.upperStop = false
        ∧ b.seq.state = .running ∧ b.seq.run.phase = .returning)
    ∧ (let b := (st fun b => setInputs (fun i => { i with upperStop := false })
         (setCku (fun u => { u with knifeReturn := true, state := .returning }) b)).blocks
       b.cku.knifeReturn = true ∧ b.inputs.upperStop = false) := by decide +kernel

/-- A SEQ cut in RELEASING with two repeats left. -/
def releasingTwo (b : Blocks) : Blocks :=
  setRun (fun r => { r with cutsLeft := 2 }) (ckuAt .releasing (cycle .seq true) (seqAt .running 0 .release b))

/-- A cycle in CLAMPED whose upper-stop switch is covered. -/
def clampedUp (c : Cycle) (b : Blocks) : Blocks :=
  setInputs (fun i => { i with upperStop := true }) (ckuAt .clamped c b)

/-- R118, R127: with the clamp already at its upper stop the abandonment of a manual cut gives OPEN at once, not completed. -/
theorem test_manualPermitTimeout_clampUp :
    (let b := after .manualPermitTimeout (clampedUp (cycle .manual false))
     b.cku.state = .open_ ∧ b.cku.cycle = none ∧ b.cku.lastManual = some false) := by decide +kernel

theorem witness_ClampReleases : State.reset.blocks.cku.state ≠ .releasing
    ∧ (let b := (st (ckuAt .releasing (cycle .manual true))).blocks
       b.cku.state = .releasing ∧ b.seq.state ≠ .running)
    ∧ (let b := (st releasingTwo).blocks
       b.cku.state = .releasing ∧ manualCycle b = false ∧ b.seq.state = .running ∧ b.seq.run.phase = .release
        ∧ 1 < b.seq.run.cutsLeft)
    ∧ (let b := (st (ckuAt .clamped (cycle .manual false))).blocks
       b.cku.state = .clamped ∧ manualCycle b = true ∧ b.inputs.upperStop = false)
    ∧ (let b := (st (clampedUp (cycle .manual false))).blocks
       b.cku.state = .clamped ∧ manualCycle b = true ∧ b.inputs.upperStop = true)
    ∧ (State.reset.blocks.cku.state ≠ .clamped ∨ manualCycle State.reset.blocks = false) := by decide +kernel

theorem witness_KnifeRequestsJudged : (ckuAt .clamped (cycle .manual false) Blocks.atReset).inputs.upperStop = false
    ∧ (let b := setCku (fun u => { u with knifeReturn := true }) Blocks.atReset
       b.inputs.upperStop = true ∧ b.cku.knifeReturn = true ∧ b.cku.resetting = false) := by decide +kernel

theorem witness_QuarterCompletes : (State.reset.blocks.trn.state ≠ .turning ∨ State.reset.blocks.trn.record = none)
    ∧ (let b := (st (trnAt .turning (turnOf .terminal 3))).blocks
       b.trn.state = .turning ∧ b.trn.record = some (turnOf .terminal 3) ∧ (turnOf .terminal 3).asker = .terminal)
    ∧ (let b := (st fun b => setRun (fun r => { r with quartersLeft := 2 }) (trnAt .turning (turnOf .seq 2) (seqAt .running 1 .turn b))).blocks
       b.trn.state = .turning ∧ b.trn.record = some (turnOf .seq 2) ∧ (turnOf .seq 2).asker = .seq ∧ b.seq.state = .running
        ∧ b.seq.run.phase = .turn ∧ 1 < b.seq.run.quartersLeft ∧ (turnOf .seq 2).done + 1 ≠ (turnOf .seq 2).requested
        ∧ (turnOf .seq 2).restAsked = false) := by decide +kernel

theorem witness_LevelMeasured : (4000 : Nat) ≠ 0 := by decide

theorem witness_JogEvents : State.reset.blocks.jog.state ≠ .jogging
    ∧ (let b := (st fun b => setJog (fun j => { j with state := .jogging, retries := 1 }) b).blocks
       b.jog.state = .jogging ∧ b.jog.retries < 2)
    ∧ (let b := (st fun b => setJog (fun j => { j with state := .jogging, retries := 2 }) b).blocks
       b.jog.state = .jogging ∧ 2 ≤ b.jog.retries)
    ∧ (let r := jogOf 40 2 75
       r.gap ≤ r.period / 2 ∧ r.duty ≤ 100 ∧ r.onTime = (r.period / 2 - r.gap) * r.duty / 100) := by decide +kernel

theorem witness_library_keys :
    (((1 : Nat) = 1 ∧ 1 ≤ (999 : Nat) ∧ (999 : Nat) ≤ 999) ∧ 1 ≤ (2048 : Nat) ∧ (2048 : Nat) ≤ 2048)
    ∧ ((2 : Nat) = 2 ∧ RecKind.sub = .sub ∧ (31 : Nat) ≤ 31)
    ∧ ((3 : Nat) = 3 ∧ RecKind.stock = .stock ∧ 1 ≤ (63 : Nat) ∧ (63 : Nat) ≤ 63)
    ∧ ¬ (((2 : Nat) = 1 ∧ 1 ≤ (32 : Nat) ∧ (32 : Nat) ≤ 999) ∨ ((2 : Nat) = 2 ∧ (32 : Nat) ≤ 31)
        ∨ ((2 : Nat) = 3 ∧ 1 ≤ (32 : Nat) ∧ (32 : Nat) ≤ 63))
    ∧ ([0x41] : List Byte) ≠ [] := by decide

theorem witness_LibraryWrites : (StockFigures.inRange stock7 = true ∧ 1 ≤ (63 : Nat) ∧ (63 : Nat) ≤ 63)
    ∧ StockFigures.inRange { stock7 with jogPeriod := 41 } = false
    ∧ (([some 5, none] : List (Option Int)).length = 2 ∧ 1 ≤ 2 ∧ 2 ≤ 29 ∧ 230 + 2 ≤ 232)
    ∧ (∀ v : Int, some v ∈ ([some 250, none] : List (Option Int)) → -250 ≤ v ∧ v ≤ 250)
    ∧ (∃ v : Int, some v ∈ ([some 251] : List (Option Int)) ∧ (v < -250 ∨ 250 < v)) := by
  refine ⟨by decide, by decide, by decide, ?_, 251, by decide, by decide⟩
  intro v h
  simp at h
  omega

/-- A library with one open section. -/
def oneSection (n : Nat) (b : Blocks) : Blocks :=
  setLib (fun l => { l with flash := Section.begun 1 [.damaged n] :: List.replicate 95 .erased }) b

/-- A library whose other sections are all bad. -/
def fullFlash (b : Blocks) : Blocks :=
  setLib (fun l => { l with flash := Section.begun 1 [.damaged 2032] :: List.replicate 95 .bad }) b

theorem witness_RecordPlaced :
    (let b := after (.stockWrite 7 stock7) id
     (currentRecord b.lib .stock 7).map (·.body) = some (StockFigures.encode stock7))
    ∧ currentRecord Blocks.atReset.lib .stock 7 = none
    ∧ 4294967295 < (setLib (fun l => { l with nextSeq := 4294967296 }) Blocks.atReset).lib.nextSeq
    ∧ (let b := oneSection 2004 Blocks.atReset
       b.lib.nextSeq ≤ 4294967295 ∧ openSection b.lib.flash = some 0 ∧ b.inputs.programFails = false
        ∧ 12 + ((16 : Nat) + 3) / 4 * 4 ≤ 2032 - usedRoom (slotsAt b.lib.flash 0))
    ∧ (let b := fullFlash Blocks.atReset
       b.lib.nextSeq ≤ 4294967295 ∧ openSection b.lib.flash = some 0 ∧ erasedCount b.lib.flash < 2
        ∧ 2032 - usedRoom (slotsAt b.lib.flash 0) < 12 + ((16 : Nat) + 3) / 4 * 4) := by decide +kernel

/-- A LIB_ERASE at its section i. -/
def erasing (i : Nat) (fails : Bool) (b : Blocks) : Blocks :=
  setInputs (fun x => { x with eraseFails := fails })
    (setLib (fun l => { l with state := .compacting, work := some (.eraseAll i), deadline := some 40 }) b)

theorem witness_CompactionAndErase :
    (let b := (st (erasing 94 false)).blocks
     b.lib.work = some (.eraseAll 94) ∧ b.lib.deadline = some 40 ∧ b.inputs.eraseFails = false ∧ 94 + 1 < 96)
    ∧ (st (erasing 95 true)).blocks.inputs.eraseFails = true
    ∧ (st (erasing 95 false)).blocks.lib.work = some (.eraseAll 95)
    ∧ (State.reset.blocks.lib.work = none ∨ State.reset.blocks.lib.deadline = none) := by decide +kernel

/-- A CELL_STATUS request with tag 9, sound. -/
def soundFrame : List Byte :=
  let covered : List Byte := [1, 1, 9, 5]
  0x7E :: covered ++ [((crc16 covered) >>> 8).setWidth 8, (crc16 covered).setWidth 8]

theorem witness_FramesReceived :
    State.reset.blocks.lnk.gathered = [] ∧ ([5] : List Byte).length ≤ 240
    ∧ (after (.frameReceived (soundFrame.map fun x => ⟨x, 0⟩)) id).lnk.queue = [⟨9, [5], none⟩]
    ∧ ((1 : Byte).toNat = ([5] : List Byte).length ∧ (crc16 [1, 1, 9, 5]).toNat ≠ (0 : Byte).toNat * 256 + (0 : Byte).toNat)
    ∧ ((0x41 : Byte) ≠ 0x7E) ∧ ((5000 : Nat) ≤ 5000 ∧ 240 < (241 : Byte).toNat) ∧ (5000 < (5001 : Nat)) := by decide +kernel

theorem witness_RequestHandedOn :
    (let s := st fun b => setLnk (fun l => { l with queue := [⟨9, [5], none⟩] }) b
     s.blocks.lnk.queue = ⟨9, [5], none⟩ :: [] ∧ ∃ a, (nextOf .requestHandOn s).blocks.lnk.queue = [⟨9, [5], some a⟩] ∧ a.status = .ok)
    ∧ (∀ tag body rest, State.reset.blocks.lnk.queue ≠ ⟨tag, body, none⟩ :: rest)
    ∧ (0 : Byte).toNat ∉ requestCodes ∧ (91 : Byte).toNat ∉ requestCodes ∧ (1 : Byte).toNat ∈ requestCodes
    ∧ Instr.jobHold.isRequest = true ∧ Instr.jobHold ≠ .restart := by
  refine ⟨⟨rfl, _, rfl, rfl⟩, ?_, by decide, by decide, by decide, by decide, by decide⟩
  intro _ _ _ h
  cases h

/-! ## More of the model's own figures -/

/-- The kind numbers and a few status bytes of R192 and R193. -/
theorem test_numbers : noticeKinds.map NoticeKind.number = [1, 2, 3, 4, 5, 6, 7, 8]
    ∧ ([.ok, .badArgument, .busy, .queueFull, .noBaseline] : List Status).map Status.code = [0, 3, 12, 14, 15] := by decide

/-- R195: the bytes of a reply without a result, whose check stands over the length, the kind, the tag and the body. -/
theorem test_sentFrame : sentFrame (.reply 9 5 ⟨.busy, .nothing⟩)
    = [0x7E, 2, 2, 9, 5, 12] ++ beBytes 2 (crc16 [2, 2, 9, 5, 12]).toNat := by decide +kernel

/-- R90: forward in CLEAR, rearward in SEEK, and no drive while the homing run stops. -/
theorem test_homingDrive :
    (let at_ (p : HomingPhase) (stop : Bool) : Blocks :=
       setGax (fun g => { g with state := .homing, homing := p, drive := true, stopping := stop }) Blocks.atReset
     homingDrive (at_ .clear false) = .ahead ∧ homingDrive (at_ .seek false) = .back
      ∧ homingDrive (at_ .seek true) = .stopped ∧ homingDrive (at_ .final false) = .stopped) := by decide +kernel

/-- A jog that settles with its encoder in the band, 60 ms from the band's time to the clock of its end. -/
def settlingJog (limit : Ms) (b : Blocks) : Blocks :=
  setInputs (fun i => { i with encoder := 140000 })
    (setGax (fun g => { g with state := .settling, bandFrom := some 100, deadline := some limit }) (gaxMoving b))

/-- R96: in position 60 ms after the band is reached, and not with the settle limit before it, nor at the reading that comes
into the band. -/
theorem test_inPosition :
    (after (.inPosition 140000) (settlingJog 160)).gax.state = .standstill
    ∧ (after (.inPosition 140000) (settlingJog 160)).clock = 160
    ∧ (after (.inPosition 140000) (settlingJog 159)).gax.state = .settling
    ∧ (after (.encoderOutOfBand 140003) (settlingJog 400)).gax.bandFrom = some 0
    ∧ (let b := after (.inPosition 140002) fun b => setInputs (fun i => { i with encoder := 140003 }) (settlingJog 400 b)
       b.gax.state = .settling ∧ b.gax.bandFrom = some 0 ∧ b.inputs.encoder = 140002) := by decide +kernel

/-- R161: a feed pause makes a repeated jog that has not begun wait. -/
theorem test_feedPause : (after .feedPause fun b => setJog (fun j => { j with state := .receiving, retries := 1 }) b).jog.repeatWaiting
    = true ∧ (after .feedPause fun b => setJog (fun j => { j with state := .receiving }) b).jog.repeatWaiting = false := by
  decide +kernel

/-! ## What this hardware's corners answer -/

/-- R88: a RESTART's stop that times out ends in the values of start-up, not in FAULT. -/
theorem test_restart_stop : (let b := (nextOf .stopTimeout (nextOf .restart (st gaxMoving))).blocks
    (b.gax.state, b.gax.fault, b.gax.drive, b.gax.stopping) = (.unreferenced, none, false, false)) := by decide +kernel

/-- R18: a RESTART that finds a job loaded raises SEQUENCE at the end of its start-up, one in IDLE does not. -/
theorem test_restart_sequence :
    (let b := (nextOf .startupEnd (nextOf .restart (st (seqAt .loaded 0 .none)))).blocks
     (b.msu.phase, b.seq.state, b.seq.startNotice, b.lnk.flags.sequence) = (.ended, .idle, false, true))
    ∧ (nextOf .startupEnd (nextOf .restart State.reset)).blocks.lnk.flags.sequence = false := by decide +kernel

/-- R87, R91: a homing run that leaves SETUP is in MOVING while it stops, and UNREFERENCED after it. -/
theorem test_homing_stop :
    (let b := leaveSetup (setGax (fun g => { g with drive := true }) (seeking Blocks.atReset))
     (b.gax.state, b.gax.stopping, (profileComplete 0 b).gax.state) = (.moving, true, .unreferenced)) := by decide +kernel

/-- R90: the reference switch uncovers at a tick as REFERENCE_SWITCH_UNCOVERED says. -/
theorem test_level_reference : (applyLevel (.referenceSwitch false)
    (setGax (fun g => { g with homing := .clear }) (seeking Blocks.atReset))).gax.homing = .seek := by decide +kernel

/-- R96: a reading outside the band at a tick clears the mark in STANDSTILL. -/
theorem test_level_encoder : (let b := applyLevel (.encoder 140003) (after (.inPosition 140000) (settlingJog 160))
    (b.gax.inPosition, b.gax.start, b.lnk.flags.gauge) = (false, .estimate, true)) := by decide +kernel

/-- R154: the second home switch of the gear at a tick goes on with LFT's reset. -/
theorem test_level_gear : (applyLevel (.pusherHome true) (setInputs (fun i => { i with pusherHome := false })
    (setLft (fun l => { l with state := .fault, withdrawing := true, height := none }) (ready .setup Blocks.atReset)))).lft.state
    = .lowered := by decide +kernel

/-- A WASTE cut that clamps while the flap closes in a reset's part. -/
def wasteInReset (b : Blocks) : Blocks :=
  setCku (fun u => { u with resetting := true, resetReleased := true, flap := .closing })
    (ckuAt .clamping { cycle .seq false with waste := true } b)

/-- R124: the flap's closing ends the part of CKU's reset, also with that cut in CLAMPING. -/
theorem test_reset_waste : (let b := after .flapClosedSwitchCovered wasteInReset
    (b.cku.resetting, b.cku.state, b.lnk.flags.knife) = (false, .clamping, true)) := by decide +kernel

/-- R138: the arms keep the grip of a fault in TURNING, and take none in one from RELEASING. -/
theorem test_grip_kept :
    armsDrive (after .turnTimeout (trnAt .turning (turnOf .seq 1))) = .holding
    ∧ armsDrive (after .turnerReleaseTimeout fun b => setInputs (fun i => { i with gripClosed := true })
        (trnAt .releasing (turnOf .seq 1) b)) = .stopped := by decide +kernel

/-- R192: a name by its place from 1, an INVALID value as 8000 hex, and the longest result in the 238 bytes of a reply. -/
theorem test_result_bytes : (Result.autoRefusal .notReferenced).bytes = [1]
    ∧ (Result.corrValues [some (-5), none]).bytes = [0xFF, 0xFB, 0x80, 0x00]
    ∧ (Result.run ⟨.running, some (Running.empty, List.replicate 6 (frameOf 1))⟩).bytes.length ≤ 238
    ∧ (NoticeData.sequence .idle 0 0 0 ⟨.main, 0⟩ .none .none none).bytes
      = [1] ++ beBytes 2 0 ++ beBytes 4 0 ++ beBytes 4 0 ++ [1, 0, 0, 0] ++ [1] ++ [1] ++ [0] := by decide +kernel

/-! ## The hypotheses of the widened clauses can be met -/

/-- A block with nothing to do of itself. -/
def quiet : State :=
  st fun b => setLnk (fun _ => Lnk.atReset) (setGax (fun g => { g with table := [] })
    (setLib (fun l => { l with flash := [], corrIndex := [] }) b))

theorem witness_StepRunsFront_empty : (State.reset.pending = [] ∧ ownStep State.reset = some .transmitNextFrame)
    ∧ (quiet.pending = [] ∧ ownStep quiet = none ∧ quiet.silent = [])
    ∧ (let s : State := { quiet with silent := [.sideStop true] }
       s.pending = [] ∧ ownStep s = none ∧ s.silent = .sideStop true :: []) := by decide +kernel

theorem witness_LeavingSetup_more :
    (let b := seeking Blocks.atReset
     b.gax.state = .homing ∧ b.gax.stopping = false ∧ b.gax.finalSettling = false)
    ∧ (let b := settlingJog 400 Blocks.atReset
       b.seq.state ≠ .running ∧ b.gax.stopping = false ∧ b.gax.state = .settling ∧ moveInFlight b = true
        ∧ moveAsker b = some .terminal)
    ∧ (let b := setGax (fun g => { g with finalSettling := true }) (seeking Blocks.atReset)
       b.seq.state ≠ .running ∧ b.gax.stopping = false ∧ b.gax.state = .homing ∧ b.gax.finalSettling = true)
    ∧ (let b := ckuAt .open_ (cycle .manual false) Blocks.atReset
       b.cku.state = .open_ ∧ manualCycle b = true)
    ∧ (let b := ckuAt .gap (cycle .manual true) Blocks.atReset
       b.cku.state = .gap ∧ manualCycle b = true ∧ b.cku.knifeReturn = false)
    ∧ (let b := ckuAt .releasing (cycle .manual true) Blocks.atReset
       b.cku.state = .releasing ∧ manualCycle b = true) := by decide +kernel

theorem witness_EstopChainOpens_more : State.reset.blocks.msu.estop = .readyToReset
    ∧ (let b := (st fun b => gaugeAt 900000 (setJog (fun j => { j with state := .aligned }) (ready .auto b))).blocks
       b.msu.estop = .chainOk ∧ b.gax.drive = true ∧ b.jog.state = .aligned)
    ∧ (let b := (st (ready .auto)).blocks
       b.msu.estop = .chainOk ∧ b.jog.state = .empty) := by decide +kernel

theorem witness_EstopChainOpens_flap :
    (let b := setCku (fun u => { u with flap := .opening, flapDeadline := some 600 }) (ckuAt .gap (cycle .seq false) (ready .auto Blocks.atReset))
     b.msu.estop = .chainOk ∧ b.cku.state = .gap ∧ (chainOpens b).cku.flap = .opened ∧ (chainOpens b).cku.flapDeadline = none
      ∧ (chainOpens b).lnk.flags.knife = true)
    ∧ (let b := seqAt .held 1 .turn (ready .auto Blocks.atReset)
       b.msu.estop = .chainOk ∧ b.seq.state = .held ∧ (chainOpens b).seq.hold.more = true
        ∧ (chainOpens b).lnk.flags.hold = true) := by decide +kernel

theorem witness_UnitResetParts_more :
    (let b := setInputs (fun i => { i with driveFault := true })
       (setGax (fun g => { g with state := .fault, fault := some .limitSwitch }) Blocks.atReset)
     b.gax.state = .fault ∧ b.gax.fault = some .limitSwitch ∧ b.inputs.driveFault = true)
    ∧ (let b := setCku (fun u => { u with state := .fault, flap := .opened }) (ready .setup Blocks.atReset)
       b.msu.estop = .chainOk ∧ b.cku.state = .fault ∧ b.inputs.tdc = true ∧ b.inputs.upperStop = true)
    ∧ (let b := setInputs (fun i => { i with upperStop := false }) (ready .setup Blocks.atReset)
       b.msu.estop = .chainOk ∧ b.cku.state = .open_ ∧ ¬ (b.inputs.upperStop = true ∧ b.cku.flap = .closed)
        ∧ b.inputs.upperStop = false)
    ∧ (let b := setCku (fun u => { u with flap := .opened }) (ready .setup Blocks.atReset)
       b.cku.state = .open_ ∧ ¬ (b.inputs.upperStop = true ∧ b.cku.flap = .closed) ∧ b.inputs.upperStop = true)
    ∧ (Blocks.atReset.cku.state = .open_ ∧ Blocks.atReset.inputs.upperStop = true ∧ Blocks.atReset.cku.flap = .closed)
    ∧ (let b := ckuAt .releasing (cycle .seq true) Blocks.atReset
       b.cku.state ≠ .open_ ∧ b.cku.state ≠ .fault)
    ∧ (let b := setTrn (fun t => { t with state := .fault }) Blocks.atReset
       b.trn.state = .fault ∧ b.inputs.armsOpen = true)
    ∧ (let b := setLft (fun l => { l with state := .fault, height := none }) (ready .setup Blocks.atReset)
       b.lft.state = .fault ∧ gearAtRest b = true ∧ b.lft.height = none ∧ b.msu.estop = .chainOk) := by decide +kernel

theorem witness_StartupBegins_more :
    (let s := st gaxMoving
     StartedUp s ∧ s.blocks.seq.state ≠ .running ∧ s.blocks.gax.state = .moving)
    ∧ (let s := st (settlingJog 400)
       StartedUp s ∧ s.blocks.seq.state ≠ .running ∧ s.blocks.gax.state = .settling)
    ∧ (let b := setMsu (fun m => { m with phase := .waitLibrary }) Blocks.atReset
       b.msu.phase = .waitLibrary)
    ∧ (let s := nextOf .restart (st gaxMoving)
       s.blocks.msu.phase = .statesTaken ∧ s.blocks.gax.stopping = true)
    ∧ (nextOf (.powerOn Inputs.atReset) State.reset).blocks.gax.stopping = false := by
  unfold StartedUp
  decide +kernel

/-- A step record of R196. -/
def stepBytes (kind b1 b2 : Byte) : List Byte := [kind, b1, b2, 0, 0, 0, 0, 0, 0, 0, 0, 0]

/-- The body of job 214: its header, CALL 5, EJECT, END. -/
def jobBody : List Byte :=
  beBytes 2 214 ++ List.replicate 16 0 ++ beBytes 4 600000 ++ beBytes 4 880000 ++ beBytes 2 900
    ++ stepBytes 5 5 1 ++ stepBytes 3 0 0 ++ stepBytes 8 0 0

/-- The body of a subprogram of a TURN and a RETURN. -/
def subBody : List Byte := stepBytes 2 1 0 ++ stepBytes 6 0 0

/-- A library with these records in its open section. -/
def libWith (records : List Rec) : Lib :=
  reindex { Lib.atReset with flash := .begun 1 (records.map .valid) :: List.replicate 95 .erased }

/-- The load position of a job gathered. -/
def gathered (l : Lib) : Option Um := match gatherJob 214 7 l with | .got s => some s.loadPosition | .fails _ _ => none

theorem witness_JobLoadJudged :
    currentItem Lib.atReset .job 214 = none
    ∧ (let l := libWith [⟨.job, 214, 1, [0x41]⟩]
       (currentItem l .job 214).isSome = true ∧ (checkJob 214 [0x41]).isSome = true)
    ∧ (let l := libWith [⟨.job, 214, 1, jobBody⟩]
       (currentItem l .job 214).map (·.body) = some jobBody ∧ checkJob 214 jobBody = none ∧ currentItem l .stock 7 = none)
    ∧ (let l := libWith [⟨.job, 214, 1, jobBody⟩, ⟨.stock, 7, 2, [0x41]⟩]
       (currentItem l .stock 7).map (·.body) = some [0x41] ∧ decodeStock [0x41] = none)
    ∧ (let l := libWith [⟨.job, 214, 1, jobBody⟩, ⟨.stock, 7, 2, StockFigures.encode stock7⟩]
       decodeStock (StockFigures.encode stock7) = some stock7 ∧ StockFigures.inRange stock7 = true
        ∧ currentItem l .sub 5 = none ∧ gathered l = none)
    ∧ (let l := libWith [⟨.sub, 5, 1, [0x41]⟩]
       (currentItem l .sub 5).map (·.body) = some [0x41] ∧ (checkSub [0x41]).isSome = true)
    ∧ (let l := libWith [⟨.job, 214, 1, jobBody⟩, ⟨.stock, 7, 2, StockFigures.encode stock7⟩, ⟨.sub, 5, 3, subBody⟩]
       (currentItem l .sub 5).map (·.body) = some subBody ∧ checkSub subBody = none ∧ gathered l = some 605720)
    ∧ calledSubs (stepsOf (jobBody.drop 28)) [] = [5] := by decide +kernel

/-- A job that runs from a snapshot of one step kind, with the block of case A. -/
def atStep (p : ProgStep) (b : Blocks) : Blocks :=
  setSeq (fun q => { q with snapshot := some { snapA with steps := [p, .endStep] } })
    (setTrk (fun t => { t with block := some blockA }) (seqAt .running 0 .none b))

theorem witness_portionArrival :
    (let b := setRun (fun r => { r with wait := .portion }) (atStep .eject Blocks.atReset)
     b.trk.block = some blockA ∧ b.seq.state = .running ∧ b.seq.run.wait = .portion ∧ b.seq.snapshot.isSome = true)
    ∧ Blocks.atReset.seq.state ≠ .running := by decide +kernel

theorem witness_takeSteps :
    (let b := atStep (.skipIf .firstPortion 0) Blocks.atReset
     currentStep b = some (.skipIf .firstPortion 0) ∧ (instantStep (.skipIf .firstPortion 0) b).isSome = true)
    ∧ (let b := atStep .eject Blocks.atReset
       currentStep b = some .eject ∧ instantStep .eject b = none) := by decide +kernel

theorem witness_computeCut :
    cutTarget .abs 312000 (caseA Blocks.atReset) = .inl .dimensionRange
    ∧ (cutTarget .abs 305000 (caseA Blocks.atReset) = .inr ⟨305000, 305366, 305531⟩
      ∧ (caseA Blocks.atReset).trk.queue.length < 8)
    ∧ (let b := ejectPiece (caseA Blocks.atReset)
       let c := setTrk (fun t => { t with block := some blockA }) b
       cutTarget .abs 305000 c = .inr ⟨305000, 305366, 305531⟩ ∧ ¬ c.trk.queue = []) := by decide +kernel

theorem witness_manualBdc : Blocks.atReset.trk.block = none ∧ (caseA Blocks.atReset).trk.block = some blockA := by
  decide +kernel

theorem witness_GaugeMovesBegin_more : (700000 : Int) < 1149999 ∧ (1149999 : Int) < 1150000
    ∧ (Blocks.atReset.gax.state = .unreferenced)
    ∧ ((gaugeAt 900000 Blocks.atReset).gax.state = .standstill ∧ startingPosition (gaugeAt 900000 Blocks.atReset) = some 900000)
    ∧ (gaxMoving Blocks.atReset).gax.state = .moving
    ∧ ((gaxBegin .jog .terminal 900000 false 900000 Blocks.atReset).gax.bandFrom = some 0) := by decide +kernel

theorem witness_GaugeMovesBegin_notices :
    (let b := gaxBegin .jog .terminal 700000 false 900000 (setJog (fun j => { j with state := .transferring }) (gaugeAt 900000 Blocks.atReset))
     (b.gax.move.map (·.uncorrected)) = some true ∧ b.lnk.flags.gauge = true
      ∧ b.jog.state = .fault ∧ b.jog.fault = some .interlockLost ∧ b.lnk.flags.feed = true)
    ∧ (st seeking).blocks.gax.homing = .seek ∧ corrPoint (st seeking).blocks.gax.table 230 = none
    ∧ (after .referenceMark seeking).lnk.flags.gauge = true := by decide +kernel

theorem witness_gaxStop : (gaxMoving Blocks.atReset).gax.state = .moving ∧ (settlingJog 400 Blocks.atReset).gax.state = .settling
    ∧ (seeking Blocks.atReset).gax.state = .homing ∧ (gaugeAt 900000 Blocks.atReset).gax.state = .standstill := by
  decide +kernel

theorem witness_cycles : (ckuAt .clamping (cycle .seq false) Blocks.atReset).cku.cycle = some (cycle .seq false)
    ∧ (cycle .seq false).asker = .seq ∧ (cycle .manual true).asker = .manual := by decide +kernel

/-- A SEQ cut with its rest asked, in RETURNING after its BDC. -/
def restedCut : Cycle := { cycle .seq true with restAsked := true }

theorem witness_TdcEndsReturn_more :
    (let b := (st (returningWith restedCut .returning)).blocks
     b.cku.state = .returning ∧ b.cku.knifeReturn = false ∧ b.cku.fault = none ∧ b.cku.cycle = some restedCut
      ∧ restedCut.restAsked = true ∧ b.inputs.upperStop = false ∧ restedCut.bdcTaken = true ∧ restedCut.asker = .seq
      ∧ b.seq.state = .running ∧ b.seq.run.phase = .returning)
    ∧ (let b := (st fun b => setCku (fun u => { u with knifeReturn := true, state := .returning }) b).blocks
       b.cku.state = .returning ∧ b.inputs.upperStop = true ∧ b.seq.state ≠ .running ∧ b.cku.knifeReturn = true)
    ∧ (let b := (st fun b => setInputs (fun i => { i with upperStop := true })
         (ckuAt .returning (cycle .manual true) b)).blocks
       b.inputs.upperStop = true ∧ b.seq.state ≠ .running ∧ b.cku.fault = none
        ∧ b.cku.cycle = some (cycle .manual true) ∧ (cycle .manual true).bdcTaken = true) := by decide +kernel

theorem witness_recompute : currentStep (seqAt .running 0 .release Blocks.atReset) = some (.cut .abs 2 false 305000 none) := by
  decide +kernel

/-- A compaction at its source 0, with the sources that follow. -/
def compacting (rest : List Nat) (b : Blocks) : Blocks :=
  setLib (fun l => { l with state := .compacting, work := some (.compact 0 rest none 0 (rest.length + 1)), deadline := some 40 }) b

/-- A library with a live job and one that a later record of its key has replaced. -/
def twoJobs : Lib := libWith [⟨.job, 214, 1, [0x41]⟩, ⟨.job, 214, 2, [0x42]⟩]

/-- R153: a pending sensor fault stands at CHAIN_OPENED, and PART_TIMEOUT clears it (R147). -/
theorem test_sensorFaultPending : ([.chainOpened, .partTimeout] : List LftFault).map (fun code => (lftFault code
    (setLft (fun l => { l with state := .parting, sensorFaultPending := true }) Blocks.atReset)).lft.sensorFaultPending)
      = [true, false] := by decide +kernel

/-- A destination with little room, for the failures of copyRecord (R185, R186). -/
theorem witness_copyRecord_fails :
    (let b := setInputs (fun i => { i with programFails := true }) (oneSection 2004 Blocks.atReset)
     b.inputs.programFails = true ∧ 12 + (([0x42] : List Byte).length + 3) / 4 * 4 ≤ 2032 - usedRoom (slotsAt b.lib.flash 0)
      ∧ (copyRecord ⟨.job, 214, 2, [0x42]⟩ (some 0) b).1.lib.failure = some .program)
    ∧ (let b := setInputs (fun i => { i with beginFails := true }) (oneSection 2032 Blocks.atReset)
       2032 - usedRoom (slotsAt b.lib.flash 0) < 12 + (([0x42] : List Byte).length + 3) / 4 * 4
        ∧ nextErased b.lib.flash = some 1 ∧ highestOrder b.lib.flash < 4294967295
        ∧ (copyRecord ⟨.job, 214, 2, [0x42]⟩ (some 0) b).1.lib.failure = some .beginSection)
    ∧ nextErased (List.replicate 96 Section.bad) = none ∧ Blocks.atReset.msu.phase ≠ .waitLibrary := by decide +kernel

/-- A sound request with bytes behind it (R188). -/
theorem witness_FramesReceived_behind : (1 : Byte).toNat = ([5] : List Byte).length
    ∧ (receive 0 (soundFrame.map (⟨·, 0⟩) ++ [⟨0x41, 0⟩, ⟨0x7E, 0⟩]) Lnk.atReset).queue = [⟨9, [5], none⟩]
    ∧ (receive 0 (soundFrame.map (⟨·, 0⟩) ++ [⟨0x41, 0⟩, ⟨0x7E, 0⟩]) Lnk.atReset).gathered = [⟨0x7E, 0⟩] := by decide +kernel

theorem witness_compactionSources :
    compactionSources [.begun 9 [], .bad, .begun 2 [], .erased, .bad, .begun 5 []] = [1, 4, 2, 5, 0] := by decide +kernel

theorem witness_Compaction :
    ((st (erasing 95 false)).blocks.lib.deadline = some 40 ∧ (st (erasing 95 false)).blocks.inputs.eraseFails = false)
    ∧ (∀ c ∈ Lib.atReset.flash, c = Section.erased)
    ∧ isLive twoJobs (⟨0, 0⟩, ⟨.job, 214, 1, [0x41]⟩) = false
    ∧ isLive twoJobs (⟨0, 1⟩, ⟨.job, 214, 2, [0x42]⟩) = true
    ∧ (let b := setLib (fun _ => twoJobs) Blocks.atReset
       (copyRecord ⟨.job, 214, 2, [0x42]⟩ none b).2 = some 1 ∧ b.inputs.programFails = false ∧ nextErased b.lib.flash = some 1
        ∧ highestOrder b.lib.flash < 4294967295 ∧ b.inputs.beginFails = false
        ∧ 12 + (([0x42] : List Byte).length + 3) / 4 * 4 ≤ 2032 - usedRoom (slotsAt b.lib.flash 0)
        ∧ (copyRecord ⟨.job, 214, 2, [0x42]⟩ none (setInputs (fun i => { i with beginFails := true }) b)).2 = none)
    ∧ ((compacting [] Blocks.atReset).lib.work = some (.compact 0 [] none 0 1)
      ∧ (compacting [3] Blocks.atReset).lib.work = some (.compact 0 (3 :: []) none 0 2)
      ∧ (compacting [] Blocks.atReset).lib.deadline = some 40 ∧ (compacting [] Blocks.atReset).inputs.eraseFails = false)
    ∧ (setLib (fun l => { l with work := some (.spent 0 true) }) Blocks.atReset).lib.work = some (.spent 0 true) := by
  refine ⟨by decide +kernel, ?_, by decide +kernel, by decide +kernel, by decide +kernel, by decide +kernel, by decide +kernel⟩
  intro c h
  exact List.eq_of_mem_replicate h

theorem witness_request_lengths : (4 : Nat) ∈ [1, 4, 21, 24, 50] ∧ ([] : List Byte).length ≠ 1
    ∧ ([0, 0] : List Byte).length ≠ 8 ∧ ([0] : List Byte).length < 2 ∧ ([0, 0, 0] : List Byte).length < 4 := by decide

/-! ## The hypotheses of the record checks can be met, at the ends of their ranges -/

/-- A step record with its dimension, its pressure and its unused bytes. -/
def rec12 (k b1 b2 b3 : Byte) (figure pressure unused : Int) : List Byte :=
  [k, b1, b2, b3] ++ beBytes 4 figure ++ beBytes 2 pressure ++ beBytes 2 unused

theorem witness_readStep :
    (beNat (beBytes 4 1150000) = 1150000 ∧ beNat (beBytes 2 550) = 550 ∧ beNat (beBytes 2 0) = 0)
    ∧ readStep (rec12 1 3 99 1 1150000 550 0) = .step (.cut .fromBase 99 true 1150000 (some 550))
    ∧ readStep (rec12 1 1 1 0 0 50 0) = .step (.cut .abs 1 false 0 (some 50))
    ∧ readStep (rec12 2 3 0 0 0 0 0) = .step (.turn 3) ∧ readStep (rec12 3 0 0 0 0 0 0) = .step .eject
    ∧ readStep (rec12 4 255 0 0 0 0 0) = .step (.pause 255)
    ∧ readStep (rec12 5 31 99 0 0 550 0) = .step (.call 31 99 (some 550))
    ∧ readStep (rec12 6 0 0 0 0 0 0) = .step .ret
    ∧ readStep (rec12 7 1 0 0 1150000 0 0) = .step (.skipIf .depthBelow 1150000)
    ∧ readStep (rec12 7 3 0 0 3 0 0) = .step (.skipIf .orientationIs 3)
    ∧ readStep (rec12 7 6 0 0 0 0 0) = .step (.skipIf .piecesWaiting 0)
    ∧ readStep (rec12 8 0 0 0 0 0 0) = .step .endStep := by decide +kernel

theorem witness_readStep_refused :
    (∀ r ∈ [rec12 0 0 0 0 0 0 0, rec12 9 0 0 0 0 0 0], readStep r = .badKind)
    ∧ ∀ r ∈ [rec12 1 0 1 0 0 0 0, rec12 1 4 1 0 0 0 0, rec12 1 1 0 0 0 0 0, rec12 1 1 100 0 0 0 0, rec12 1 1 1 2 0 0 0,
        rec12 1 1 1 0 1150001 0 0, rec12 1 1 1 0 0 49 0, rec12 1 1 1 0 0 551 0, rec12 1 1 1 0 0 0 1, rec12 2 0 0 0 0 0 0,
        rec12 2 4 0 0 0 0 0, rec12 3 1 0 0 0 0 0, rec12 4 0 1 0 0 0 0, rec12 5 32 1 0 0 0 0, rec12 5 0 0 0 0 0 0,
        rec12 5 0 100 0 0 0 0, rec12 6 0 0 1 0 0 0, rec12 7 1 0 0 1150001 0 0, rec12 7 3 0 0 4 0 0, rec12 7 4 0 0 1 0 0,
        rec12 7 0 0 0 0 0 0, rec12 7 7 0 0 0 0 0, rec12 8 0 0 0 0 1 0], readStep r = .badField := by decide +kernel

theorem witness_recordChecks :
    (let header := jobBody.take 28
     (checkJob 214 (header.take 27) = some ⟨.length, none⟩ ∧ checkJob 214 (header ++ [0]) = some ⟨.length, none⟩)
      ∧ checkJob 214 header = some ⟨.stepCount, none⟩
      ∧ checkJob 214 (header ++ List.replicate (121 * 12) 0) = some ⟨.stepCount, none⟩
      ∧ checkJob 213 jobBody = some ⟨.headerRange, none⟩ ∧ checkJob 214 jobBody = none
      ∧ checkJob 214 (header ++ List.replicate (120 * 12) 0) = some ⟨.kind, some 0⟩)
    ∧ checkSub [0] = some ⟨.length, none⟩ ∧ checkSub [] = some ⟨.stepCount, none⟩
    ∧ checkSub (List.replicate (41 * 12) 0) = some ⟨.stepCount, none⟩
    ∧ checkSub (List.replicate (40 * 12) 0) = some ⟨.kind, some 0⟩ ∧ checkSub subBody = none := by decide +kernel

theorem witness_checkStep :
    checkStep true 0 (rec12 0 0 0 0 0 0 0) = some .kind ∧ checkStep true 0 (rec12 2 4 0 0 0 0 0) = some .fieldRange
    ∧ checkStep true 1 (rec12 1 1 2 0 0 0 0) = some .repeatMode ∧ checkStep true 1 (rec12 1 2 2 0 0 0 0) = none
    ∧ checkStep true 0 (rec12 6 0 0 0 0 0 0) = some .returnInMain ∧ checkStep false 0 (rec12 8 0 0 0 0 0 0) = some .endInSub
    ∧ checkStep true 1 (rec12 8 0 0 0 0 0 0) = some .endMisplaced ∧ checkStep true 0 (rec12 8 0 0 0 0 0 0) = none
    ∧ checkStep true 0 (rec12 7 4 0 0 0 0 0) = some .skipLast ∧ checkStep true 1 (rec12 7 4 0 0 0 0 0) = some .skipTerminator
    ∧ checkStep true 2 (rec12 7 4 0 0 0 0 0) = none ∧ checkStep true 0 (rec12 3 0 0 0 0 0 0) = some .noTerminator := by
  decide +kernel

/-! ## The hypotheses of the units' clauses can be met -/

/-- A move of SEQ in flight. -/
def seqMoving (b : Blocks) : Blocks :=
  setGax (fun g => { g with move := some { jogging with kind := .cut, asker := .seq } }) (gaxMoving b)

theorem witness_unitsToRest :
    (let b := seqAt .running 0 .position (seqMoving Blocks.atReset)
     b.seq.state = .running ∧ (b.gax.move.map fun m => (m.completed, m.asker)) = some (none, .seq))
    ∧ (let b := ckuAt .open_ (cycle .seq false) Blocks.atReset
       b.cku.state = .open_ ∧ manualCycle b = false)
    ∧ (let b := ckuAt .clamping (cycle .seq false) Blocks.atReset
       b.cku.state = .clamping ∧ b.inputs.upperStop = false)
    ∧ (let b := setInputs (fun i => { i with upperStop := true }) (ckuAt .clamped (cycle .seq false) Blocks.atReset)
       b.cku.state = .clamped ∧ b.inputs.upperStop = true)
    ∧ (ckuAt .stroking (cycle .seq false) Blocks.atReset).cku.state = .stroking
    ∧ (let b := ckuAt .gap (cycle .seq true) Blocks.atReset
       b.cku.state = .gap ∧ b.cku.knifeReturn = false)
    ∧ (ckuAt .releasing (cycle .seq true) Blocks.atReset).cku.state = .releasing
    ∧ (ckuAt .fault (cycle .seq true) Blocks.atReset).cku.state = .fault
    ∧ (let b := seqAt .held 0 .release Blocks.atReset
       b.seq.state = .held ∧ b.seq.run.phase = .release)
    ∧ (∀ q ∈ [TrnState.gripping, .turning, .releasing], (trnAt q (turnOf .seq 1) Blocks.atReset).trn.record = some (turnOf .seq 1))
    ∧ ((turnOf .seq 1).asker = .seq ∧ (turnOf .terminal 1).asker ≠ .seq) := by decide +kernel

theorem witness_resume_cut : (∀ p ∈ [Phase.returning, .release],
      (seqAt .held 0 p Blocks.atReset).seq.run.phase = p ∧ (seqAt .held 0 p Blocks.atReset).seq.run.wait ≠ .portion
      ∧ currentStep (seqAt .held 0 p Blocks.atReset) = some (.cut .abs 2 false 305000 none))
    ∧ (seqAt .running 0 .compute Blocks.atReset).trk.block = none := by decide +kernel

theorem witness_gauge_outputs : gaugeCommand Blocks.atReset = none
    ∧ gaugeCommand (gaxBegin .jog .terminal 700000 false 900000 (gaugeAt 900000 Blocks.atReset)) = some 140000
    ∧ gaugeCommand (gaxBegin .jog .terminal 700000 false 600000 (gaugeAt 600000 Blocks.atReset)) = some 140600 := by
  decide +kernel

/-- ESTOP_RESET enables the drive, holding the gauge at the encoder reading of that moment (R101). -/
theorem test_estopReset_holds : gaugeCommand (after .estopReset fun b =>
    setInputs (fun i => { i with encoder := 140600 }) (setMsu (fun m => { m with estop := .readyToReset }) b)) = some 140600 := by
  decide +kernel

theorem witness_seqInPosition :
    (let b := seqAt .running 0 .position Blocks.atReset
     b.seq.state = .running ∧ b.seq.run.phase = .position ∧ currentStep b = some (.cut .abs 2 false 305000 none))
    ∧ (let b := seqAt .running 1 .clearance Blocks.atReset
       b.seq.state = .running ∧ b.seq.run.phase = .clearance)
    ∧ (let b := seqAt .running 2 .push Blocks.atReset
       b.seq.state = .running ∧ b.seq.run.phase = .push ∧ b.seq.snapshot = some snapA)
    ∧ (let b := seqAt .running 2 .load Blocks.atReset
       b.seq.state = .running ∧ b.seq.run.phase = .load)
    ∧ (let b := seqAt .held 2 .push Blocks.atReset
       b.seq.state = .held ∧ b.seq.run.phase = .push)
    ∧ (let b := seqAt .held 0 .position Blocks.atReset
       b.seq.state ≠ .running ∧ ¬ (b.seq.state = .held ∧ MoveKind.cut = .push ∧ b.seq.run.phase = .push)) := by decide +kernel

theorem witness_gaxInterlock : (seqMoving Blocks.atReset).gax.state = .moving
    ∧ (settlingJog 400 Blocks.atReset).gax.state = .settling ∧ (seeking Blocks.atReset).gax.state = .homing
    ∧ Blocks.atReset.gax.state = .unreferenced
    ∧ (gaxInterlock (seqMoving Blocks.atReset)).gax.pending = some ⟨.cut, 700000⟩ := by decide +kernel

/-- A SEQ turn with one quarter left and the block of case A. -/
def lastQuarter (q : SeqState) (b : Blocks) : Blocks :=
  setRun (fun r => { r with quartersLeft := 1 })
    (setTrk (fun t => { t with block := some blockA }) (trnAt .turning (turnOf .seq 1) (seqAt q 1 .turn b)))

theorem witness_lastQuarter : ∀ q ∈ [SeqState.running, .held],
    let b := (st (lastQuarter q)).blocks
    b.trn.state = .turning ∧ b.trn.record = some (turnOf .seq 1) ∧ (turnOf .seq 1).asker = .seq
      ∧ (b.seq.state = .running ∨ b.seq.state = .held) ∧ b.seq.run.phase = .turn ∧ b.seq.run.quartersLeft ≤ 1
      ∧ b.trk.block = some blockA := by decide +kernel

/-! ## The hypotheses of the library's and the link's clauses can be met -/

theorem witness_libStart :
    allRecords Lib.atReset.flash = [] ∧ (∃ c ∈ Lib.atReset.flash, ¬ c ≠ Section.erased)
    ∧ (∀ c ∈ [Section.begun 1 [.damaged 2032], .bad], c ≠ Section.erased)
    ∧ ((allRecords twoJobs.flash).map fun p => (p.2.kind, p.2.seq)) = [(.job, 1), (.job, 2)]
    ∧ ((reindex twoJobs).index.map fun e => (e.kind, e.key, e.seq)) = [(.job, 214, 2)]
    ∧ isSpent twoJobs 0 = false ∧ isSpent twoJobs 1 = true
    ∧ (setMsu (fun m => { m with phase := .waitLibrary }) Blocks.atReset).msu.phase = .waitLibrary := by
  refine ⟨by decide +kernel, ⟨.erased, List.mem_replicate.mpr ⟨by decide, rfl⟩, fun h => h rfl⟩, by decide +kernel,
    by decide +kernel, by decide +kernel, by decide +kernel, by decide +kernel, by decide +kernel⟩

/-- A library with no section begun, or one that is full, and inputs that fail. -/
def placing (begun : List Section) (program begins : Bool) (b : Blocks) : Blocks :=
  setInputs (fun i => { i with programFails := program, beginFails := begins })
    (setLib (fun l => { l with flash := begun ++ List.replicate (96 - begun.length) .erased }) b)

/-- A section at the highest order number, full. -/
def lastOrder : Section := .begun 4294967295 [.damaged 2032]

theorem witness_RecordPlaced_more :
    (let b := placing [] false false Blocks.atReset
     openSection b.lib.flash = none ∧ 2 ≤ erasedCount b.lib.flash ∧ nextErased b.lib.flash = some 0
      ∧ highestOrder b.lib.flash < 4294967295 ∧ b.inputs.beginFails = false ∧ b.inputs.programFails = false)
    ∧ (let b := placing [.begun 1 [.damaged 2032]] false false Blocks.atReset
       openSection b.lib.flash = some 0 ∧ 2032 - usedRoom (slotsAt b.lib.flash 0) < 12 + ((16 : Nat) + 3) / 4 * 4
        ∧ 2 ≤ erasedCount b.lib.flash ∧ nextErased b.lib.flash = some 1)
    ∧ (let b := placing [lastOrder] false false Blocks.atReset
       openSection b.lib.flash = some 0 ∧ 2032 - usedRoom (slotsAt b.lib.flash 0) < 12 + ((16 : Nat) + 3) / 4 * 4
        ∧ 2 ≤ erasedCount b.lib.flash ∧ 4294967295 ≤ highestOrder b.lib.flash)
    ∧ (let b := placing [] false true Blocks.atReset
       2 ≤ erasedCount b.lib.flash ∧ b.inputs.beginFails = true)
    ∧ (let b := placing [] true false Blocks.atReset
       2 ≤ erasedCount b.lib.flash ∧ nextErased b.lib.flash = some 0 ∧ b.inputs.beginFails = false ∧ b.inputs.programFails = true)
    ∧ (let b := placing [.begun 1 [.damaged 2004]] true false Blocks.atReset
       b.lib.nextSeq ≤ 4294967295 ∧ openSection b.lib.flash = some 0 ∧ b.inputs.programFails = true
        ∧ 12 + ((16 : Nat) + 3) / 4 * 4 ≤ 2032 - usedRoom (slotsAt b.lib.flash 0))
    ∧ (let b := fullFlash Blocks.atReset
       nextErased b.lib.flash = none) := by decide +kernel

theorem witness_frames_more :
    ((0x7E : Byte) = 0x7E ∧ (5000 : Nat) ≤ 5000 ∧ (240 : Byte).toNat ≤ 240 ∧ ([] : List RxByte).length < (0 : Byte).toNat + 4
      ∧ (List.replicate 243 (⟨0, 5000⟩ : RxByte)).length < (240 : Byte).toNat + 4 ∧ 5000 < (5001 : Nat))
    ∧ (let check := (crc16 [1, 2, 9, 5]).toNat
       (2 : Byte) ≠ 1 ∧ (1 : Byte).toNat = ([5] : List Byte).length
        ∧ check = (BitVec.ofNat 8 (check / 256)).toNat * 256 + (BitVec.ofNat 8 check).toNat) := by decide +kernel

theorem witness_bytes : allInvalid.length = 232
    ∧ (0 ≤ (65535 : Int) ∧ (65535 : Int) < 256 ^ 2) ∧ (0 < 2 ∧ -(2 ^ (8 * 2 - 1)) ≤ (-32768 : Int) ∧ (-32768 : Int) < 2 ^ (8 * 2 - 1))
    ∧ (0 ≤ (0 : Int) ∧ (0 : Int) < 256 ^ 0) := by decide +kernel

/-! ## The hypotheses of the clauses on SEQ's part, the load number and the sections can be met -/

theorem witness_manual_at_stop : ∀ q ∈ [CycleState.clamping, .clamped],
    let b := setInputs (fun i => { i with upperStop := true }) (ckuAt q (cycle .manual false) Blocks.atReset)
    b.cku.state = q ∧ b.inputs.upperStop = true ∧ b.cku.cycle = some (cycle .manual false) ∧ (cycle .manual false).asker = .manual
      ∧ b.cku.knifeReturn = false ∧ b.seq.state ≠ .running := by decide +kernel

/-- Eight pieces with the load numbers after n. -/
def eightPieces (n : Nat) : List Piece :=
  (List.range 8).map fun i => { stripPiece blockA none 1 1 with load := (n + i) % 65535 + 1 }

theorem witness_load_number : (eightPieces 65530).length ≤ 8 ∧ freshLoadNumber (eightPieces 65530) 8 65530 = 4
    ∧ (∀ p ∈ ([] : List Piece), p.load ≠ 1) ∧ freshLoadNumber [] 8 65535 = 1 := by decide +kernel

theorem witness_clearTold :
    (let b := setRun (fun r => { r with wait := .frontClear }) (seqAt .running 2 .none Blocks.atReset)
     b.seq.state = .running ∧ b.seq.run.wait = .frontClear ∧ currentStep b = some .eject)
    ∧ (let b := setRun (fun r => { r with wait := .frontClear }) (seqAt .running 0 .compute Blocks.atReset)
       b.seq.state = .running ∧ b.seq.run.wait = .frontClear ∧ currentStep b = some (.cut .abs 2 false 305000 none)) := by
  decide +kernel

theorem witness_no_block : Blocks.atReset.trk.block = none
    ∧ (let b := setSeq (fun q => { q with stack := [frameOf 0] }) Blocks.atReset
       b.trk.block = none ∧ b.seq.stack = frameOf 0 :: [] ∧ (frameOf 0).repeats = 0) := by decide +kernel

theorem witness_corrections : ((-1 : Int) < 0 ∧ 0 ≤ (232 : Int) ∧ allInvalid[(232 : Int).toNat]? = none)
    ∧ (0 ≤ (231 : Int) ∧ allInvalid[(231 : Int).toNat]? = some none)
    ∧ ((5000 : Int) % 5000 = 0 ∧ (4999 : Int) % 5000 ≠ 0) := by decide +kernel

theorem witness_sections :
    (let flash : List Section := .begun 3 [] :: List.replicate 94 .bad ++ [.begun 7 []]
     openSection flash = some 95 ∧ highestOrder flash = 7 ∧ nextErased flash = none)
    ∧ (let flash : List Section := .erased :: List.replicate 94 .bad ++ [.begun 7 []]
       nextErased flash = some 0 ∧ 0 = (96 + 0) % 96)
    ∧ openSection Lib.atReset.flash = none ∧ nextErased Lib.atReset.flash = some 0 := by decide +kernel

theorem witness_checkFailed : Blocks.atReset.jog.retries < 2
    ∧ ¬ (setJog (fun j => { j with retries := 2 }) Blocks.atReset).jog.retries < 2
    ∧ (let b := after (.jogEnd true true) fun b => setJog (fun j => { j with state := .jogging, record := some (jogOf 40 2 75) }) b
       b.jog.state = .aligned ∧ b.jog.record.map (·.periods) = some 63) := by decide +kernel

/-! ## The hypotheses of the clauses on the level changes, the gauge's position, the index and the receiver can be met -/

theorem witness_applyLevel :
    (let b := setInputs (fun i => { i with encoder := 140003 }) (settlingJog 400 Blocks.atReset)
     b.gax.state = .settling ∧ (b.gax.move.map (·.countTarget)) = some 140000 ∧ (2 : Int) < |b.inputs.encoder - 140000|)
    ∧ (let b := setGax (fun g => { g with finalSettling := true }) (seeking Blocks.atReset)
       b.gax.state = .homing ∧ b.gax.finalSettling = true)
    ∧ (¬ (Blocks.atReset.gax.state = .settling ∨ (Blocks.atReset.gax.state = .homing ∧ Blocks.atReset.gax.finalSettling = true)))
    ∧ (∀ v, (let i : Inputs := { Inputs.atReset with bladeHome := v, pusherHome := true }; (i.bladeHome && i.pusherHome) = v)
        ∧ (let i : Inputs := { Inputs.atReset with bladeHome := true, pusherHome := v }; (i.bladeHome && i.pusherHome) = v)) := by
  decide +kernel

theorem witness_jogTableClear :
    (let b := setJog (fun j => { j with state := .fault, fault := some .interlockLost }) Blocks.atReset
     b.jog.state = .fault ∧ b.jog.fault = some .interlockLost ∧ b.inputs.backTable = false ∧ jogTableClear b = true
      ∧ jogTableClear (setInputs (fun i => { i with backTable := true }) b) = false
      ∧ jogTableClear (setInputs (fun i => { i with sideStop := true }) b) = false)
    ∧ (let b := setInputs (fun i => { i with backTable := true })
         (setJog (fun j => { j with state := .fault, fault := some .jogMisaligned }) Blocks.atReset)
       jogTableClear b = true) := by decide +kernel

theorem witness_restart_stores :
    (StartedUp State.reset ∧ State.reset.blocks.seq.state ≠ .running ∧ State.reset.blocks.lib.state = .opened
      ∧ (after .restart fun b => b).lib.nextSeq = 2)
    ∧ ¬ (setLib (fun l => { l with state := .closed }) Blocks.atReset).lib.state = .opened := by
  unfold StartedUp
  decide +kernel

theorem witness_gaxPosition :
    (Blocks.atReset.gax.start = .none ∧ Blocks.atReset.gax.referenced = false)
    ∧ (let b := gaugeAt 605720 Blocks.atReset
       b.gax.start = .at 605720 ∧ b.gax.referenced = true ∧ b.gax.inPosition = true
        ∧ gaxStandsAt 605720 b = true ∧ gaxStandsAt 605721 b = false)
    ∧ (let b := applyLevel (.encoder 140003) (after (.inPosition 140000) (settlingJog 160))
       b.gax.start = .estimate ∧ b.gax.referenced = true ∧ b.gax.inPosition = false ∧ startingPosition b = some 700015) := by
  decide +kernel

/-- A CORR record for points from a start on. -/
def corrRecord (start seq : Nat) (values : List (Option Int)) : Rec := ⟨.corr, start, seq, encodeCorr values⟩

/-- R178: a point's value comes from the record of highest sequence number that covers it; a tombstone makes an item absent. -/
theorem witness_currentPoint :
    (let l := libWith [corrRecord 4 2 [some 7, some 8], corrRecord 5 3 [none], corrRecord 4 1 [some 1, some 2, some 3]]
     (allRecords l.flash).map (·.2.seq) = [2, 3, 1]
      ∧ [3, 4, 5, 6, 7].map (currentPoint l) = [none, some 7, none, some 3, none])
    ∧ (let l := libWith [⟨.job, 214, 1, [0x41]⟩, ⟨.job, 214, 2, []⟩]
       currentRecord l .job 214 = some ⟨.job, 214, 2, []⟩ ∧ currentItem l .job 214 = none) := by decide +kernel

theorem witness_libraryFigures :
    (StockFigures.inRange stock7 = true ∧ decodeStock (StockFigures.encode stock7) = some stock7)
    ∧ StockFigures.inRange { stock7 with jogPeriod := 41 } = false
    ∧ (([some 1, none] : List (Option Int)).length = [some 1, some (2 : Int)].length
      ∧ firstDifference [some 1, none] [some 1, some 2] = some 1 ∧ firstDifference [some 1, none] [some 1, none] = none)
    ∧ (let r : KnifeRecord := ⟨-300, 20, 16777215, 15⟩;
       (-300 : Int) ≤ r.k ∧ r.k ≤ 300 ∧ r.w ≤ 20 ∧ r.C ≤ 16777215 ∧ r.G ≤ 15 ∧ decodeKnife r.encode = some r)
    ∧ corrValuesOf [0x80, 0, 0xFF, 0xFB, 1] = [none, some (-5)] := by decide +kernel

/-- R104, R178: whatever a failed erase leaves of its section, an equal copy in another section supplies the point. -/
theorem test_failed_erase_copy :
    (let b := setInputs (fun i => { i with eraseFails := true }) (setLib (fun l => { l with work := some (.spent 0 true),
                                                                                            deadline := some 40 }) Blocks.atReset)
     b.lib.work = some (.spent 0 true) ∧ b.lib.deadline = some 40 ∧ b.inputs.eraseFails = true)
    ∧ (let copy : Slot := .valid (corrRecord 4 1 [some 7])
       ∀ c ∈ [Section.begun 1 [copy], .bad, .erased],
         currentPoint (reindex { Lib.atReset with flash := c :: .begun 2 [copy] :: List.replicate 94 .bad }) 4 = some 7) := by
  decide +kernel

/-- The bytes of the sound frame, each as late as a frame allows; the gap before the start byte counts for nothing. -/
def slowFrame : List RxByte := match soundFrame with
  | [] => []
  | x :: rest => ⟨x, 9000⟩ :: rest.map fun y => ⟨y, 5000⟩

theorem witness_slow_frame :
    (slowFrame.map (·.byte) = soundFrame ∧ (∀ y ∈ slowFrame.tail, y.gapUs ≤ 5000)
      ∧ (after (.frameReceived slowFrame) id).lnk.queue = [⟨9, [5], none⟩])
    ∧ (let part := slowFrame.take (slowFrame.length - 1)
       (part.drop 2).length < ((part.drop 1).headD ⟨0, 0⟩).byte.toNat + 4 ∧ ((part.drop 1).headD ⟨0, 0⟩).byte.toNat ≤ 240
        ∧ (after (.frameReceived part) id).lnk.gathered = part)
    ∧ (let check := (crc16 [1, 2, 9, 5]).toNat + 1
       (crc16 [1, 2, 9, 5]).toNat ≠ (BitVec.ofNat 8 (check / 256)).toNat * 256 + (BitVec.ofNat 8 check).toNat) := by
  decide +kernel

/-- R142: notice CELL carries the whole status of TRN. -/
theorem test_cell_notice : (noticeSnapshot .cell (trnAt .turning (turnOf .seq 1) Blocks.atReset)).bytes.length
    = 6 + (turnerStatus (trnAt .turning (turnOf .seq 1) Blocks.atReset)).bytes.length := by decide +kernel

end Sys2Proof.Tests
end

section
/-! SUPPORT. What a front-table clear does (R27, R28, R35, R66, R67) and how BLOCK_CLEAR and SET_ORIENTATION are judged
(R61, R72): one equation per operation of the model, and the two statements put together from them. -/

namespace Sys2Proof.Machine

open Sys2Proof

/-! ## Commands as acts on the block -/

/-- Two acts that agree on every block give the same next state. -/
theorem next_act_congr {f g : Blocks → Blocks} (s : State) (h : ∀ b, f b = g b) :
    (.next (s.act f) : Host.Outcome State Fault Refusal) = .next (s.act g) := by
  rw [funext h]

/-- After start-up a request's next state is its owner's act. -/
theorem run_asRequest {f : Blocks → Blocks} {s : State} (h : StartedUp s) : run (asRequest f) s = .next (s.act f) := by
  rw [run_eq, act_asRequest h]

theorem exec_frontClearButton (s : State) : exec .frontClearButton s = .next (s.act clearReaches) := rfl

theorem exec_deferredClearTaken (s : State) : exec .deferredClearTaken s = .next (s.act deferredClear) := rfl

theorem exec_frontCleared {s : State} (h : StartedUp s) : exec .frontCleared s = .next (s.act frontClearedRequest) :=
  run_asRequest h

theorem exec_blockClear {s : State} (h : StartedUp s) : exec .blockClear s = .next (s.act blockClearRequest) :=
  run_asRequest h

theorem exec_setOrientation (o : Nat) {s : State} (h : StartedUp s) :
    exec (.setOrientation o) s = .next (s.act (setOrientationRequest o)) :=
  run_asRequest h

/-! ## The front-table clear -/

/-- What a taken clear leaves of TRK: nothing in the queue, all of it delivered, no clear pending (R67). -/
theorem deliverQueue_eq (b : Blocks) :
    deliverQueue b = raise .front { b with trk := { b.trk with
      queue := [], delivered := min 65535 (b.trk.delivered + b.trk.queue.length), clearPending := false } } := rfl

/-- Delivering the queue is TRK's alone: SEQ waits as before. -/
@[simp] theorem seq_deliverQueue (b : Blocks) : (deliverQueue b).seq = b.seq := rfl

/-- SEQ makes its check again at a clear only where it waits FRONT_CLEAR (R27). -/
theorem clearTold_of_not_waiting {b : Blocks} (h : ¬ (b.seq.state = .running ∧ b.seq.run.wait = .frontClear)) :
    clearTold b = b :=
  if_neg h

/-- A waiting EJECT makes its block and queue checks again (R35). -/
theorem clearTold_of_eject {b : Blocks} (hrun : b.seq.state = .running) (hwait : b.seq.run.wait = .frontClear)
    (hstep : currentStep b = some .eject) :
    clearTold b = ejectTaken { b with seq := { b.seq with run := { b.seq.run with wait := .none } } } := by
  unfold clearTold
  rw [if_pos ⟨hrun, hwait⟩, hstep]
  rfl

/-- At a CUT the step's check is its COMPUTE (R28). -/
theorem recompute_of_cut {b : Blocks} {mode : CutMode} {count : Nat} {waste : Bool} {dim : Um} {own : Option Nat}
    (hstep : currentStep b = some (.cut mode count waste dim own)) : recompute b = computeCut mode waste dim b := by
  unfold recompute
  rw [hstep]

/-- A waiting CUT goes to its COMPUTE again (R28). -/
theorem clearTold_of_cut {b : Blocks} {mode : CutMode} {count : Nat} {waste : Bool} {dim : Um} {own : Option Nat}
    (hrun : b.seq.state = .running) (hwait : b.seq.run.wait = .frontClear)
    (hstep : currentStep b = some (.cut mode count waste dim own)) : clearTold b = computeCut mode waste dim b := by
  unfold clearTold
  rw [if_pos ⟨hrun, hwait⟩, hstep]
  exact recompute_of_cut hstep

/-- A clear that is taken delivers the queue and then tells SEQ, where SEQ waits for it (R27, R67). -/
theorem takeClear_eq (b : Blocks) :
    takeClear b = if b.seq.state = .running ∧ b.seq.run.wait = .frontClear then clearTold (deliverQueue b)
      else deliverQueue b := by
  split
  case isTrue => rfl
  case isFalse hidle => exact clearTold_of_not_waiting (by rwa [seq_deliverQueue])

/-- A clear that reaches TRK is taken at the upper stop; elsewhere only its mark is set, told once (R66). -/
theorem clearReaches_eq (b : Blocks) :
    clearReaches b = if b.inputs.upperStop then
        if b.seq.state = .running ∧ b.seq.run.wait = .frontClear then clearTold (deliverQueue b) else deliverQueue b
      else if b.trk.clearPending then b else raise .front { b with trk := { b.trk with clearPending := true } } := by
  rw [← takeClear_eq]
  rfl

/-- FRONT_CLEARED is OK when the clear is taken and ACCEPTED when it is deferred (R66). -/
theorem frontClearedRequest_eq (b : Blocks) :
    frontClearedRequest b = answer (if b.inputs.upperStop then .ok else .accepted) .nothing (clearReaches b) := rfl

/-- A pending clear is taken once the clamp is at its upper stop, and waits until then (R66). -/
theorem deferredClear_eq (b : Blocks) :
    deferredClear b = if b.trk.clearPending = true ∧ b.inputs.upperStop = true then
        if b.seq.state = .running ∧ b.seq.run.wait = .frontClear then clearTold (deliverQueue b) else deliverQueue b
      else b := by
  rw [← takeClear_eq]
  rfl

/-! ## The block requests -/

/-- The order of R72; a BLOCK_CLEAR taken leaves no block record, with its partial-cut mark, and no BLOCK_UNKNOWN. -/
theorem blockClearRequest_eq (b : Blocks) :
    blockClearRequest b =
      if b.msu.mode = .standby then answer .refusedMode .nothing b
      else if b.seq.state = .running ∨ b.inputs.upperStop = false ∨ b.inputs.backTable = true then
        answer .refusedState .nothing b
      else answer .ok .nothing { b with trk := { b.trk with block := none, unknown := false } } := rfl

/-- The depth axis of the four orientations (R52). -/
theorem axisOf_of_lt_four {o : Nat} (h : o < 4) : axisOf o = if o = 0 ∨ o = 2 then .headFoot else .leftRight := by
  unfold axisOf
  congr 1
  rw [eq_iff_iff]
  omega

/-- There are two depth axes: the other one is the one it is not. -/
theorem DepthAxis.other_of_ne : ∀ {a c : DepthAxis}, a ≠ c → a.other = c
  | .headFoot, .leftRight, _ | .leftRight, .headFoot, _ => rfl
  | .headFoot, .headFoot, h | .leftRight, .leftRight, h => absurd rfl h

/-- A declared block lies on the axis of its orientation: depth and width are exchanged where the axis changes (R61). -/
theorem Block.declared_eq (k : Block) (o : Nat) :
    k.declared o =
      let turned :=
        if k.axis = axisOf o then k
        else { k with nomDepth := k.nomWidth, nomWidth := k.nomDepth, strDepth := k.strWidth, strWidth := k.strDepth,
                      axis := axisOf o }
      { turned with orientation := some o } := by
  by_cases haxis : k.axis = axisOf o
  · simp only [Block.declared, if_pos haxis]
  · simp only [Block.declared, if_neg haxis, DepthAxis.other_of_ne haxis]

/-- With no block a SET_ORIENTATION is refused, after its argument and the mode (R61). -/
theorem setOrientationRequest_of_no_block (o : Nat) {b : Blocks} (h : b.trk.block = none) :
    setOrientationRequest o b =
      if 4 ≤ o then answer .badArgument .nothing b
      else if b.msu.mode = .standby then answer .refusedMode .nothing b
      else answer .refusedState .nothing b := by
  unfold setOrientationRequest
  rw [h]
  rfl

/-- With a block a SET_ORIENTATION is taken when SEQ does not run and the orientation is UNKNOWN (R61). -/
theorem setOrientationRequest_of_block (o : Nat) {b : Blocks} {k : Block} (h : b.trk.block = some k) :
    setOrientationRequest o b =
      if 4 ≤ o then answer .badArgument .nothing b
      else if b.msu.mode = .standby then answer .refusedMode .nothing b
      else if b.seq.state = .running ∨ k.orientation ≠ none then answer .refusedState .nothing b
      else answer .ok .nothing (setBlock (some (k.declared o)) b) := by
  unfold setOrientationRequest
  rw [h]
  simp only [Option.isSome_iff_ne_none]
  rfl

end Sys2Proof.Machine

open Sys2Proof Sys2Proof.Machine

/-- Settles O26: each command is an act of `clearReaches` or `deferredClear`, and SEQ's two checks are `clearTold`'s cases. -/
theorem clearsDeliverQueue : Obligations.ClearsDeliverQueue := by
  refine ⟨fun s => ?button, fun s hstart => ?request, fun s => ?deferred, fun b hrun hwait => ⟨?eject, ?cut⟩⟩
  case button =>
    rw [exec_frontClearButton]
    exact next_act_congr s fun b => by rw [clearReaches_eq, deliverQueue_eq]
  case request =>
    rw [exec_frontCleared hstart]
    exact next_act_congr s fun b => by rw [frontClearedRequest_eq, clearReaches_eq, deliverQueue_eq]
  case deferred =>
    rw [exec_deferredClearTaken]
    exact next_act_congr s fun b => by rw [deferredClear_eq, deliverQueue_eq]
  case eject => exact clearTold_of_eject hrun hwait
  case cut => exact fun _ _ _ _ _ => clearTold_of_cut hrun hwait

/-- Settles O27: BLOCK_CLEAR by its order, SET_ORIENTATION by whether there is a block to declare. -/
theorem blockRequestsJudged : Obligations.BlockRequestsJudged := by
  refine ⟨fun s hstart => ?clear, fun o s hstart => ?orient⟩
  case clear =>
    rw [exec_blockClear hstart]
    exact next_act_congr s blockClearRequest_eq
  case orient =>
    rw [exec_setOrientation o hstart]
    refine next_act_congr s fun b => ?_
    cases hblock : b.trk.block with
    | none => exact setOrientationRequest_of_no_block o hblock
    | some k =>
      rw [setOrientationRequest_of_block o hblock, Block.declared_eq]
      by_cases hbad : 4 ≤ o
      · rw [if_pos hbad, if_pos hbad]
      · rw [if_neg hbad, if_neg hbad, axisOf_of_lt_four (Nat.lt_of_not_le hbad)]
        rfl

end

section
/-! SUPPORT. What the laws of Safety.lean speak of, as a projection of the block, and the operations of the units that leave it
as it is: one lemma per operation. -/

set_option Elab.async false

namespace Sys2Proof.Machine

open Sys2Proof

/-- The figures the laws of Safety.lean speak of: the knife's valves, state, running time and valve gap, whether a cycle is under
way, SEQ's state and stack depth, TRK's counters, the link but for its flags, the phase of start-up, the flash's length. -/
structure Vital where
  valves : Valves
  knife : CycleState
  deadline : Option Ms
  /-- the end of the valve gap that the down valve's closing began -/
  gapOver : Ms
  cycle : Bool
  seq : SeqState
  depth : Nat
  made : Nat
  delivered : Nat
  trims : Nat
  lnk : Lnk
  phase : StartupPhase
  sections : Nat

/-- The figures of a block. -/
def vital (b : Blocks) : Vital :=
  { valves := b.cku.valves, knife := b.cku.state, deadline := b.cku.deadline, gapOver := gapEnd b.cku.downClosedAt b,
    cycle := b.cku.cycle.isSome, seq := b.seq.state, depth := b.seq.stack.length, made := b.trk.made,
    delivered := b.trk.delivered, trims := b.trk.trims, lnk := linkCore b, phase := b.msu.phase,
    sections := b.lib.flash.length }

/-! ## The updates of a unit (in parentheses, so that simp can use them in a side goal) -/

@[simp] theorem vital_setGax (f) (b : Blocks) : vital (setGax f b) = vital b := (rfl)
@[simp] theorem vital_setTrn (f) (b : Blocks) : vital (setTrn f b) = vital b := (rfl)
@[simp] theorem vital_setLft (f) (b : Blocks) : vital (setLft f b) = vital b := (rfl)
@[simp] theorem vital_setJog (f) (b : Blocks) : vital (setJog f b) = vital b := (rfl)
@[simp] theorem vital_setInputs (f) (b : Blocks) : vital (setInputs f b) = vital b := (rfl)
@[simp] theorem vital_setRun (f) (b : Blocks) : vital (setRun f b) = vital b := (rfl)
@[simp] theorem vital_setBlock (k) (b : Blocks) : vital (setBlock k b) = vital b := (rfl)
@[simp] theorem vital_raise (k) (b : Blocks) : vital (raise k b) = vital b := (rfl)
@[simp] theorem vital_raiseIf (c k) (b : Blocks) : vital (raiseIf c k b) = vital b := by cases c <;> rfl
@[simp] theorem vital_answer (st r) (b : Blocks) : vital (answer st r b) = vital b := (rfl)
@[simp] theorem vital_nextFree (b : Blocks) : vital (nextFree b) = vital b := (rfl)
@[simp] theorem vital_clockAt (d) (b : Blocks) : vital (clockAt d b) = vital b := by cases d <;> rfl

@[simp] theorem vital_setMsu {f : Msu → Msu} (h : ∀ m, (f m).phase = m.phase) (b : Blocks) : vital (setMsu f b) = vital b :=
  congrArg (fun p => { vital b with phase := p }) (h b.msu)

@[simp] theorem vital_setSeq {f : Seq → Seq} (hstate : ∀ q, (f q).state = q.state)
    (hstack : ∀ q, (f q).stack.length = q.stack.length) (b : Blocks) : vital (setSeq f b) = vital b :=
  congrArg₂ (fun q n => { vital b with seq := q, depth := n }) (hstate b.seq) (hstack b.seq)

@[simp] theorem vital_setTrk {f : Trk → Trk} (hmade : ∀ t, (f t).made = t.made)
    (hdelivered : ∀ t, (f t).delivered = t.delivered) (htrims : ∀ t, (f t).trims = t.trims) (b : Blocks) :
    vital (setTrk f b) = vital b := by
  simp [vital, hmade, hdelivered, htrims, gapEnd]

@[simp] theorem vital_setLib {f : Lib → Lib} (h : ∀ l, (f l).flash.length = l.flash.length) (b : Blocks) :
    vital (setLib f b) = vital b :=
  congrArg (fun n => { vital b with sections := n }) (h b.lib)

@[simp] theorem vital_setCku {f : Cku → Cku} (hvalves : ∀ c, (f c).valves = c.valves) (hstate : ∀ c, (f c).state = c.state)
    (hdeadline : ∀ c, (f c).deadline = c.deadline) (hclosed : ∀ c, (f c).downClosedAt = c.downClosedAt)
    (hG : ∀ c, (f c).knife.G = c.knife.G) (hcycle : ∀ c, (f c).cycle.isSome = c.cycle.isSome) (b : Blocks) :
    vital (setCku f b) = vital b := by
  simp [vital, gapEnd, hvalves, hstate, hdeadline, hclosed, hG, hcycle]

@[simp] theorem length_appendSlot (flash : List Section) (i : Nat) (x : Slot) :
    (appendSlot flash i x).length = flash.length := by
  simp [appendSlot]

@[simp] theorem length_flash_reindex (l : Lib) : (reindex l).flash.length = l.flash.length := by simp only [reindex]

@[simp] theorem length_flash_renewStaging (t : Ms) (l : Lib) : (renewStaging t l).flash.length = l.flash.length := by
  simp only [renewStaging]

/-! ## The operations of the units -/

@[simp] theorem vital_jogFault (code : JogFault) (b : Blocks) : vital (jogFault code b) = vital b := by
  simp only [jogFault]
  repeat' split
  all_goals simp
@[simp] theorem vital_jogWatch (b : Blocks) : vital (jogWatch b) = vital b := by
  simp only [jogWatch]
  repeat' split
  all_goals simp
@[simp] theorem vital_jogBegin (snap : Snapshot) (b : Blocks) : vital (jogBegin snap b) = vital b := by
  simp [jogBegin]
@[simp] theorem vital_tryJog (b : Blocks) : vital (tryJog b) = vital b := by
  simp only [tryJog]
  repeat' split
  all_goals simp
@[simp] theorem vital_checkFailed (b : Blocks) : vital (checkFailed b) = vital b := by
  simp only [checkFailed]
  repeat' split
  all_goals simp
@[simp] theorem vital_alignmentCheck (b : Blocks) : vital (alignmentCheck b) = vital b := by
  simp only [alignmentCheck]
  repeat' split
  all_goals simp
@[simp] theorem vital_jogEnd (b : Blocks) : vital (jogEnd b) = vital b := by
  simp [jogEnd]
@[simp] theorem vital_entryEvent (ofParting : Bool) (b : Blocks) : vital (entryEvent ofParting b) = vital b := by
  simp only [entryEvent]
  repeat' split
  all_goals simp
@[simp] theorem vital_carriageIsHome (b : Blocks) : vital (carriageIsHome b) = vital b := by
  simp only [carriageIsHome]
  repeat' split
  all_goals simp
@[simp] theorem vital_pauseRepeat (b : Blocks) : vital (pauseRepeat b) = vital b := by
  simp only [pauseRepeat]
  repeat' split
  all_goals simp
@[simp] theorem vital_jogEstop (b : Blocks) : vital (jogEstop b) = vital b := by
  simp only [jogEstop]
  repeat' split
  all_goals simp
@[simp] theorem vital_jogChainReset (b : Blocks) : vital (jogChainReset b) = vital b := by
  simp only [jogChainReset]
  repeat' split
  all_goals simp
@[simp] theorem vital_jogReset (b : Blocks) : vital (jogReset b) = vital b := by
  simp only [jogReset]
  repeat' split
  all_goals simp
@[simp] theorem vital_jogStart (b : Blocks) : vital (jogStart b) = vital b := by
  simp [jogStart]
@[simp] theorem vital_gaxStartValues (b : Blocks) : vital (gaxStartValues b) = vital b := by
  simp [gaxStartValues]
@[simp] theorem vital_gaxStopped (b : Blocks) : vital (gaxStopped b) = vital b := by
  simp only [gaxStopped]
  repeat' split
  all_goals simp
@[simp] theorem vital_gaxDecelerate (b : Blocks) : vital (gaxDecelerate b) = vital b := by
  simp [gaxDecelerate]
@[simp] theorem vital_gaxStop (b : Blocks) : vital (gaxStop b) = vital b := by
  simp only [gaxStop]
  repeat' split
  all_goals simp
@[simp] theorem vital_repend (b : Blocks) : vital (repend b) = vital b := by
  simp only [repend]
  repeat' split
  all_goals simp
@[simp] theorem vital_gaxInterlock (b : Blocks) : vital (gaxInterlock b) = vital b := by
  simp only [gaxInterlock]
  repeat' split
  all_goals simp
@[simp] theorem vital_gaxRest (b : Blocks) : vital (gaxRest b) = vital b := by
  simp only [gaxRest]
  repeat' split
  all_goals simp
@[simp] theorem vital_gaxModeRest (b : Blocks) : vital (gaxModeRest b) = vital b := by
  simp only [gaxModeRest]
  repeat' split
  all_goals simp
@[simp] theorem vital_gaxBegin (kind : MoveKind) (asker : MoveAsker) (p : Um) (clamped : Bool) (start : Um) (b : Blocks) : vital (gaxBegin kind asker p clamped start b) = vital b := by
  simp [gaxBegin]
@[simp] theorem vital_beginPending (b : Blocks) : vital (beginPending b) = vital b := by
  simp only [beginPending]
  repeat' split
  all_goals simp
@[simp] theorem vital_gaxSettle (b : Blocks) : vital (gaxSettle b) = vital b := by
  simp [gaxSettle]
@[simp] theorem vital_gaxInPosition (m : MoveRecord) (b : Blocks) : vital (gaxInPosition m b) = vital b := by
  simp [gaxInPosition]
@[simp] theorem vital_gaxEnterFault (code : GaxFault) (b : Blocks) : vital (gaxEnterFault code b) = vital b := by
  simp only [gaxEnterFault]
  repeat' split
  all_goals simp
@[simp] theorem vital_gaxEstop (b : Blocks) : vital (gaxEstop b) = vital b := by
  simp only [gaxEstop]
  repeat' split
  all_goals simp
@[simp] theorem vital_driveEnable (on) (b : Blocks) : vital (driveEnable on b) = vital b := by
  simp only [driveEnable]
  repeat' split
  all_goals simp
@[simp] theorem vital_gaxChainReset (b : Blocks) : vital (gaxChainReset b) = vital b := by
  simp [gaxChainReset]
@[simp] theorem vital_gaxHome (b : Blocks) : vital (gaxHome b) = vital b := by
  simp only [gaxHome]
  repeat' split
  all_goals simp
@[simp] theorem vital_gaxReference (b : Blocks) : vital (gaxReference b) = vital b := by
  simp [gaxReference]
@[simp] theorem vital_gaxReset (b : Blocks) : vital (gaxReset b) = vital b := by
  simp only [gaxReset]
  repeat' split
  all_goals simp
@[simp] theorem vital_gaxTable (table : List (Option Int)) (b : Blocks) : vital (gaxTable table b) = vital b := by
  simp [gaxTable]
@[simp] theorem vital_gaxStart (b : Blocks) : vital (gaxStart b) = vital b := by
  simp [gaxStart]
@[simp] theorem vital_markPartialCut (b : Blocks) : vital (markPartialCut b) = vital b := by
  simp [markPartialCut]
@[simp] theorem vital_quarterUpdate (b : Blocks) : vital (quarterUpdate b) = vital b := by
  simp [quarterUpdate]
@[simp] theorem vital_orientationLost (b : Blocks) : vital (orientationLost b) = vital b := by
  simp [orientationLost]
@[simp] theorem vital_createBlock (f : TransferFigures) (portion : Nat) (b : Blocks) : vital (createBlock f portion b) = vital b := by
  simp [createBlock]
@[simp] theorem vital_flapClose (b : Blocks) : vital (flapClose b) = vital b := by
  simp only [flapClose]
  repeat' split
  all_goals simp
@[simp] theorem vital_flapOpen (b : Blocks) : vital (flapOpen b) = vital b := by
  simp only [flapOpen]
  repeat' split
  all_goals simp
@[simp] theorem vital_manualEnds (completed : Bool) (b : Blocks) : vital (manualEnds completed b) = vital b := by
  simp [manualEnds]
@[simp] theorem vital_ckuResetEnds (b : Blocks) : vital (ckuResetEnds b) = vital b := by
  simp only [ckuResetEnds]
  repeat' split
  all_goals simp
@[simp] theorem vital_recordReversal (cause : ReversalCause) (b : Blocks) : vital (recordReversal cause b) = vital b := by
  simp [recordReversal]
@[simp] theorem vital_askRest (b : Blocks) : vital (askRest b) = vital b := by
  simp [askRest]
@[simp] theorem vital_judgeWear (b : Blocks) : vital (judgeWear b) = vital b := by
  simp [judgeWear]
@[simp] theorem vital_countCut (b : Blocks) : vital (countCut b) = vital b := by
  simp [countCut]
@[simp] theorem vital_trnBegin (asker : TurnAsker) (quarters : Nat) (b : Blocks) : vital (trnBegin asker quarters b) = vital b := by
  simp [trnBegin]
@[simp] theorem vital_trnRelease (b : Blocks) : vital (trnRelease b) = vital b := by
  simp [trnRelease]
@[simp] theorem vital_turnAskRest (b : Blocks) : vital (turnAskRest b) = vital b := by
  simp [turnAskRest]
@[simp] theorem vital_turnToRest (b : Blocks) : vital (turnToRest b) = vital b := by
  simp only [turnToRest]
  repeat' split
  all_goals simp
@[simp] theorem vital_trnRest (b : Blocks) : vital (trnRest b) = vital b := by
  simp only [trnRest]
  repeat' split
  all_goals simp
@[simp] theorem vital_trnModeRest (b : Blocks) : vital (trnModeRest b) = vital b := by
  simp only [trnModeRest]
  repeat' split
  all_goals simp
@[simp] theorem vital_trnPark (b : Blocks) : vital (trnPark b) = vital b := by
  simp [trnPark]
@[simp] theorem vital_trnEnterFault (code : TrnFault) (b : Blocks) : vital (trnEnterFault code b) = vital b := by
  simp only [trnEnterFault]
  repeat' split
  all_goals simp
@[simp] theorem vital_armsAreOpen (b : Blocks) : vital (armsAreOpen b) = vital b := by
  simp only [armsAreOpen]
  repeat' split
  all_goals simp
@[simp] theorem vital_trnReset (b : Blocks) : vital (trnReset b) = vital b := by
  simp only [trnReset]
  repeat' split
  all_goals simp
@[simp] theorem vital_trnStart (b : Blocks) : vital (trnStart b) = vital b := by
  simp only [trnStart]
  repeat' split
  all_goals simp
@[simp] theorem vital_furtherCause (b : Blocks) : vital (furtherCause b) = vital b := by
  simp [furtherCause]
@[simp] theorem vital_advanceBy (k : Nat) (b : Blocks) : vital (advanceBy k b) = vital b := by
  simp [advanceBy]
@[simp] theorem vital_heldRelease (b : Blocks) : vital (heldRelease b) = vital b := by
  simp only [heldRelease]
  repeat' split
  all_goals simp
@[simp] theorem vital_libEvent (e : LibEvent) (b : Blocks) : vital (libEvent e b) = vital b := by
  simp [libEvent]
@[simp] theorem vital_deferredStoreFails (b : Blocks) : vital (deferredStoreFails b) = vital b := by
  simp only [deferredStoreFails]
  repeat' split
  all_goals simp
@[simp] theorem vital_libClose (why : LibFailure) (b : Blocks) : vital (libClose why b) = vital b := by
  simp [libClose]
@[simp] theorem vital_programRecord (i : Nat) (r : Rec) (b : Blocks) : vital (programRecord i r b).1 = vital b := by
  simp only [programRecord]
  split
  · cases failedSlot r (Config.failedProgram b.freeIndex) <;> simp
  · simp
@[simp] theorem vital_beginSection (b : Blocks) : vital (beginSection b).1 = vital b := by
  simp only [beginSection]
  repeat' split
  all_goals simp
@[simp] theorem vital_programNext (kind : RecKind) (key : Nat) (body : List Byte) (b : Blocks) :
    vital (programNext kind key body b).1 = vital b := by
  have hbegin := vital_beginSection b
  simp only [programNext]
  repeat' split
  all_goals simp_all [-vital_beginSection]
@[simp] theorem vital_placeRecord (kind : RecKind) (key : Nat) (body : List Byte) (b : Blocks) : vital (placeRecord kind key body b).1 = vital b := by
  simp only [placeRecord]
  repeat' split
  all_goals simp
@[simp] theorem vital_ckuStore (b : Blocks) : vital (ckuStore b) = vital b := by
  have hplace := vital_placeRecord .knife 0 b.cku.knife.encode b
  simp only [ckuStore]
  repeat' split
  all_goals simp_all [-vital_placeRecord]
@[simp] theorem vital_storeIfDue (b : Blocks) : vital (storeIfDue b) = vital b := by
  simp only [storeIfDue]
  repeat' split
  all_goals simp
@[simp] theorem vital_copyRecord (r : Rec) (dest : Option Nat) (b : Blocks) : vital (copyRecord r dest b).1 = vital b := by
  have hbegin := vital_beginSection b
  simp only [copyRecord]
  repeat' split
  all_goals grind [vital_programRecord]
@[simp] theorem vital_beginErase (b : Blocks) : vital (beginErase b) = vital b := by
  simp [beginErase]
@[simp] theorem vital_copyLive (l : List (Place × Rec)) (dest : Option Nat) (b : Blocks) :
    vital (copyLive l dest b).1 = vital b := by
  induction l generalizing dest b with
  | nil => rfl
  | cons p rest ih =>
    have hcopy := vital_copyRecord p.2 dest b
    unfold copyLive
    repeat' split
    all_goals simp_all [-vital_copyRecord]
@[simp] theorem vital_deferredStore (b : Blocks) : vital (deferredStore b) = vital b := by
  simp only [deferredStore]
  repeat' split
  all_goals simp
@[simp] theorem vital_spoilSection (i : Nat) (b : Blocks) : vital (spoilSection i b) = vital b := by
  simp [spoilSection]
@[simp] theorem vital_interruptErase (b : Blocks) : vital (interruptErase b) = vital b := by
  simp only [interruptErase]
  repeat' split
  all_goals simp
@[simp] theorem vital_endEraseAll (b : Blocks) : vital (endEraseAll b) = vital b := by
  simp only [endEraseAll]
  all_goals simp
@[simp] theorem vital_eraseFailed (w : LibWork) (b : Blocks) : vital (eraseFailed w b) = vital b := by
  simp only [eraseFailed]
  all_goals simp
@[simp] theorem vital_enterPhase (p : Phase) (w : WaitReason) (b : Blocks) : vital (enterPhase p w b) = vital b := by
  simp [enterPhase]
@[simp] theorem vital_waitFor (w : WaitReason) (b : Blocks) : vital (waitFor w b) = vital b := by
  simp [waitFor]
@[simp] theorem vital_baseTaken (b : Blocks) : vital (baseTaken b) = vital b := by
  simp only [baseTaken]
  repeat' split
  all_goals simp
@[simp] theorem vital_setBaseInForce (b : Blocks) : vital (setBaseInForce b) = vital b := by
  simp only [setBaseInForce, vital_baseTaken]
  refine vital_setSeq (fun q => ?_) (fun q => ?_) b <;> cases q.stack <;> simp
@[simp] theorem vital_toPermit (b : Blocks) : vital (toPermit b) = vital b := by
  simp [toPermit]
@[simp] theorem vital_pauseTaken (code : Nat) (b : Blocks) : vital (pauseTaken code b) = vital b := by
  simp [pauseTaken]
@[simp] theorem vital_seqFlapOpen (b : Blocks) : vital (seqFlapOpen b) = vital b := by
  simp only [seqFlapOpen]
  repeat' split
  all_goals simp
@[simp] theorem vital_seqStrokeBegun (b : Blocks) : vital (seqStrokeBegun b) = vital b := by
  simp only [seqStrokeBegun]
  repeat' split
  all_goals simp
@[simp] theorem vital_seqTdc (b : Blocks) : vital (seqTdc b) = vital b := by
  simp only [seqTdc]
  repeat' split
  all_goals simp
@[simp] theorem vital_seqBackToPermit (b : Blocks) : vital (seqBackToPermit b) = vital b := by
  simp only [seqBackToPermit]
  repeat' split
  all_goals simp
@[simp] theorem vital_seqQuarter (b : Blocks) : vital (seqQuarter b) = vital b := by
  simp only [seqQuarter]
  repeat' split
  all_goals simp
@[simp] theorem vital_seqAtPressure (b : Blocks) : vital (seqAtPressure b) = vital b := by
  simp only [seqAtPressure]
  repeat' split
  all_goals simp
@[simp] theorem vital_lftFault (code : LftFault) (b : Blocks) : vital (lftFault code b) = vital b := by
  simp [lftFault]
@[simp] theorem vital_liftRises (b : Blocks) : vital (liftRises b) = vital b := by
  simp only [liftRises]
  repeat' split
  all_goals simp
@[simp] theorem vital_liftSinks (b : Blocks) : vital (liftSinks b) = vital b := by
  simp only [liftSinks]
  repeat' split
  all_goals simp
@[simp] theorem vital_liftRaises (b : Blocks) : vital (liftRaises b) = vital b := by
  simp [liftRaises]
@[simp] theorem vital_liftLowers (b : Blocks) : vital (liftLowers b) = vital b := by
  simp [liftLowers]
@[simp] theorem vital_liftEmpty (b : Blocks) : vital (liftEmpty b) = vital b := by
  simp [liftEmpty]
@[simp] theorem vital_keepCount (n : Nat) (j : Judgement) (b : Blocks) : vital (keepCount n j b) = vital b := by
  simp [keepCount]
@[simp] theorem vital_sensorFault (b : Blocks) : vital (sensorFault b) = vital b := by
  simp only [sensorFault]
  repeat' split
  all_goals simp
@[simp] theorem vital_paperSeen (b : Blocks) : vital (paperSeen b) = vital b := by
  simp only [paperSeen]
  repeat' split
  all_goals simp
@[simp] theorem vital_noPaperSeen (n : Nat) (b : Blocks) : vital (noPaperSeen n b) = vital b := by
  simp only [noPaperSeen]
  repeat' split
  all_goals simp
@[simp] theorem vital_levelMeasured (count : Nat) (b : Blocks) : vital (levelMeasured count b) = vital b := by
  simp only [levelMeasured]
  repeat' split
  all_goals simp
@[simp] theorem vital_baselineMeasured (count : Nat) (b : Blocks) : vital (baselineMeasured count b) = vital b := by
  simp only [baselineMeasured]
  repeat' split
  all_goals simp
@[simp] theorem vital_topLimitCovers (b : Blocks) : vital (topLimitCovers b) = vital b := by
  simp only [topLimitCovers]
  repeat' split
  all_goals simp
@[simp] theorem vital_lowerLimitCovers (b : Blocks) : vital (lowerLimitCovers b) = vital b := by
  simp only [lowerLimitCovers]
  repeat' split
  all_goals simp
@[simp] theorem vital_partingBegins (b : Blocks) : vital (partingBegins b) = vital b := by
  simp [partingBegins]
@[simp] theorem vital_gearArrives (b : Blocks) : vital (gearArrives b) = vital b := by
  simp only [gearArrives]
  repeat' split
  all_goals simp
@[simp] theorem vital_partingEnds (b : Blocks) : vital (partingEnds b) = vital b := by
  simp only [partingEnds]
  repeat' split
  all_goals simp
@[simp] theorem vital_gearWithdrawn (b : Blocks) : vital (gearWithdrawn b) = vital b := by
  simp only [gearWithdrawn]
  repeat' split
  all_goals simp
@[simp] theorem vital_lftReset (b : Blocks) : vital (lftReset b) = vital b := by
  simp only [lftReset]
  repeat' split
  all_goals simp
@[simp] theorem vital_lftEstop (b : Blocks) : vital (lftEstop b) = vital b := by
  simp only [lftEstop]
  repeat' split
  all_goals simp
@[simp] theorem vital_lftChainReset (b : Blocks) : vital (lftChainReset b) = vital b := by
  simp only [lftChainReset]
  repeat' split
  all_goals simp
@[simp] theorem vital_lftStart (b : Blocks) : vital (lftStart b) = vital b := by
  simp only [lftStart]
  repeat' split
  all_goals simp
@[simp] theorem vital_chainResets (b : Blocks) : vital (chainResets b) = vital b := by
  simp [chainResets]
@[simp] theorem vital_referenceUncovered (b : Blocks) : vital (referenceUncovered b) = vital b := by
  simp only [referenceUncovered]
  repeat' split
  all_goals simp
@[simp] theorem vital_bandRestarts (b : Blocks) : vital (bandRestarts b) = vital b := by
  simp [bandRestarts]
@[simp] theorem vital_encoderOutOfBand (e : Int) (b : Blocks) : vital (encoderOutOfBand e b) = vital b := by
  simp only [encoderOutOfBand]
  repeat' split
  all_goals simp
@[simp] theorem vital_encoderTurns (e : Int) (b : Blocks) : vital (encoderTurns e b) = vital b := by
  simp only [encoderTurns]
  repeat' split
  all_goals simp
@[simp] theorem vital_flapOpens (b : Blocks) : vital (flapOpens b) = vital b := by
  simp only [flapOpens]
  repeat' split
  all_goals simp
@[simp] theorem vital_quarterBegins (b : Blocks) : vital (quarterBegins b) = vital b := by
  simp [quarterBegins]
@[simp] theorem vital_gripCloses (b : Blocks) : vital (gripCloses b) = vital b := by
  simp only [gripCloses]
  repeat' split
  all_goals simp
@[simp] theorem vital_gearHomes (b : Blocks) : vital (gearHomes b) = vital b := by
  simp only [gearHomes]
  repeat' split
  all_goals simp
@[simp] theorem vital_gearLevel (b : Blocks) : vital (gearLevel b) = vital b := by
  simp only [gearLevel]
  repeat' split
  all_goals simp
@[simp] theorem vital_stopUncovers (edge : StopEdge) (b : Blocks) : vital (stopUncovers edge b) = vital b := by
  simp only [stopUncovers]
  repeat' split
  all_goals simp
end Sys2Proof.Machine
end

section
/-! SUPPORT. What every operation of the units keeps of the laws of Safety.lean: the valve law, the valve gap, the bounds of the
stack, the flash, the link and the counters; and that it opens neither knife valve. One lemma per operation that touches what
these laws speak of. -/

set_option Elab.async false

namespace Sys2Proof.Machine

open Sys2Proof

/-! ## The laws over the figures -/

/-- The valve law of R107 and R114. -/
def Valves.Safe (v : Valves) : Prop := ¬ (v.down = true ∧ v.ret = true) ∧ ¬ (v.lowering = true ∧ v.raising = true)

/-- The law of the valve gap over the figures. -/
def Vital.GapKept (v : Vital) : Prop :=
  (v.knife = .gap → ∃ d, v.deadline = some d ∧ v.gapOver ≤ d)
    ∧ (v.phase = .waitLibrary → v.seq = .idle ∧ v.cycle = false ∧ v.knife ≠ .gap ∧ v.knife ≠ .stroking)

/-- The counters of the link stop at their top (R194). -/
def LinkCounters.Bounded (c : LinkCounters) : Prop :=
  (c.dropped ≤ Config.counterTop ∧ c.length ≤ Config.counterTop ∧ c.gap ≤ Config.counterTop ∧ c.check ≤ Config.counterTop
      ∧ c.kind ≤ Config.counterTop ∧ c.overrun ≤ Config.counterTop)
    ∧ (c.requests ≤ Config.counterTop ∧ c.replies ≤ Config.counterTop ∧ c.notices ≤ Config.counterTop)

/-- The link's queues, its notice number and its counters are within their bounds (R189, R193, R194). -/
def Lnk.Bounded (l : Lnk) : Prop :=
  (l.queue.length ≤ Config.maxQueue ∧ l.refusals.length ≤ Config.maxQueue ∧ l.noticeNumber < 256) ∧ l.counters.Bounded

/-- TRK's counters stop at their top (R68). -/
def Vital.CountsLow (v : Vital) : Prop :=
  v.made ≤ Config.counterTop ∧ v.delivered ≤ Config.counterTop ∧ v.trims ≤ Config.counterTop

theorem valveLaw_iff (b : Blocks) : ValveLaw b ↔ (vital b).valves.Safe := Iff.rfl

theorem gapLaw_iff (b : Blocks) : GapLaw b ↔ (vital b).GapKept := by
  simp only [GapLaw, Vital.GapKept, vital, Option.isSome_eq_false_iff, Option.isNone_iff_eq_none]

theorem stackBound_iff (b : Blocks) : StackBound b ↔ (vital b).depth ≤ Config.maxFrames := Iff.rfl

theorem flashShape_iff (b : Blocks) : FlashShape b ↔ (vital b).sections = Config.sections := Iff.rfl

theorem linkAndCounterBounds_iff (b : Blocks) :
    LinkBounds b ∧ CounterBounds b ↔ (vital b).lnk.Bounded ∧ (vital b).CountsLow := by
  simp only [LinkBounds, CounterBounds, Lnk.Bounded, LinkCounters.Bounded, Vital.CountsLow, vital, linkCore]
  tauto

/-- The laws that hold at `a` hold at `v`, with the flash as long as it was. -/
structure Lawful (a v : Vital) : Prop where
  safe : a.valves.Safe → v.valves.Safe
  gap : a.GapKept → v.GapKept
  stack : a.depth ≤ Config.maxFrames → v.depth ≤ Config.maxFrames
  flash : v.sections = a.sections
  link : a.lnk.Bounded → v.lnk.Bounded
  counts : a.CountsLow → v.CountsLow

/-- The laws are kept, and neither the down valve nor the return valve has opened. -/
structure Kept (a v : Vital) : Prop extends Lawful a v where
  down : v.valves.down = true → a.valves.down = true
  ret : v.valves.ret = true → a.valves.ret = true

@[simp] theorem Kept.refl (a : Vital) : Kept a a := ⟨⟨id, id, id, rfl, id, id⟩, id, id⟩

theorem Kept.trans {a v w : Vital} (h : Kept a v) (k : Kept v w) : Kept a w :=
  ⟨⟨k.safe ∘ h.safe, k.gap ∘ h.gap, k.stack ∘ h.stack, k.flash.trans h.flash, k.link ∘ h.link, k.counts ∘ h.counts⟩,
    h.down ∘ k.down, h.ret ∘ k.ret⟩

/-- An operation that leaves every figure keeps the laws. -/
theorem Kept.of_eq {a v : Vital} (h : v = a) : Kept a v := h ▸ Kept.refl a

/-! ## The updates that touch the figures -/

/-- The knife's valves open no further than they were: each valve of the knife that is open now was open, and the law holds. -/
structure Valves.Eases (v w : Valves) : Prop where
  down : w.down = true → v.down = true
  ret : w.ret = true → v.ret = true
  safe : v.Safe → w.Safe

theorem Valves.Eases.refl (v : Valves) : v.Eases v := ⟨id, id, id⟩

/-- Valves with both knife valves closed and the lowering or the raising valve closed. -/
theorem Valves.eases_of_shut (v : Valves) {w : Valves} (hdown : w.down = false) (hret : w.ret = false)
    (hclamp : w.lowering = false ∨ w.raising = false) : v.Eases w := by
  refine ⟨by simp [hdown], by simp [hret], fun _ => ⟨by simp [hdown], ?_⟩⟩
  rcases hclamp with h | h <;> simp [h]

theorem Valves.safe_closed : Valves.closed.Safe := by simp [Valves.Safe, Valves.closed]

theorem Valves.eases_closed (v : Valves) : v.Eases Valves.closed := v.eases_of_shut rfl rfl (.inl rfl)

theorem Valves.eases_lowering (v : Valves) : v.Eases { Valves.closed with lowering := true } :=
  v.eases_of_shut rfl rfl (.inr rfl)

theorem Valves.eases_raising (v : Valves) : v.Eases { Valves.closed with raising := true } :=
  v.eases_of_shut rfl rfl (.inl rfl)

/-- CKU goes to a state in which neither a gap nor a stroke runs. -/
theorem kept_setCku_calm {f : Cku → Cku} {b : Blocks} (hvalves : b.cku.valves.Eases (f b.cku).valves)
    (hgap : (f b.cku).state ≠ .gap) (hstroke : (f b.cku).state ≠ .stroking)
    (hcycle : (f b.cku).cycle.isSome = true → b.cku.cycle.isSome = true) : Kept (vital b) (vital (setCku f b)) := by
  refine ⟨⟨hvalves.safe, fun h => ⟨fun h' => absurd h' hgap, fun hp => ?_⟩, id, rfl, id, id⟩, hvalves.down, hvalves.ret⟩
  obtain ⟨hidle, hnone, -, -⟩ := h.2 hp
  exact ⟨hidle, Bool.eq_false_iff.mpr fun h' => Bool.eq_false_iff.mp hnone (hcycle h'), hgap, hstroke⟩

/-- The valve gap begins: it runs at least to its end, and no stroke ends while the library is scanned. -/
theorem kept_setCku_gap {f : Cku → Cku} {b : Blocks} {d : Ms} (hphase : b.msu.phase = .waitLibrary → b.cku.state = .stroking)
    (hvalves : b.cku.valves.Eases (f b.cku).valves) (hdeadline : (f b.cku).deadline = some d)
    (hover : gapEnd (f b.cku).downClosedAt (setCku f b) ≤ d) : Kept (vital b) (vital (setCku f b)) := by
  refine ⟨⟨hvalves.safe, fun h => ⟨fun _ => ⟨d, hdeadline, hover⟩, fun hp => ?_⟩, id, rfl, id, id⟩, hvalves.down, hvalves.ret⟩
  exact absurd (hphase hp) (h.2 hp).2.2.2

/-- A figure of CKU changes outside start-up, with no gap to run and no valve touched. -/
theorem kept_setCku_awake {f : Cku → Cku} {b : Blocks} (hawake : b.seq.state ≠ .idle ∨ b.msu.phase ≠ .waitLibrary)
    (hvalves : b.cku.valves.Eases (f b.cku).valves)
    (hgap : (f b.cku).state = .gap → b.cku.state = .gap ∧ (f b.cku).deadline = b.cku.deadline
      ∧ (f b.cku).downClosedAt = b.cku.downClosedAt ∧ (f b.cku).knife.G = b.cku.knife.G) :
    Kept (vital b) (vital (setCku f b)) := by
  refine ⟨⟨hvalves.safe, fun h => ⟨fun hg => ?_, fun hp => ?_⟩, id, rfl, id, id⟩, hvalves.down, hvalves.ret⟩
  · obtain ⟨hs, hd, hc, hG⟩ := hgap hg
    obtain ⟨d, hdd, hover⟩ := h.1 hs
    refine ⟨d, hd.trans hdd, ?_⟩
    simpa [vital, gapEnd, hc, hG] using hover
  · exact hawake.elim (fun hne => absurd (h.2 hp).1 hne) (fun hne => absurd hp hne)

/-- SEQ changes outside start-up, or stays in IDLE, with its stack within its bound. -/
theorem kept_setSeq {f : Seq → Seq} {b : Blocks}
    (hawake : b.seq.state ≠ .idle ∨ b.msu.phase ≠ .waitLibrary ∨ (f b.seq).state = .idle)
    (hstack : b.seq.stack.length ≤ Config.maxFrames → (f b.seq).stack.length ≤ Config.maxFrames) :
    Kept (vital b) (vital (setSeq f b)) := by
  refine ⟨⟨id, fun h => ⟨h.1, fun hp => ?_⟩, hstack, rfl, id, id⟩, id, id⟩
  obtain ⟨hidle, hrest⟩ := h.2 hp
  refine ⟨?_, hrest⟩
  rcases hawake with hne | hne | hstay
  · exact absurd hidle hne
  · exact absurd hp hne
  · exact hstay

/-- TRK's counters change within their bounds. -/
theorem kept_setTrk {f : Trk → Trk} {b : Blocks} (h : (vital b).CountsLow → (vital (setTrk f b)).CountsLow) :
    Kept (vital b) (vital (setTrk f b)) := ⟨⟨id, id, id, rfl, id, h⟩, id, id⟩

/-- The link changes within its bounds. -/
theorem kept_setLnk {f : Lnk → Lnk} {b : Blocks} (h : b.lnk.Bounded → (f b.lnk).Bounded) :
    Kept (vital b) (vital (setLnk f b)) := ⟨⟨id, id, id, rfl, h, id⟩, id, id⟩

/-- The phase of start-up changes to one in which the library is no longer scanned. -/
theorem kept_setMsu {f : Msu → Msu} {b : Blocks} (h : (f b.msu).phase ≠ .waitLibrary) :
    Kept (vital b) (vital (setMsu f b)) :=
  ⟨⟨id, fun hg => ⟨hg.1, fun hp => absurd hp h⟩, id, rfl, id, id⟩, id, id⟩

section Operations

variable {a : Vital} {b : Blocks}

/-! ## TRK -/

@[simp] theorem kept_joinPiece (p : Piece) (h : Kept a (vital b)) : Kept a (vital (joinPiece p b)) := by
  simp only [joinPiece, vital_raise]
  exact h.trans (kept_setTrk fun hc => ⟨addUpTo_le _ _ _, hc.2⟩)

@[simp] theorem kept_cutBdcUpdate (waste : Bool) (h : Kept a (vital b)) : Kept a (vital (cutBdcUpdate waste b)) := by
  simp only [cutBdcUpdate]
  repeat' split
  · exact Kept.trans (by simpa using h) (kept_setTrk fun hc => ⟨hc.1, hc.2.1, addUpTo_le _ _ _⟩)
  · simp [h]
  · exact h

@[simp] theorem kept_manualBdcUpdate (term : Int) (h : Kept a (vital b)) : Kept a (vital (manualBdcUpdate term b)) := by
  simp only [manualBdcUpdate]
  repeat' split
  all_goals simp [h]

@[simp] theorem kept_ejectPiece (h : Kept a (vital b)) : Kept a (vital (ejectPiece b)) := by
  simp only [ejectPiece]
  split <;> simp [h]

@[simp] theorem kept_deliverQueue (h : Kept a (vital b)) : Kept a (vital (deliverQueue b)) := by
  simp only [deliverQueue, vital_raise]
  exact h.trans (kept_setTrk fun hc => ⟨hc.1, addUpTo_le _ _ _, hc.2.2⟩)

@[simp] theorem kept_trkStart (h : Kept a (vital b)) : Kept a (vital (trkStart b)) :=
  h.trans (kept_setTrk fun _ => ⟨Nat.zero_le _, Nat.zero_le _, Nat.zero_le _⟩)

/-! ## CKU -/

@[simp] theorem kept_beginClamping (h : Kept a (vital b)) : Kept a (vital (beginClamping b)) := by
  simp only [beginClamping, vital_jogWatch, vital_gaxInterlock, vital_setInputs]
  exact h.trans (kept_setCku_calm (Valves.eases_lowering _) (by simp) (by simp) id)

@[simp] theorem kept_ckuOpened (h : Kept a (vital b)) : Kept a (vital (ckuOpened b)) := by
  have hopen : Kept a (vital (setCku (fun c =>
      { c with state := .open_, cycle := none, knifeReturn := false, resetReleased := c.resetting, valves := Valves.closed,
               deadline := none }) b)) :=
    h.trans (kept_setCku_calm (Valves.eases_closed _) (by simp) (by simp) (by simp))
  simp only [ckuOpened, vital_ckuResetEnds]
  repeat' split
  all_goals simpa using hopen

@[simp] theorem kept_ckuRelease (h : Kept a (vital b)) : Kept a (vital (ckuRelease b)) := by
  simp only [ckuRelease]
  split
  · exact kept_ckuOpened h
  · exact h.trans (kept_setCku_calm (Valves.eases_raising _) (by simp) (by simp) id)

/-- The gap that a closing of the down valve begins in STROKING. -/
theorem kept_beginGap (hstate : b.cku.state = .stroking) (h : Kept a (vital b)) : Kept a (vital (beginGap b)) :=
  h.trans (kept_setCku_gap (fun _ => hstate) (Valves.eases_lowering _) rfl le_rfl)

theorem kept_reverse (cause : ReversalCause) (hstate : b.cku.state = .stroking) (h : Kept a (vital b)) :
    Kept a (vital (reverse cause b)) := by
  simp only [reverse, vital_markPartialCut, vital_recordReversal]
  exact kept_beginGap hstate h

@[simp] theorem kept_knifeReturnStops (h : Kept a (vital b)) : Kept a (vital (knifeReturnStops b)) := by
  simp only [knifeReturnStops, vital_manualEnds]
  exact h.trans (kept_setCku_calm (Valves.eases_closed _) (by simp) (by simp) id)

@[simp] theorem kept_discardCycle (h : Kept a (vital b)) :
    Kept a (vital (setCku (fun c => { c with cycle := none }) b)) := by
  refine h.trans ⟨⟨id, fun hg => ⟨hg.1, fun hp => ?_⟩, id, rfl, id, id⟩, id, id⟩
  obtain ⟨hidle, -, hgap, hstroke⟩ := hg.2 hp
  exact ⟨hidle, rfl, hgap, hstroke⟩

@[simp] theorem kept_ckuRest (h : Kept a (vital b)) : Kept a (vital (ckuRest b)) := by
  simp only [ckuRest]
  split
  case h_4 hstroking => exact kept_reverse _ hstroking (by simpa using h)
  all_goals repeat' split
  all_goals simp [h]

@[simp] theorem kept_ckuModeRest (h : Kept a (vital b)) : Kept a (vital (ckuModeRest b)) := by
  simp only [ckuModeRest]
  split <;> simp [h]

/-- The chain's opening closes every valve and leaves CKU at rest. -/
theorem kept_ckuValvesShut {next : CycleState} (hgap : next ≠ .gap) (hstroke : next ≠ .stroking) (h : Kept a (vital b)) :
    Kept a (vital (ckuValvesShut next b)) :=
  h.trans (kept_setCku_calm (Valves.eases_closed _) hgap hstroke (by simp))

@[simp] theorem kept_ckuWorkEnds (c : Blocks) (h : Kept a (vital b)) : Kept a (vital (ckuWorkEnds c b)) := by
  simp only [ckuWorkEnds]
  split <;> simp [h]

@[simp] theorem kept_ckuEstop (h : Kept a (vital b)) : Kept a (vital (ckuEstop b)) := by
  simp only [ckuEstop]
  split <;> simp [h, kept_ckuValvesShut]

@[simp] theorem kept_ckuEnterFault (code : CkuFault) (h : Kept a (vital b)) : Kept a (vital (ckuEnterFault code b)) := by
  simp only [ckuEnterFault, vital_raise]
  split
  · exact h
  · exact h.trans (kept_setCku_calm (Valves.eases_closed _) (by simp) (by simp) (by simp))

@[simp] theorem kept_ckuReset (h : Kept a (vital b)) : Kept a (vital (ckuReset b)) := by
  simp only [ckuReset]
  repeat' split
  case h_1.isFalse =>
    simp only [vital_raise]
    exact h.trans (kept_setCku_calm (Valves.Eases.refl _) (by simp) (by simp) id)
  all_goals simp [h]

@[simp] theorem kept_ckuStart (h : Kept a (vital b)) : Kept a (vital (ckuStart b)) := by
  refine h.trans (kept_setCku_calm (Valves.eases_closed _) ?_ ?_ (by simp [Cku.atReset])) <;> dsimp only <;> split <;> simp

/-! ## Holds -/

/-- A cause is recorded where SEQ runs. -/
theorem kept_enterHeld (cause : HoldCause) (hstate : b.seq.state = .running) (h : Kept a (vital b)) :
    Kept a (vital (enterHeld cause b)) := by
  simp only [enterHeld, vital_raise]
  exact h.trans (kept_setSeq (.inl (by simp [hstate])) id)

@[simp] theorem kept_ckuToRest (h : Kept a (vital b)) : Kept a (vital (ckuToRest b)) := by
  simp only [ckuToRest]
  split <;> simp [h]

@[simp] theorem kept_unitsToRest (h : Kept a (vital b)) : Kept a (vital (unitsToRest b)) := by
  simp [unitsToRest, h]

@[simp] theorem kept_holdCause (cause : HoldCause) (h : Kept a (vital b)) : Kept a (vital (holdCause cause b)) := by
  simp only [holdCause]
  split
  case h_1 hrun => exact kept_unitsToRest (kept_enterHeld cause hrun h)
  all_goals simp [h]

@[simp] theorem kept_holdEstop (h : Kept a (vital b)) : Kept a (vital (holdEstop b)) := by
  simp only [holdEstop]
  split
  case h_1 hrun => exact kept_enterHeld _ hrun h
  all_goals simp [h]

@[simp] theorem kept_gaxFaults (code : GaxFault) (h : Kept a (vital b)) : Kept a (vital (gaxFaults code b)) := by
  simp only [gaxFaults]
  split <;> simp [h]

@[simp] theorem kept_ckuFaults (code : CkuFault) (h : Kept a (vital b)) : Kept a (vital (ckuFaults code b)) := by
  simp only [ckuFaults]
  split <;> simp [h]

@[simp] theorem kept_trnFaults (code : TrnFault) (h : Kept a (vital b)) : Kept a (vital (trnFaults code b)) := by
  simp only [trnFaults]
  split <;> simp [h]

theorem kept_ckuReverses (cause : ReversalCause) (hstate : b.cku.state = .stroking) (h : Kept a (vital b)) :
    Kept a (vital (ckuReverses cause b)) := by
  have hreversed := kept_reverse cause hstate h
  simp only [ckuReverses]
  repeat' split
  all_goals simp [hreversed]

/-! ## LIB -/

/-- The knife record is loaded where the library's scan has ended, and no gap runs then. -/
@[simp] theorem kept_libReady (h : Kept a (vital b)) : Kept a (vital (libReady b)) := by
  simp only [libReady]
  split
  case isFalse => exact h
  case isTrue hphase =>
    refine h.trans ⟨⟨id, fun hg => ⟨fun hgap => absurd hgap (hg.2 hphase).2.2.1, fun hp => by simp [vital, ckuLoad, judgeWear] at hp⟩,
      id, rfl, id, id⟩, id, id⟩

@[simp] theorem kept_takeSource (src : Nat) (rest : List Nat) (dest : Option Nat) (done total : Nat) (h : Kept a (vital b)) :
    Kept a (vital (takeSource src rest dest done total b)) := by
  have hcopied := vital_copyLive (sectionRecords src 0 (slotsAt b.lib.flash src)) dest b
  simp only [takeSource]
  generalize copyLive (sectionRecords src 0 (slotsAt b.lib.flash src)) dest b = p at hcopied ⊢
  split <;> simp [hcopied, h]

@[simp] theorem kept_endCompaction (h : Kept a (vital b)) : Kept a (vital (endCompaction b)) := by
  simp [endCompaction, h]

@[simp] theorem kept_beginCompaction (h : Kept a (vital b)) : Kept a (vital (beginCompaction b)) := by
  simp only [beginCompaction]
  split <;> simp [h]

@[simp] theorem kept_afterSpent (powerOn : Bool) (h : Kept a (vital b)) : Kept a (vital (afterSpent powerOn b)) := by
  simp only [afterSpent]
  split <;> simp [h]

@[simp] theorem kept_eraseSpent (powerOn : Bool) (h : Kept a (vital b)) : Kept a (vital (eraseSpent powerOn b)) := by
  simp only [eraseSpent]
  split <;> simp [h]

@[simp] theorem kept_libStart (powerOn : Bool) (h : Kept a (vital b)) : Kept a (vital (libStart powerOn b)) := by
  simp only [libStart]
  split <;> simp [h]

@[simp] theorem kept_sectionErased (w : LibWork) (h : Kept a (vital b)) : Kept a (vital (sectionErased w b)) := by
  simp only [sectionErased]
  repeat' split
  all_goals simp [h]

@[simp] theorem kept_eraseDone (w : LibWork) (h : Kept a (vital b)) : Kept a (vital (eraseDone w b)) := by
  simp only [eraseDone]
  split <;> simp [h]

/-! ## SEQ -/

@[simp] theorem seq_state_enterPhase (p : Phase) (w : WaitReason) (b : Blocks) :
    (enterPhase p w b).seq.state = b.seq.state := rfl

@[simp] theorem seq_state_advanceBy (k : Nat) (b : Blocks) : (advanceBy k b).seq.state = b.seq.state := rfl

@[simp] theorem seq_baseTaken (b : Blocks) : (baseTaken b).seq = b.seq := by
  simp only [baseTaken]
  split <;> rfl

@[simp] theorem kept_askMove (kind : MoveKind) (p : Um) (h : Kept a (vital b)) : Kept a (vital (askMove kind p b)) := by
  simp only [askMove]
  repeat' split
  all_goals simp [h]

@[simp] theorem kept_makeCycle (asker : CutAsker) (target : Nat) (waste armed : Bool)
    (hawake : b.seq.state ≠ .idle ∨ b.msu.phase ≠ .waitLibrary) (h : Kept a (vital b)) :
    Kept a (vital (makeCycle asker target waste armed b)) := by
  have hmade := h.trans (kept_setCku_awake (f := fun c =>
    { c with cycle := some { asker := asker, target := target, waste := waste, armed := armed, restAsked := false,
                             lastReversal := none, knifeTerm := none, bdcTaken := false } }) hawake
    (Valves.Eases.refl _) fun hg => ⟨hg, rfl, rfl, rfl⟩)
  simp only [makeCycle]
  split
  · exact hmade
  · simpa using hmade

@[simp] theorem kept_askClamp (target : Nat) (waste : Bool) (hawake : b.seq.state ≠ .idle) (h : Kept a (vital b)) :
    Kept a (vital (askClamp target waste b)) := by
  simp only [askClamp]
  split <;> simp [h, hawake]

@[simp] theorem kept_askTurn (quarters : Nat) (h : Kept a (vital b)) : Kept a (vital (askTurn quarters b)) := by
  simp only [askTurn]
  repeat' split
  all_goals simp [h]

@[simp] theorem kept_computeCut (mode : CutMode) (waste : Bool) (dim : Um) (h : Kept a (vital b)) :
    Kept a (vital (computeCut mode waste dim b)) := by
  simp only [computeCut]
  repeat' split
  all_goals simp [h]

@[simp] theorem kept_turnPhase (h : Kept a (vital b)) : Kept a (vital (turnPhase b)) := by
  simp [turnPhase, h]

@[simp] theorem kept_turnTaken (quarters : Nat) (h : Kept a (vital b)) : Kept a (vital (turnTaken quarters b)) := by
  simp only [turnTaken]
  repeat' split
  all_goals simp [h]

@[simp] theorem kept_ejectTaken (h : Kept a (vital b)) : Kept a (vital (ejectTaken b)) := by
  simp only [ejectTaken]
  repeat' split
  all_goals simp [h]

@[simp] theorem kept_ejectLoad (h : Kept a (vital b)) : Kept a (vital (ejectLoad b)) := by
  simp only [ejectLoad]
  split <;> simp [h]

@[simp] theorem kept_waitPortion (h : Kept a (vital b)) : Kept a (vital (waitPortion b)) := by
  simp only [waitPortion]
  split <;> simp [h]

@[simp] theorem kept_endTaken (hawake : b.seq.state ≠ .idle) (h : Kept a (vital b)) : Kept a (vital (endTaken b)) := by
  simp only [endTaken]
  repeat' split
  case isFalse.isTrue =>
    simp only [vital_raise]
    exact Kept.trans (by simpa using h) (kept_setSeq (.inl hawake) id)
  all_goals simp [h]

/-- A CALL finds room for its frame (R12). -/
theorem kept_pushFrame (sub count : Nat) (own : Option Nat) (hroom : b.seq.stack.length < Config.maxFrames)
    (h : Kept a (vital b)) : Kept a (vital (pushFrame sub count own b)) := by
  simp only [pushFrame, vital_baseTaken]
  refine h.trans ⟨⟨id, id, fun _ => Nat.succ_le_of_lt hroom, rfl, id, id⟩, id, id⟩

theorem kept_returnFrame {f : Frame} {rest : List Frame} (hstack : b.seq.stack = f :: rest) (h : Kept a (vital b)) :
    Kept a (vital (returnFrame f rest b)) := by
  have hlength : b.seq.stack.length = rest.length + 1 := by rw [hstack]; rfl
  simp only [returnFrame]
  split
  · simp only [vital_baseTaken]
    exact h.trans ⟨⟨id, id, fun hs => hlength.symm.trans_le hs, rfl, id, id⟩, id, id⟩
  · exact h.trans ⟨⟨id, id, fun hs => Nat.le_of_succ_le (hlength.symm.trans_le hs), rfl, id, id⟩, id, id⟩

/-- A step that takes no time keeps the laws, and SEQ stays in its state. -/
theorem kept_instantStep {s : ProgStep} {c : Blocks} (hstep : instantStep s b = some c) (h : Kept a (vital b)) :
    Kept a (vital c) ∧ c.seq.state = b.seq.state := by
  cases s with
  | call sub count own =>
    simp only [instantStep, Option.ite_none_right_eq_some, Option.some.injEq] at hstep
    obtain ⟨hroom, rfl⟩ := hstep
    exact ⟨kept_pushFrame sub count own hroom h, by simp [pushFrame]⟩
  | ret =>
    simp only [instantStep] at hstep
    split at hstep
    case h_1 f rest hstack =>
      obtain rfl := Option.some.inj hstep
      refine ⟨kept_returnFrame hstack h, ?_⟩
      simp only [returnFrame]
      split <;> simp
    case h_2 => exact nomatch hstep
  | skipIf c operand =>
    obtain rfl := Option.some.inj hstep
    exact ⟨by simpa using h, rfl⟩
  | cut => exact nomatch hstep
  | turn => exact nomatch hstep
  | eject => exact nomatch hstep
  | pause => exact nomatch hstep
  | endStep => exact nomatch hstep

@[simp] theorem kept_endingStep (s : ProgStep) (hawake : b.seq.state ≠ .idle) (h : Kept a (vital b)) :
    Kept a (vital (endingStep s b)) := by
  cases s <;> simp [endingStep, h, hawake]

theorem kept_takeSteps (n : Nat) (hawake : b.seq.state ≠ .idle) (h : Kept a (vital b)) : Kept a (vital (takeSteps n b)) := by
  induction n generalizing b with
  | zero => exact h
  | succ n ih =>
    simp only [takeSteps]
    split
    · exact h
    · split
      case h_1 hstep =>
        obtain ⟨hkept, hstate⟩ := kept_instantStep hstep h
        exact ih (hstate ▸ hawake) hkept
      case h_2 => exact kept_endingStep _ hawake h

@[simp] theorem kept_takeStep (hawake : b.seq.state ≠ .idle) (h : Kept a (vital b)) : Kept a (vital (takeStep b)) :=
  kept_takeSteps _ (by simpa using hawake) (by simpa using h)

@[simp] theorem kept_nextStep (hawake : b.seq.state ≠ .idle) (h : Kept a (vital b)) : Kept a (vital (nextStep b)) :=
  kept_takeStep (by simpa using hawake) (by simpa using h)

@[simp] theorem kept_recompute (h : Kept a (vital b)) : Kept a (vital (recompute b)) := by
  simp only [recompute]
  split <;> simp [h]

@[simp] theorem kept_goOn (hawake : b.seq.state ≠ .idle) (h : Kept a (vital b)) : Kept a (vital (goOn b)) := by
  simp only [goOn]
  split <;> simp [h, hawake]

@[simp] theorem kept_seqInPosition (kind : MoveKind) (h : Kept a (vital b)) : Kept a (vital (seqInPosition kind b)) := by
  simp only [seqInPosition]
  repeat' split
  all_goals simp [*]

@[simp] theorem kept_seqBdc (h : Kept a (vital b)) : Kept a (vital (seqBdc b)) := by
  simp only [seqBdc]
  repeat' split
  all_goals simp [h]

@[simp] theorem kept_seqReleased (h : Kept a (vital b)) : Kept a (vital (seqReleased b)) := by
  simp only [seqReleased]
  repeat' split
  all_goals simp [*]

@[simp] theorem kept_seqFlapClosed (h : Kept a (vital b)) : Kept a (vital (seqFlapClosed b)) := by
  simp only [seqFlapClosed]
  split <;> simp [*]

@[simp] theorem kept_portionArrival (h : Kept a (vital b)) : Kept a (vital (portionArrival b)) := by
  simp only [portionArrival]
  split <;> simp [*]

@[simp] theorem kept_clearTold (h : Kept a (vital b)) : Kept a (vital (clearTold b)) := by
  simp only [clearTold]
  repeat' split
  all_goals simp [h]

@[simp] theorem kept_takeClear (h : Kept a (vital b)) : Kept a (vital (takeClear b)) := by
  simp [takeClear, h]

@[simp] theorem kept_resumeStep (hawake : b.seq.state ≠ .idle) (h : Kept a (vital b)) : Kept a (vital (resumeStep b)) := by
  simp only [resumeStep]
  repeat' split
  case h_2 => exact kept_goOn hawake h
  all_goals simp [h, hawake]

@[simp] theorem kept_reportOpened (c : Blocks) (h : Kept a (vital b)) : Kept a (vital (reportOpened c b)) := by
  simp only [reportOpened]
  split <;> simp [h]

@[simp] theorem kept_transferArrives (f : TransferFigures) (h : Kept a (vital b)) :
    Kept a (vital (transferArrives f b)) := by
  simp [transferArrives, h]

/-! ## Start-up, the chain, a unit's reset -/

/-- Start-up begins: LIB scans, with SEQ in IDLE, no cycle and CKU at rest (R18, R108, R175). -/
@[simp] theorem kept_startBlocks (cause : StartupCause) (h : Kept a (vital b)) : Kept a (vital (startBlocks cause b)) := by
  simp only [startBlocks]
  refine kept_libStart _ ?_
  simp only [vital_jogStart, vital_lftStart, vital_trnStart]
  have hcalm (tdc : Bool) : (if tdc then CycleState.open_ else .knifeReturnNeeded) ≠ .gap
      ∧ (if tdc then CycleState.open_ else .knifeReturnNeeded) ≠ .stroking := by cases tdc <;> simp
  exact h.trans ⟨⟨fun _ => Valves.safe_closed,
    fun _ => ⟨fun hg => absurd hg (hcalm b.inputs.tdc).1, fun _ => ⟨rfl, rfl, hcalm b.inputs.tdc⟩⟩,
    fun _ => Nat.zero_le _, rfl, id, fun _ => ⟨Nat.zero_le _, Nat.zero_le _, Nat.zero_le _⟩⟩, nofun, nofun⟩

@[simp] theorem kept_startupEnds (h : Kept a (vital b)) : Kept a (vital (startupEnds b)) := by
  have hended : Kept a (vital (setMsu (fun m => { m with phase := .ended }) b)) := h.trans (kept_setMsu (by simp))
  simpa [startupEnds] using hended

@[simp] theorem kept_chainOpens (h : Kept a (vital b)) : Kept a (vital (chainOpens b)) := by
  have hheld : Kept a (vital (jogEstop (holdEstop (raise .cell (setMsu (fun m => { m with estop := .stopped }) b))))) := by
    simp [h]
  simp only [chainOpens]
  generalize jogEstop (holdEstop (raise .cell (setMsu (fun m => { m with estop := .stopped }) b))) = c at hheld ⊢
  split <;> simp [hheld]

@[simp] theorem kept_resetPart (u : UnitName) (h : Kept a (vital b)) : Kept a (vital (resetPart u b)) := by
  cases u <;> simp [resetPart, h]

@[simp] theorem kept_resetTaken (u : UnitName) (h : Kept a (vital b)) : Kept a (vital (resetTaken u b)) := by
  simp [resetTaken, h]

/-! ## The requests, once start-up has ended -/

@[simp] theorem kept_leaveSetup (h : Kept a (vital b)) : Kept a (vital (leaveSetup b)) := by
  have hrest : Kept a (vital (ckuModeRest (gaxModeRest b))) := by simp [h]
  simp [leaveSetup, hrest]

@[simp] theorem kept_modeSetRequest (m : Nat) (h : Kept a (vital b)) : Kept a (vital (modeSetRequest m b)) := by
  simp only [modeSetRequest, modeTaken]
  repeat' split
  all_goals simp [h]

@[simp] theorem kept_estopResetRequest (h : Kept a (vital b)) : Kept a (vital (estopResetRequest b)) := by
  simp only [estopResetRequest]
  split <;> simp [h]

@[simp] theorem kept_orderlyStop (h : Kept a (vital b)) : Kept a (vital (orderlyStop b)) := by
  simp only [orderlyStop]
  split <;> simp [h]

theorem bounded_atReset : Lnk.atReset.Bounded := by
  simp [Lnk.Bounded, LinkCounters.Bounded, Lnk.atReset, LinkCounters.zero]

@[simp] theorem kept_restartByLink (h : Kept a (vital b)) : Kept a (vital (restartByLink b)) := by
  simp only [restartByLink]
  split
  · simp [h]
  · simp only [vital_answer]
    exact kept_startBlocks _ (Kept.trans (kept_orderlyStop h) (kept_setLnk id))

@[simp] theorem kept_restartRequest (h : Kept a (vital b)) : Kept a (vital (restartRequest b)) := by
  simp only [restartRequest]
  split
  · simp [h]
  · simp only [vital_answer]
    exact kept_startBlocks _ (Kept.trans (kept_orderlyStop h) (kept_setLnk fun _ => bounded_atReset))

@[simp] theorem kept_unitResetRequest (n : Nat) (h : Kept a (vital b)) : Kept a (vital (unitResetRequest n b)) := by
  simp only [unitResetRequest]
  repeat' split
  all_goals simp [h]

@[simp] theorem kept_jobLoaded (job lot stock : Nat) (snap : Snapshot) (hphase : b.msu.phase = .ended) (h : Kept a (vital b)) :
    Kept a (vital (jobLoaded job lot stock snap b)) := by
  simp only [jobLoaded, vital_raise]
  refine Kept.trans (h.trans ?_) (kept_setTrk fun _ => ⟨Nat.zero_le _, Nat.zero_le _, Nat.zero_le _⟩)
  exact kept_setSeq (.inr (.inl (by simp [hphase]))) fun _ => Nat.zero_le _

@[simp] theorem kept_jobLoadRequest (job lot stock : Nat) (hphase : b.msu.phase = .ended) (h : Kept a (vital b)) :
    Kept a (vital (jobLoadRequest job lot stock b)) := by
  simp only [jobLoadRequest]
  repeat' split
  all_goals simp [h, hphase]

@[simp] theorem kept_jobStartRequest (hphase : b.msu.phase = .ended) (h : Kept a (vital b)) :
    Kept a (vital (jobStartRequest b)) := by
  simp only [jobStartRequest]
  repeat' split
  case isFalse.isFalse.isFalse =>
    simp only [vital_answer, jobStarted]
    refine kept_waitPortion ?_
    simp only [vital_setJog, vital_setLft]
    exact h.trans (kept_setSeq (.inr (.inl (by simp [hphase]))) id)
  all_goals simp [h]

@[simp] theorem kept_jobHoldRequest (h : Kept a (vital b)) : Kept a (vital (jobHoldRequest b)) := by
  simp only [jobHoldRequest]
  split <;> simp [h]

@[simp] theorem kept_jobResumeRequest (hphase : b.msu.phase = .ended) (h : Kept a (vital b)) :
    Kept a (vital (jobResumeRequest b)) := by
  simp only [jobResumeRequest]
  repeat' split
  case isFalse.isFalse.isFalse =>
    simp only [vital_answer, jobResumed]
    refine kept_resumeStep (by simp) ?_
    simp only [vital_raise]
    exact h.trans (kept_setSeq (.inr (.inl (by simp [hphase]))) id)
  all_goals simp [h]

@[simp] theorem kept_jobAbortRequest (h : Kept a (vital b)) : Kept a (vital (jobAbortRequest b)) := by
  have hidle : Kept a (vital (setSeq (fun q =>
      { q with state := .idle, snapshot := none, run := Running.empty, stack := [], target := none }) b)) :=
    h.trans (kept_setSeq (.inr (.inr rfl)) fun _ => Nat.zero_le _)
  simp only [jobAbortRequest, jobAborted]
  repeat' split
  · simp [h]
  · simp [hidle]
  · simp [hidle]

@[simp] theorem kept_continueRequest (h : Kept a (vital b)) : Kept a (vital (continueRequest b)) := by
  simp only [continueRequest]
  split <;> simp [*]

@[simp] theorem kept_frontClearedRequest (h : Kept a (vital b)) : Kept a (vital (frontClearedRequest b)) := by
  simp only [frontClearedRequest, clearReaches, deferClear]
  repeat' split
  all_goals simp [h]

@[simp] theorem vital_blockClearRequest (b : Blocks) : vital (blockClearRequest b) = vital b := by
  simp only [blockClearRequest]
  repeat' split
  all_goals simp

@[simp] theorem vital_setOrientationRequest (o : Nat) (b : Blocks) : vital (setOrientationRequest o b) = vital b := by
  simp only [setOrientationRequest]
  repeat' split
  all_goals simp

@[simp] theorem vital_piecesReadRequest (n : Nat) (b : Blocks) : vital (piecesReadRequest n b) = vital b := by
  simp only [piecesReadRequest]
  split <;> simp

@[simp] theorem vital_gaugeHomeRequest (b : Blocks) : vital (gaugeHomeRequest b) = vital b := by
  simp only [gaugeHomeRequest]
  repeat' split
  all_goals simp

@[simp] theorem vital_gaugeJogRequest (t : Int) (b : Blocks) : vital (gaugeJogRequest t b) = vital b := by
  simp only [gaugeJogRequest, jogMove]
  repeat' split
  all_goals simp

@[simp] theorem kept_manualCutRequest (p : Nat) (hphase : b.msu.phase = .ended) (h : Kept a (vital b)) :
    Kept a (vital (manualCutRequest p b)) := by
  simp only [manualCutRequest, manualCutBegins]
  repeat' split
  all_goals simp [h, hphase]

@[simp] theorem kept_knifeReturnRequest (hphase : b.msu.phase = .ended) (h : Kept a (vital b)) :
    Kept a (vital (knifeReturnRequest b)) := by
  simp only [knifeReturnRequest, knifeReturnTaken, knifeReturnReleases]
  repeat' split
  case isFalse.isFalse.isTrue =>
    simp only [vital_answer]
    exact kept_reportOpened _ (kept_ckuRelease (by simpa using h))
  case isFalse.isFalse.isFalse =>
    simp only [vital_answer]
    refine Kept.trans (v := vital (setCku (fun c => { c with knifeReturn := true }) b)) (by simpa using h) ?_
    exact kept_setCku_gap (fun hp => by simp [hphase] at hp) (Valves.eases_lowering _) rfl (le_max_right _ _)
  all_goals simp [h]

@[simp] theorem kept_knifeChangedRequest (k : Int) (w gap : Nat) (hphase : b.msu.phase = .ended) (h : Kept a (vital b)) :
    Kept a (vital (knifeChangedRequest k w gap b)) := by
  simp only [knifeChangedRequest, knifeChangedTaken]
  repeat' split
  case isFalse.isFalse.isFalse hstate =>
    simp only [vital_answer, vital_raise, vital_ckuStore, vital_judgeWear]
    refine h.trans (kept_setCku_awake (.inr (by simp [hphase])) (Valves.Eases.refl _) fun hg => ?_)
    exact absurd (.inl (by simp [show b.cku.state = .gap from hg])) hstate
  all_goals simp [h]

@[simp] theorem vital_turnManualRequest (q : Nat) (b : Blocks) : vital (turnManualRequest q b) = vital b := by
  simp only [turnManualRequest]
  repeat' split
  all_goals simp

@[simp] theorem vital_liftLowerRequest (b : Blocks) : vital (liftLowerRequest b) = vital b := by
  simp only [liftLowerRequest]
  repeat' split
  all_goals simp

@[simp] theorem vital_liftRaiseRequest (b : Blocks) : vital (liftRaiseRequest b) = vital b := by
  simp only [liftRaiseRequest]
  repeat' split
  all_goals simp

@[simp] theorem vital_feedPauseRequest (b : Blocks) : vital (feedPauseRequest b) = vital b := by
  simp only [feedPauseRequest]
  split <;> simp

@[simp] theorem vital_feedResumeRequest (b : Blocks) : vital (feedResumeRequest b) = vital b := by
  simp only [feedResumeRequest]
  split <;> simp

@[simp] theorem vital_sensorBaselineRequest (w d : Nat) (b : Blocks) : vital (sensorBaselineRequest w d b) = vital b := by
  simp only [sensorBaselineRequest]
  repeat' split
  all_goals simp

/-- A library request leaves the figures where its own part does. -/
theorem vital_libRequest {fields lockable closable busy : Bool} {f : Blocks → Blocks} {b : Blocks} (h : vital (f b) = vital b) :
    vital (libRequest fields lockable closable busy f b) = vital b := by
  simp only [libRequest]
  split
  · simp
  · exact h

@[simp] theorem vital_answerWrite (p : Blocks × Status) : vital (answerWrite p) = vital p.1 := vital_answer _ _ _

@[simp] theorem vital_discardStaging (b : Blocks) : vital (discardStaging b) = vital b := by simp [discardStaging]

@[simp] theorem vital_jobBeginRequest (k n l : Nat) (b : Blocks) : vital (jobBeginRequest k n l b) = vital b := by
  simp only [jobBeginRequest]
  split
  · simp
  · exact vital_libRequest (by simp [stagingBegins])

@[simp] theorem vital_jobPartRequest (o : Nat) (d : List Byte) (b : Blocks) : vital (jobPartRequest o d b) = vital b := by
  refine vital_libRequest ?_
  simp only [stagingPart]
  repeat' split
  all_goals simp

@[simp] theorem vital_placeStaged (g : Staging) (b : Blocks) : vital (placeStaged g b) = vital b := by
  have hplace := vital_placeRecord g.kind g.key g.body b
  simp only [placeStaged]
  generalize placeRecord g.kind g.key g.body b = p at hplace ⊢
  repeat' split
  all_goals simpa using hplace

@[simp] theorem vital_jobEndRequest (c : Nat) (b : Blocks) : vital (jobEndRequest c b) = vital b := by
  refine vital_libRequest ?_
  simp only [stagingEnds]
  repeat' split
  all_goals simp

@[simp] theorem vital_jobReadRequest (k n o : Nat) (b : Blocks) : vital (jobReadRequest k n o b) = vital b := by
  simp only [jobReadRequest]
  split
  · simp
  · refine vital_libRequest ?_
    simp only [readBody]
    repeat' split
    all_goals simp

@[simp] theorem vital_jobDeleteRequest (k n : Nat) (b : Blocks) : vital (jobDeleteRequest k n b) = vital b := by
  simp only [jobDeleteRequest]
  split
  · simp
  · refine vital_libRequest ?_
    simp only [deleteItem]
    split <;> simp

@[simp] theorem vital_stockWriteRequest (k : Nat) (f : StockFigures) (b : Blocks) :
    vital (stockWriteRequest k f b) = vital b := vital_libRequest (by simp)

@[simp] theorem vital_stockReadRequest (k : Nat) (b : Blocks) : vital (stockReadRequest k b) = vital b := by
  refine vital_libRequest ?_
  simp only [readStock]
  repeat' split
  all_goals simp

@[simp] theorem vital_corrWriteRequest (start n : Nat) (v : List (Option Int)) (b : Blocks) :
    vital (corrWriteRequest start n v b) = vital b := by
  refine vital_libRequest ?_
  simp only [writeCorrections]
  split
  case h_1 => simp
  case h_2 i _ =>
    have hplace := vital_programNext .corr (start + i) (encodeCorr (v.drop i)) b
    generalize programNext .corr (start + i) (encodeCorr (v.drop i)) b = p at hplace ⊢
    split <;> simpa using hplace

@[simp] theorem vital_corrReadRequest (start n : Nat) (b : Blocks) : vital (corrReadRequest start n b) = vital b :=
  vital_libRequest (by simp)

@[simp] theorem kept_libCompactRequest (h : Kept a (vital b)) : Kept a (vital (libCompactRequest b)) := by
  simp only [libCompactRequest, libRequest]
  split <;> simp [h]

@[simp] theorem vital_libEraseRequest (b : Blocks) : vital (libEraseRequest b) = vital b := by
  refine vital_libRequest ?_
  simp only [eraseAllRequest, eraseAllBegins]
  split <;> simp

/-- A request served by its owner after start-up keeps the laws. -/
theorem kept_serve (i : Instr) (hphase : b.msu.phase = .ended) (h : Kept a (vital b)) : Kept a (vital (serve i b)) := by
  cases i
  all_goals simp [serve, h, hphase, cellStatusRequest, linkStatusRequest, runStatusRequest, holdReadRequest,
    blockStatusRequest, gaugeStatusRequest, knifeStatusRequest, feedStatusRequest, libStatusRequest]

/-! ## The link -/

theorem bounded_drop {c : LinkCounters} (cause : DropCause) (h : c.Bounded) : (c.drop cause).Bounded := by
  cases cause <;> simp_all [LinkCounters.Bounded, LinkCounters.drop, bump, addUpTo]

theorem bounded_dropFrame {l : Lnk} (cause : DropCause) (h : l.Bounded) : (dropFrame cause l).Bounded :=
  ⟨h.1, bounded_drop cause h.2⟩

/-- A request joins the queue or the refusal list only where there is room (R189). -/
theorem bounded_requestArrives {l : Lnk} (tag : Byte) (body : List Byte) (h : l.Bounded) :
    (requestArrives tag body l).Bounded := by
  obtain ⟨⟨hqueue, hrefusals, hnumber⟩, hdrops, hrequests, hrest⟩ := h
  have hcounted := addUpTo_le Config.counterTop l.counters.requests 1
  simp only [requestArrives]
  repeat' split
  case isTrue hroom => exact ⟨⟨by simpa using hroom, hrefusals, hnumber⟩, hdrops, hcounted, hrest⟩
  case isFalse.isTrue hroom => exact ⟨⟨hqueue, by simpa using hroom, hnumber⟩, hdrops, hcounted, hrest⟩
  case isFalse.isFalse => exact bounded_dropFrame _ ⟨⟨hqueue, hrefusals, hnumber⟩, hdrops, hrequests, hrest⟩

theorem bounded_receive (n : Nat) (bytes : List RxByte) {l : Lnk} (h : l.Bounded) : (receive n bytes l).Bounded := by
  induction bytes generalizing n l with
  | nil => cases n <;> exact h
  | cons x rest ih =>
    cases n with
    | succ k => exact ih k h
    | zero =>
      simp only [receive]
      repeat' split
      · exact ih 0 h
      · exact h
      · exact ih 0 (bounded_dropFrame _ h)
      · exact ih 0 (bounded_dropFrame _ h)
      · exact ih _ (bounded_dropFrame _ h)
      · exact ih _ (bounded_dropFrame _ h)
      · exact ih _ (bounded_requestArrives _ _ h)

@[simp] theorem kept_frameReceived (bytes : List RxByte) (h : Kept a (vital b)) :
    Kept a (vital (frameReceived bytes b)) :=
  h.trans (kept_setLnk (bounded_receive _ _))

@[simp] theorem kept_transmitNext (h : Kept a (vital b)) : Kept a (vital (transmitNext b)) := by
  simp only [transmitNext]
  repeat' split
  · exact h
  case h_1 r rest hrefusals =>
    refine h.trans (kept_setLnk fun hl => ⟨⟨hl.1.1, ?_, hl.1.2.2⟩, hl.2⟩)
    have hlength := hl.1.2.1
    rw [hrefusals] at hlength
    exact Nat.le_of_succ_le hlength
  · exact h.trans (kept_setLnk id)
  · exact h.trans (kept_setLnk fun hl => ⟨⟨hl.1.1, hl.1.2.1, Nat.mod_lt _ (by decide)⟩, hl.2⟩)
  · exact h

@[simp] theorem kept_frameSentDone (h : Kept a (vital b)) : Kept a (vital (frameSentDone b)) := by
  simp only [frameSentDone]
  repeat' split
  · exact h
  · exact h.trans (kept_setLnk fun hl => ⟨hl.1, hl.2.1, hl.2.2.1, addUpTo_le _ _ _, hl.2.2.2.2⟩)
  · exact h.trans (kept_setLnk fun hl => ⟨hl.1, hl.2.1, hl.2.2.1, hl.2.2.2.1, addUpTo_le _ _ _⟩)
  · exact h.trans (kept_setLnk fun _ => bounded_atReset)
  · refine h.trans (kept_setLnk fun hl => ⟨⟨?_, hl.1.2⟩, hl.2.1, hl.2.2.1, addUpTo_le _ _ _, hl.2.2.2.2⟩)
    exact (by simp : b.lnk.queue.tail.length ≤ b.lnk.queue.length).trans hl.1.1

@[simp] theorem kept_replyHead (x : Option Answer) (h : Kept a (vital b)) : Kept a (vital (replyHead x b)) := by
  refine h.trans (kept_setLnk fun hl => ⟨⟨?_, hl.1.2⟩, hl.2⟩)
  have hlength := hl.1.1
  cases hqueue : b.lnk.queue with
  | nil => simp
  | cons r rest => simpa [hqueue] using hlength

/-- Only the two statuses have the codes that are answered before start-up has ended (R175, R190). -/
theorem readRequest_of_status_code {code : Nat} {args : List Byte} {r : Instr} (hcode : code = 5 ∨ code = 90)
    (hread : readRequest code args = some r) : r = .cellStatus ∨ r = .linkStatus := by
  rcases hcode with rfl | rfl <;> simp only [readRequest] at hread <;> split at hread
  · exact .inl (Option.some.inj hread).symm
  · exact nomatch hread
  · simp [longRequest] at hread
  · exact .inr (Option.some.inj hread).symm
  · exact nomatch hread
  · simp [longRequest] at hread

/-- A request handed on keeps the laws: before start-up has ended it is answered BUSY, or asks for a status (R190). -/
@[simp] theorem kept_handBody (body : List Byte) (h : Kept a (vital b)) : Kept a (vital (handBody body b)) := by
  simp only [handBody]
  split
  case h_1 => simp [h]
  case h_2 code args =>
    split_ifs with hcode hbusy
    · simp [h]
    · simp [h]
    · cases hread : readRequest code.toNat args with
      | none => simp [h]
      | some r =>
        by_cases hphase : b.msu.phase = .ended
        · exact kept_serve r hphase h
        · have hstatus : code.toNat = 5 ∨ code.toNat = 90 := by
            by_contra hother
            exact hbusy ⟨hphase, not_or.mp hother⟩
          rcases readRequest_of_status_code hstatus hread with rfl | rfl
          · simpa [serve, cellStatusRequest] using h
          · simpa [serve, linkStatusRequest] using h

@[simp] theorem kept_requestHandOn (h : Kept a (vital b)) : Kept a (vital (requestHandOn b)) := by
  simp only [requestHandOn]
  split
  · exact kept_replyHead _ (kept_handBody _ h)
  · exact h

/-! ## The events -/

@[simp] theorem kept_powerOn (inp : Inputs) (h : Kept a (vital b)) : Kept a (vital (powerOn inp b)) := by
  simp only [powerOn]
  exact kept_startBlocks _ (Kept.trans (by simpa using h) (kept_setLnk fun _ => bounded_atReset))

@[simp] theorem kept_startupEnd (h : Kept a (vital b)) : Kept a (vital (startupEnd b)) := by
  simp only [startupEnd]
  split <;> simp [h]

@[simp] theorem kept_sectionEraseDone (h : Kept a (vital b)) : Kept a (vital (sectionEraseDone b)) := by
  simp only [sectionEraseDone]
  repeat' split
  all_goals simp [h]

@[simp] theorem vital_stagingLapses (b : Blocks) : vital (stagingLapses b) = vital b := by
  simp only [stagingLapses]
  repeat' split
  all_goals simp

@[simp] theorem kept_estopChainOpening (h : Kept a (vital b)) : Kept a (vital (estopChainOpening b)) := by
  simp only [estopChainOpening]
  split <;> simp [h]

@[simp] theorem vital_estopChainClosing (b : Blocks) : vital (estopChainClosing b) = vital b := by
  simp only [estopChainClosing]
  split <;> simp

@[simp] theorem kept_permitKeyChange (key : PermitKey) (h : Kept a (vital b)) : Kept a (vital (permitKeyChange key b)) := by
  simp only [permitKeyChange]
  repeat' split
  all_goals simp [h]

@[simp] theorem vital_programLockKeyChange (locked : Bool) (b : Blocks) :
    vital (programLockKeyChange locked b) = vital b := by
  simp only [programLockKeyChange]
  split <;> simp

@[simp] theorem kept_lightCurtainChange (clear : Bool) (h : Kept a (vital b)) :
    Kept a (vital (lightCurtainChange clear b)) := by
  simp only [lightCurtainChange]
  repeat' split
  case isFalse.isTrue hbroken => exact kept_ckuReverses _ hbroken.2 (by simpa using h)
  all_goals simp [h]

@[simp] theorem kept_guardDoorChange (closed : Bool) (h : Kept a (vital b)) : Kept a (vital (guardDoorChange closed b)) := by
  simp only [guardDoorChange]
  repeat' split
  all_goals simp [h]

@[simp] theorem kept_clearReaches (h : Kept a (vital b)) : Kept a (vital (clearReaches b)) := by
  simp only [clearReaches, deferClear]
  repeat' split
  all_goals simp [h]

@[simp] theorem kept_deferredClear (h : Kept a (vital b)) : Kept a (vital (deferredClear b)) := by
  simp only [deferredClear]
  split <;> simp [h]

@[simp] theorem kept_backTableCovered (h : Kept a (vital b)) : Kept a (vital (backTableCovered b)) := by
  simp only [backTableCovered]
  repeat' split
  all_goals simp [h]

@[simp] theorem vital_referenceMarkTaken (b : Blocks) : vital (referenceMarkTaken b) = vital b := by
  simp only [referenceMarkTaken]
  split <;> simp

@[simp] theorem kept_gaxExpires (runs : Bool) (code : GaxFault) (h : Kept a (vital b)) :
    Kept a (vital (gaxExpires runs code b)) := by
  simp only [gaxExpires]
  split <;> simp [h]

@[simp] theorem vital_profileComplete (e : Int) (b : Blocks) : vital (profileComplete e b) = vital b := by
  simp only [profileComplete]
  repeat' split
  all_goals simp

@[simp] theorem kept_inPosition (e : Int) (h : Kept a (vital b)) : Kept a (vital (inPosition e b)) := by
  simp only [inPosition, bandHeld]
  repeat' split
  all_goals simp [h]

@[simp] theorem kept_limitActuated (which : LimitEnd) (h : Kept a (vital b)) : Kept a (vital (limitActuated which b)) := by
  simp only [limitActuated]
  repeat' split
  all_goals simp [h]

@[simp] theorem kept_driveReportsFault (h : Kept a (vital b)) : Kept a (vital (driveReportsFault b)) := by
  simp [driveReportsFault, h]

@[simp] theorem kept_clampingBegins (h : Kept a (vital b)) : Kept a (vital (clampingBegins b)) := by
  simp only [clampingBegins]
  repeat' split
  all_goals simp [h]

@[simp] theorem vital_keepSample (n : Nat) (b : Blocks) : vital (keepSample n b) = vital b := by simp [keepSample]

@[simp] theorem kept_enterClamped (h : Kept a (vital b)) : Kept a (vital (enterClamped b)) :=
  h.trans (kept_setCku_calm (Valves.Eases.refl _) (by simp) (by simp) id)

@[simp] theorem kept_pressureSample (n : Nat) (h : Kept a (vital b)) : Kept a (vital (pressureSample n b)) := by
  simp only [pressureSample]
  repeat' split
  case h_3.isTrue hstate _ _ => exact kept_ckuReverses _ (by simpa [keepSample] using hstate) (by simpa using h)
  all_goals simp [h]

@[simp] theorem kept_clampTimeout (h : Kept a (vital b)) : Kept a (vital (clampTimeout b)) := by
  simp only [clampTimeout]
  split <;> simp [h]

@[simp] theorem vital_setButton (button : Button) (v : Bool) (b : Blocks) : vital (setButton button v b) = vital b := by
  cases button <;> simp [setButton]

@[simp] theorem cku_setButton (button : Button) (v : Bool) (b : Blocks) : (setButton button v b).cku = b.cku := by
  cases button <;> rfl

@[simp] theorem vital_buttonPressed (button : Button) (b : Blocks) : vital (buttonPressed button b) = vital b := by
  simp only [buttonPressed]
  split
  · rfl
  · cases button <;> simp

@[simp] theorem vital_rearm (b : Blocks) : vital (rearm b) = vital b := by
  simp only [rearm]
  split <;> simp

@[simp] theorem cku_state_rearm (b : Blocks) : (rearm b).cku.state = b.cku.state := by
  simp only [rearm]
  split <;> rfl

@[simp] theorem kept_buttonReleased (button : Button) (h : Kept a (vital b)) :
    Kept a (vital (buttonReleased button b)) := by
  simp only [buttonReleased]
  repeat' split
  case isFalse.isTrue hstate => exact kept_ckuReverses _ (by simpa using hstate) (by simpa using h)
  all_goals simp [h]

@[simp] theorem vital_markBdc (b : Blocks) : vital (markBdc b) = vital b := by simp [markBdc]

@[simp] theorem kept_reportBdc (h : Kept a (vital b)) : Kept a (vital (reportBdc b)) := by
  simp only [reportBdc]
  repeat' split
  all_goals simp [h]

@[simp] theorem kept_bdcCovered (h : Kept a (vital b)) : Kept a (vital (bdcCovered b)) := by
  simp only [bdcCovered]
  split
  case isTrue hstate =>
    refine kept_reportBdc ?_
    simp only [vital_markBdc, vital_storeIfDue, vital_countCut]
    exact kept_beginGap hstate h
  case isFalse => simp [h]

@[simp] theorem kept_strokeTimeout (h : Kept a (vital b)) : Kept a (vital (strokeTimeout b)) := by
  simp only [strokeTimeout]
  split
  case isTrue hstate => exact kept_ckuReverses _ (by simpa using hstate) (by simpa using h)
  case isFalse => exact h

theorem kept_closeReturn (hstate : b.cku.state = .returning) (h : Kept a (vital b)) : Kept a (vital (closeReturn b)) := by
  refine h.trans (kept_setCku_calm ⟨id, by simp, fun hs => ⟨by simp, hs.2⟩⟩ ?_ ?_ id) <;> simp [hstate]

@[simp] theorem kept_releaseAtTdc (c : Cycle) (h : Kept a (vital b)) : Kept a (vital (releaseAtTdc c b)) := by
  simp only [releaseAtTdc]
  repeat' split
  all_goals simp [h]

theorem kept_returnedToTdc (hstate : b.cku.state = .returning) (h : Kept a (vital b)) :
    Kept a (vital (returnedToTdc b)) := by
  have hclosed := kept_closeReturn hstate h
  simp only [returnedToTdc, knifeReturnReleases]
  repeat' split
  all_goals simp [hclosed]

@[simp] theorem kept_tdcCovered (h : Kept a (vital b)) : Kept a (vital (tdcCovered b)) := by
  simp only [tdcCovered]
  split
  case isTrue hstate => exact kept_returnedToTdc hstate (by simpa using h)
  case isFalse => simp [h]

@[simp] theorem kept_returnTimeout (h : Kept a (vital b)) : Kept a (vital (returnTimeout b)) := by
  simp only [returnTimeout]
  repeat' split
  all_goals simp [h]

@[simp] theorem kept_upperStopCovered (h : Kept a (vital b)) : Kept a (vital (upperStopCovered b)) := by
  simp only [upperStopCovered]
  split <;> simp [h]

@[simp] theorem kept_releaseTimeout (h : Kept a (vital b)) : Kept a (vital (releaseTimeout b)) := by
  simp only [releaseTimeout]
  split <;> simp [h]

@[simp] theorem kept_manualPermitTimeout (h : Kept a (vital b)) : Kept a (vital (manualPermitTimeout b)) := by
  simp only [manualPermitTimeout]
  split
  · exact kept_reportOpened _ (kept_ckuRelease (by simpa using h))
  · exact h

@[simp] theorem kept_turnInterlock (h : Kept a (vital b)) : Kept a (vital (turnInterlock b)) := by
  simp only [turnInterlock]
  split <;> simp [h]

@[simp] theorem kept_tdcUncovered (h : Kept a (vital b)) : Kept a (vital (tdcUncovered b)) := by
  simp only [tdcUncovered]
  repeat' split
  all_goals simp [h]

@[simp] theorem kept_upperStopUncovered (h : Kept a (vital b)) : Kept a (vital (upperStopUncovered b)) := by
  simp only [upperStopUncovered]
  repeat' split
  all_goals simp [h]

@[simp] theorem kept_flapCloses (h : Kept a (vital b)) : Kept a (vital (flapCloses b)) := by
  simp only [flapCloses]
  split <;> simp [h]

@[simp] theorem kept_flapTimeout (h : Kept a (vital b)) : Kept a (vital (flapTimeout b)) := by
  simp only [flapTimeout]
  split <;> simp [h]

@[simp] theorem vital_pendingTurnBegins (b : Blocks) : vital (pendingTurnBegins b) = vital b := by
  simp only [pendingTurnBegins]
  repeat' split
  all_goals simp

@[simp] theorem kept_gripTimeout (h : Kept a (vital b)) : Kept a (vital (gripTimeout b)) := by
  simp only [gripTimeout]
  split <;> simp [h]

@[simp] theorem vital_judgeTurn (r : TurnRecord) (b : Blocks) : vital (judgeTurn r b) = vital b := by
  simp only [judgeTurn]
  split <;> simp

@[simp] theorem seq_judgeTurn (r : TurnRecord) (b : Blocks) : (judgeTurn r b).seq = b.seq := by
  simp only [judgeTurn]
  split <;> rfl

@[simp] theorem kept_quarterCompletes (r : TurnRecord) (h : Kept a (vital b)) :
    Kept a (vital (quarterCompletes r b)) := by
  simp only [quarterCompletes]
  split <;> split
  case' isTrue.isTrue hdone | isFalse.isTrue hdone =>
    have hrun := hdone.2
    simp only [turnStepDone, Bool.and_eq_true, beq_iff_eq] at hrun
    refine kept_takeStep ?_ (by simp [h])
    rw [seq_judgeTurn, hrun.1.1]
    simp
  all_goals simp [h]

@[simp] theorem kept_quarterCompletion (h : Kept a (vital b)) : Kept a (vital (quarterCompletion b)) := by
  simp only [quarterCompletion]
  repeat' split
  all_goals simp [h]

@[simp] theorem kept_turnTimeout (h : Kept a (vital b)) : Kept a (vital (turnTimeout b)) := by
  simp only [turnTimeout]
  split <;> simp [h]

@[simp] theorem vital_armsOpenCovers (b : Blocks) : vital (armsOpenCovers b) = vital b := by simp [armsOpenCovers]

@[simp] theorem kept_turnerReleaseTimeout (h : Kept a (vital b)) : Kept a (vital (turnerReleaseTimeout b)) := by
  simp only [turnerReleaseTimeout]
  split <;> simp [h]

@[simp] theorem kept_restLost (h : Kept a (vital b)) : Kept a (vital (restLost b)) := by
  simp only [restLost]
  split <;> simp [h]

@[simp] theorem kept_quarterUncovers (h : Kept a (vital b)) : Kept a (vital (quarterUncovers b)) := by
  simp only [quarterUncovers]
  split <;> simp [h]

@[simp] theorem kept_armsUncover (h : Kept a (vital b)) : Kept a (vital (armsUncover b)) := by
  simp only [armsUncover]
  split <;> simp [h]

@[simp] theorem vital_quarterSensorCovers (b : Blocks) : vital (quarterSensorCovers b) = vital b := by
  simp only [quarterSensorCovers]
  split <;> simp

@[simp] theorem vital_tryParting (b : Blocks) : vital (tryParting b) = vital b := by
  simp only [tryParting]
  split <;> simp

@[simp] theorem vital_entryCovers (b : Blocks) : vital (entryCovers b) = vital b := by
  simp only [entryCovers]
  split <;> simp

@[simp] theorem vital_partTimeout (b : Blocks) : vital (partTimeout b) = vital b := by
  simp only [partTimeout]
  split <;> simp

@[simp] theorem vital_gearWithdrawTimeout (b : Blocks) : vital (gearWithdrawTimeout b) = vital b := by
  simp only [gearWithdrawTimeout]
  split <;> simp

@[simp] theorem vital_jogBegins (b : Blocks) : vital (jogBegins b) = vital b := by
  simp only [jogBegins]
  split <;> simp

@[simp] theorem vital_jogEnds (front side : Bool) (b : Blocks) : vital (jogEnds front side b) = vital b := by
  simp only [jogEnds]
  split <;> simp

@[simp] theorem vital_entryUncovers (b : Blocks) : vital (entryUncovers b) = vital b := by
  simp only [entryUncovers]
  repeat' split
  all_goals simp

@[simp] theorem vital_tryTransfer (b : Blocks) : vital (tryTransfer b) = vital b := by
  simp only [tryTransfer, transferBegins]
  repeat' split
  all_goals simp

@[simp] theorem vital_transferTimeout (b : Blocks) : vital (transferTimeout b) = vital b := by
  simp only [transferTimeout]
  split <;> simp

@[simp] theorem vital_carriageHomes (b : Blocks) : vital (carriageHomes b) = vital b := by simp [carriageHomes]

@[simp] theorem vital_carriageTimeout (b : Blocks) : vital (carriageTimeout b) = vital b := by
  simp only [carriageTimeout]
  split <;> simp

@[simp] theorem kept_applyLevel (c : LevelChange) (h : Kept a (vital b)) : Kept a (vital (applyLevel c b)) := by
  unfold applyLevel
  split
  case h_1 => exact h
  all_goals simp [h]

end Operations

/-! ## The two commands that open a knife valve -/

/-- Two times no more than 500 ms apart, said of each. -/
theorem within_of_span (l r : Nat) (h : max l r - min l r ≤ 500) : l ≤ r + 500 ∧ r ≤ l + 500 := by omega

/-- The stroke permit is what R113 asks of the cell. -/
theorem strokeSafe_of_permit {b : Blocks} (h : strokePermit b = true) : StrokeSafe b := by
  simp only [strokePermit] at h
  split at h
  case h_1 => exact absurd h (by simp)
  case h_2 c hcycle =>
    simp only [Bool.and_eq_true, beq_iff_eq, Bool.not_eq_true', chainOk] at h
    obtain ⟨⟨⟨⟨⟨⟨⟨⟨hstate, harmed⟩, hrest⟩, hsample⟩, hchain⟩, hcurtain⟩, hparked⟩, hflap⟩, hkey⟩ := h
    split at hsample
    case h_2 => exact absurd hsample (by simp)
    case h_1 n hn =>
      refine ⟨hstate, hchain, hcurtain, hparked, c, n, hcycle, hn, by simpa using hsample, harmed, hrest, hflap, ?_⟩
      simp only [keyPermit] at hkey
      split
      case isTrue hboth =>
        rw [if_pos hboth] at hkey
        simp only [twoHandPermit, Bool.and_eq_true] at hkey
        obtain ⟨⟨⟨hleft, hright⟩, hrearmed⟩, honset⟩ := hkey
        split at honset
        case h_1 l r hl hr =>
          exact ⟨hleft, hright, hrearmed, l, r, hl, hr, within_of_span l r (by simpa using honset)⟩
        case h_2 => exact absurd honset (by simp)
      case isFalse hguarded =>
        rw [if_neg hguarded] at hkey
        simpa [bothReleased] using hkey

/-- What STROKE_BEGIN does: nothing without the permit; with it the stroke begins, once the valve gap has passed (R114). -/
theorem strokeBegins_cases (b : Blocks) :
    strokeBegins b = b ∨ StrokeSafe b ∧ gapEnd b.cku.returnClosedAt b ≤ (strokeBegins b).clock
      ∧ vital (strokeBegins b)
        = { vital b with valves := { Valves.closed with down := true, lowering := true }, knife := .stroking,
                         deadline := some ((strokeBegins b).clock + Config.strokeMs) } := by
  simp only [strokeBegins]
  split
  case isFalse => exact .inl rfl
  case isTrue hpermit =>
    refine .inr ⟨strokeSafe_of_permit hpermit, ?_⟩
    simp only [seqStrokeBegun]
    split_ifs <;> refine ⟨le_max_right _ _, ?_⟩ <;>
      simp [vital, beginStroke, clockAt, after, enterPhase, setRun, setSeq, setCku, linkCore, gapEnd]

theorem lawful_strokeBegins (b : Blocks) : Lawful (vital b) (vital (strokeBegins b)) := by
  rcases strokeBegins_cases b with h | ⟨hsafe, -, h⟩
  · rw [h]; exact (Kept.refl _).toLawful
  · obtain ⟨-, -, -, -, c, -, hcycle, -⟩ := hsafe
    rw [h]
    refine ⟨fun _ => by simp [Valves.Safe, Valves.closed], fun hg => ⟨by simp, fun hp => ?_⟩, id, rfl, id, id⟩
    have hnone := (hg.2 hp).2.1
    simp [vital, hcycle] at hnone

/-- What VALVE_GAP_END does: in GAP the return valve opens at the end of the running time (R107, R115). -/
theorem valveGapEnds_cases (b : Blocks) :
    valveGapEnds b = b ∨ b.cku.state = .gap ∧ (∀ d, b.cku.deadline = some d → d ≤ (valveGapEnds b).clock)
      ∧ vital (valveGapEnds b)
        = { vital b with valves := { Valves.closed with ret := true, lowering := true }, knife := .returning,
                         deadline := some ((valveGapEnds b).clock + Config.returnMs) } := by
  simp only [valveGapEnds]
  split
  case isFalse => exact .inl rfl
  case isTrue hgap =>
    refine .inr ⟨hgap, fun d hd => (le_clock_clockAt b.cku.deadline b).2 d hd, ?_⟩
    cases hd : b.cku.deadline <;> simp [vital, clockAt, after, setInputs, setCku, linkCore, gapEnd, hd]

theorem lawful_valveGapEnds (b : Blocks) : Lawful (vital b) (vital (valveGapEnds b)) := by
  rcases valveGapEnds_cases b with h | ⟨hgap, -, h⟩
  · rw [h]; exact (Kept.refl _).toLawful
  · rw [h]
    refine ⟨fun _ => by simp [Valves.Safe, Valves.closed], fun hg => ⟨by simp, fun hp => ?_⟩, id, rfl, id, id⟩
    exact absurd hgap (hg.2 hp).2.2.1

/-! ## Every command, and every step -/

/-- A request that is a row of its own is served as a frame's request is; RESTART, which has no frame, apart (R190; log 9). -/
theorem exec_request {i : Instr} (hrequest : i.isRequest = true) (hcell : i ≠ .cellStatus) (hlink : i ≠ .linkStatus)
    (hrestart : i ≠ .restart) (s : State) : exec i s = run (asRequest (serve i)) s := by
  cases i <;> first | rfl | contradiction

/-- Every command but the two that open a knife valve keeps the laws and opens neither. -/
theorem kept_exec (i : Instr) (hstroke : i ≠ .strokeBegin) (hgap : i ≠ .valveGapEnd) (s : State) :
    ∃ c, exec i s = .next { s with blocks := c } ∧ Kept (vital s.blocks) (vital c) := by
  by_cases hrequest : i.isRequest = true ∧ i ≠ .cellStatus ∧ i ≠ .linkStatus ∧ i ≠ .restart
  case pos =>
    obtain ⟨hrequest, hcell, hlink, hrestart⟩ := hrequest
    refine ⟨asRequest (serve i) s.blocks, exec_request hrequest hcell hlink hrestart s, ?_⟩
    simp only [asRequest]
    split
    case isTrue hphase => exact kept_serve i hphase (Kept.refl _)
    case isFalse => simp
  case neg =>
    cases i
    case restart =>
      refine ⟨asRequest restartRequest s.blocks, rfl, ?_⟩
      simp only [asRequest]
      split <;> simp
    case strokeBegin => exact absurd rfl hstroke
    case valveGapEnd => exact absurd rfl hgap
    case cellStatus => exact ⟨_, rfl, by simp [cellStatusRequest]⟩
    case linkStatus => exact ⟨_, rfl, by simp [linkStatusRequest]⟩
    all_goals first
      | exact absurd ⟨rfl, nofun, nofun, nofun⟩ hrequest
      | exact ⟨_, rfl, by simp⟩

/-- What a step does to the block: a command's effect, or a millisecond with a level change. -/
theorem step_blocks_cases {s t : State} (h : step s = .next t) :
    (∃ i s', s'.blocks = s.blocks ∧ exec i s' = .next t) ∨ t = tick s := by
  simp only [step] at h
  split at h
  case h_1 c rest _ => exact .inl ⟨c, { s with pending := rest }, rfl, h⟩
  case h_2 =>
    simp only [idle] at h
    split at h
    case h_1 i _ => exact .inl ⟨i, s, rfl, h⟩
    case h_2 => exact .inr (Host.Outcome.next.inj h).symm

theorem kept_tick (s : State) : Kept (vital s.blocks) (vital (tick s).blocks) := by
  simp only [tick]
  split
  · exact Kept.refl _
  · exact kept_applyLevel _ (Kept.refl _)

/-- A step keeps the laws and opens no knife valve, or it is the beginning of a stroke or the end of a valve gap. -/
theorem kept_step {s t : State} (h : step s = .next t) :
    Kept (vital s.blocks) (vital t.blocks) ∨ t.blocks = strokeBegins s.blocks ∨ t.blocks = valveGapEnds s.blocks := by
  rcases step_blocks_cases h with ⟨i, s', hblocks, hexec⟩ | rfl
  · by_cases hstroke : i = .strokeBegin
    · subst hstroke
      obtain rfl := Host.Outcome.next.inj hexec
      exact .inr (.inl (congrArg strokeBegins hblocks))
    · by_cases hgap : i = .valveGapEnd
      · subst hgap
        obtain rfl := Host.Outcome.next.inj hexec
        exact .inr (.inr (congrArg valveGapEnds hblocks))
      · obtain ⟨c, hc, hkept⟩ := kept_exec i hstroke hgap s'
        obtain rfl := Host.Outcome.next.inj (hc.symm.trans hexec)
        exact .inl (hblocks ▸ hkept)
  · exact .inl (kept_tick s)

theorem lawful_step {s t : State} (h : step s = .next t) : Lawful (vital s.blocks) (vital t.blocks) := by
  rcases kept_step h with hkept | hstroke | hgap
  · exact hkept.toLawful
  · exact hstroke ▸ lawful_strokeBegins s.blocks
  · exact hgap ▸ lawful_valveGapEnds s.blocks

end Sys2Proof.Machine

open Sys2Proof Sys2Proof.Machine

/-- Settles O4: `lawful_step`'s valve law, kept by every operation of the units. -/
theorem stepKeepsValveLaw : Obligations.StepKeepsValveLaw := fun _ _ hlaw hstep => (lawful_step hstep).safe hlaw

/-- Settles O5: the gap law is kept by every step, and VALVE_GAP_END alone opens the return valve. -/
theorem stepKeepsValveGap : Obligations.StepKeepsValveGap := by
  intro s t hlaw hstep
  refine ⟨(gapLaw_iff _).mpr ((lawful_step hstep).gap ((gapLaw_iff _).mp hlaw)), fun hshut hopen => ?_⟩
  rcases kept_step hstep with hkept | hstroke | hgap
  · exact absurd (hkept.ret hopen) (by simp [vital, hshut])
  · rw [hstroke] at hopen
    rcases strokeBegins_cases s.blocks with h | ⟨-, -, h⟩
    · rw [h, hshut] at hopen; exact absurd hopen (by simp)
    · exact absurd ((congrArg (·.valves.ret) h).symm.trans hopen) (by simp [Valves.closed])
  · rcases valveGapEnds_cases s.blocks with h | ⟨hstate, hclock, -⟩
    · rw [hgap, h, hshut] at hopen; exact absurd hopen (by simp)
    · obtain ⟨d, hd, hover⟩ := hlaw.1 hstate
      exact ⟨hstate, hover.trans (hgap ▸ hclock d hd)⟩

/-- Settles O6: STROKE_BEGIN alone opens the down valve, and only with the permit. -/
theorem downValveNeedsPermit : Obligations.DownValveNeedsPermit := by
  intro s t hstep hshut hopen
  rcases kept_step hstep with hkept | hstroke | hgap
  · exact absurd (hkept.down hopen) (by simp [vital, hshut])
  · rcases strokeBegins_cases s.blocks with h | ⟨hsafe, hclock, -⟩
    · rw [hstroke, h, hshut] at hopen; exact absurd hopen (by simp)
    · exact ⟨hsafe, hstroke ▸ hclock⟩
  · rw [hgap] at hopen
    rcases valveGapEnds_cases s.blocks with h | ⟨-, -, h⟩
    · rw [h, hshut] at hopen; exact absurd hopen (by simp)
    · exact absurd ((congrArg (·.valves.down) h).symm.trans hopen) (by simp [Valves.closed])

/-- Settles O7: `lawful_step`'s bounds of the link and of TRK's counters. -/
theorem stepKeepsLinkAndCounterBounds : Obligations.StepKeepsLinkAndCounterBounds := by
  intro s t hbounds hstep
  obtain ⟨hlink, hcounts⟩ := (linkAndCounterBounds_iff _).mp hbounds
  exact (linkAndCounterBounds_iff _).mpr ⟨(lawful_step hstep).link hlink, (lawful_step hstep).counts hcounts⟩

/-- Settles O8: `lawful_step`'s bound of the call stack and length of the flash. -/
theorem stepKeepsStackAndFlash : Obligations.StepKeepsStackAndFlash := by
  intro s t hlaw hstep
  exact ⟨(lawful_step hstep).stack hlaw.1, (lawful_step hstep).flash.trans hlaw.2⟩

/-- Settles O2: every arm of `exec` runs an act on the block. -/
theorem everyCommandHasEffect : Obligations.EveryCommandHasEffect := by
  intro c s
  by_cases hstroke : c = .strokeBegin
  · exact ⟨strokeBegins s.blocks, hstroke ▸ rfl⟩
  · by_cases hgap : c = .valveGapEnd
    · exact ⟨valveGapEnds s.blocks, hgap ▸ rfl⟩
    · obtain ⟨b, hb, -⟩ := kept_exec c hstroke hgap s
      exact ⟨b, hb⟩

/-- Settles O9: a request is served through `asRequest`, which answers BUSY before start-up has ended. -/
theorem startupRequestsBusy : Obligations.StartupRequestsBusy := by
  intro c s hrequest hcell hlink hphase
  have hbusy (f : Blocks → Blocks) : run (asRequest f) s
      = .next { s with blocks := { s.blocks with answer := some ⟨.busy, .nothing⟩ } } := by
    rw [run_eq, State.act, asRequest, if_neg hphase]
    rfl
  by_cases hrestart : c = .restart
  · exact hrestart ▸ hbusy restartRequest
  · exact (exec_request hrequest hcell hlink hrestart s).trans (hbusy _)

end

section
/-! SUPPORT. The step and the level changes (log 2, log 3), the status requests, the mode and safety unit: MODE_SET, the e-stop
chain closing, the safety inputs, and UNIT_RESET with its parts (chapter 10); each as equations of the model's operations. -/

set_option Elab.async false

namespace Sys2Proof.Machine

open Sys2Proof

theorem chainOk_iff {b : Blocks} : chainOk b = true ↔ b.msu.estop = .chainOk := by simp [chainOk]

theorem chainOk_eq_false_iff {b : Blocks} : chainOk b = false ↔ b.msu.estop ≠ .chainOk := by simp [chainOk]

/-! ## The step -/

/-- The in-position test runs in SETTLING and in the settling of FINAL (R90, R96). -/
theorem settlingNow_iff {b : Blocks} :
    settlingNow b = true ↔ b.gax.state = .settling ∨ b.gax.state = .homing ∧ b.gax.finalSettling = true := by
  simp [settlingNow]

theorem countTarget_eq (b : Blocks) : countTarget b = match b.gax.move with | some m => m.countTarget | none => 0 := by
  unfold countTarget
  cases b.gax.move <;> rfl

/-- A reading stands outside the band where it is more than 2 counts off the count target (R96). -/
theorem inBand_eq_false_iff {n : Int} {b : Blocks} : inBand n b = false ↔ 2 < |n - countTarget b| := by
  simp [inBand, Config.band]

/-- A reading comes into the band: the last one stood outside it while the test runs (R96); `t` is the count target. -/
theorem comesIn_iff {b : Blocks} {t : Int} (ht : countTarget b = t) :
    (b.gax.state = .settling ∨ b.gax.state = .homing ∧ b.gax.finalSettling = true) ∧ 2 < |b.inputs.encoder - t|
      ↔ settlingNow b = true ∧ inBand b.inputs.encoder b = false := by
  rw [settlingNow_iff, inBand_eq_false_iff, ht]

/-- A change of one home switch that covers both is GEAR_HOME's; one that does not is the level alone (R150, R154). -/
theorem gearLevel_of_atRest {b : Blocks} (h : gearAtRest b = true) : gearLevel b = gearHomes b := if_pos h

theorem gearLevel_of_not_atRest {b : Blocks} (h : gearAtRest b = false) : gearLevel b = b := by
  simp [gearLevel, h]

/-- An encoder reading that comes into the band of a running test begins its time again (R96). -/
theorem encoderTurns_comesIn {n : Int} {b : Blocks} (h : settlingNow b = true ∧ inBand b.inputs.encoder b = false) :
    encoderTurns n b = bandRestarts (setInputs (fun i => { i with encoder := n }) b) := if_pos h

theorem encoderTurns_of_not_comesIn {n : Int} {b : Blocks}
    (h : ¬ (settlingNow b = true ∧ inBand b.inputs.encoder b = false)) : encoderTurns n b = encoderOutOfBand n b := if_neg h

theorem step_of_front {c : Instr} {rest : List Instr} {s : State} (h : s.pending = c :: rest) :
    step s = exec c { s with pending := rest } := by
  simp only [step, h]

/-- An own step is one of the list, or a timed one whose time has come. -/
theorem ownStep_due {s : State} {i : Instr} (h : ownStep s = some i) :
    changesBlock s i = true ∧ (i ∈ ownSteps ∨ ∃ d, (some d, i) ∈ timedSteps s.blocks ∧ d ≤ s.blocks.clock) := by
  refine ⟨List.find?_some h, ?_⟩
  have hmem := List.mem_of_find?_eq_some h
  simp only [List.mem_append, List.mem_map, List.mem_filter] at hmem
  rcases hmem with hown | ⟨⟨d, j⟩, ⟨htimed, hcome⟩, rfl⟩
  · exact .inl hown
  · cases d with
    | none => exact absurd hcome (by simp [timeCome])
    | some d => exact .inr ⟨d, htimed, by simpa [timeCome] using hcome⟩

theorem tick_of_change {s : State} {c : LevelChange} {rest : List LevelChange} (h : s.silent = c :: rest) :
    tick s = { s with
      blocks := applyLevel c { s.blocks with clock := s.blocks.clock + 1 }, silent := rest } := by
  simp only [tick, h]

/-! ## MODE_SET -/

/-- The modes are numbered by their place (R192). -/
theorem modeOf_eq (n : Nat) :
    modeOf n = if n = 0 ∨ 3 < n then none
      else some (if n = 1 then .standby else if n = 2 then .setup else .auto) := by
  match n with
  | 0 | 1 | 2 | 3 => rfl
  | n + 4 => rw [if_pos (.inr (by omega))]; rfl

/-- A MODE_SET of a mode, in the order of R167. -/
theorem modeSetRequest_of_mode {n : Nat} {m : CellMode} (h : modeOf n = some m) (b : Blocks) :
    modeSetRequest n b =
      if m = b.msu.mode then answer .ok .nothing b
      else if b.msu.mode = .auto ∧ b.seq.state = .running then answer .refusedState .nothing b
      else if m = .auto ∧ b.gax.referenced = false then answer .refusedState (.autoRefusal .notReferenced) b
      else if m = .auto ∧ b.inputs.tdc = false then answer .refusedState (.autoRefusal .knifeOffTdc) b
      else if m = .auto ∧ b.inputs.upperStop = false then answer .refusedState (.autoRefusal .clampDown) b
      else if m = .auto ∧ b.cku.state = .knifeReturnNeeded then answer .refusedState (.autoRefusal .knifeReturnNeeded) b
      else if m = .auto ∧ b.msu.estop ≠ .chainOk then answer .refusedState (.autoRefusal .chainOpen) b
      else answer .ok .nothing (modeTaken m b) := by
  simp only [modeSetRequest, h]
  by_cases hauto : m = .auto
  · simp only [hauto, true_and, if_true, autoRefusal, Bool.not_eq_true', chainOk_eq_false_iff]
    split_ifs <;> rfl
  · simp only [hauto, false_and, if_false]

/-! ## The chain closes, and the resets -/

/-- A lift under way moves on, and leaves the switch it stands at (R153). -/
theorem lftChainReset_eq {b : Blocks} (h : b.msu.estop = .chainOk) :
    lftChainReset b = setInputs (fun i => { i with lowerLimit := decide (b.lft.state ≠ .raising) && i.lowerLimit,
                                                   topLimit := decide (b.lft.state ≠ .lowering) && i.topLimit }) b := by
  have hchain := chainOk_iff.mpr h
  cases hstate : b.lft.state <;> simp [lftChainReset, hstate, liftRises, liftSinks, hchain, setInputs]

/-- A suspended carriage return runs on (R164). -/
theorem jogChainReset_eq (b : Blocks) :
    jogChainReset b = { b with jog := match b.jog.suspended with
      | some left => { b.jog with suspended := none, deadline := some (b.clock + left) }
      | none => b.jog } := by
  unfold jogChainReset
  cases b.jog.suspended <;> rfl

/-- The drive stays disabled in a limit or drive fault alone (R101). -/
theorem driveLocked_eq (g : Gax) :
    driveLocked g = decide (g.state = .fault ∧ (g.fault = some .limitSwitch ∨ g.fault = some .driveFault)) := by
  rcases hfault : g.fault with - | code
  · simp [driveLocked, hfault]
  · cases code <;> simp [driveLocked, hfault, GaxFault.disables, beq_eq_decide]

/-- The chain is CHAIN_OK again for every unit (R101, R153, R164, R170). -/
theorem chainResets_eq (b : Blocks) :
    let enabled : Bool := !driveLocked b.gax
    chainResets b = raiseIf (enabled && !b.gax.drive) .gauge (raise .cell { b with
      msu := { b.msu with estop := .chainOk },
      gax := { b.gax with drive := enabled, driveCount := if enabled then some b.inputs.encoder else none },
      inputs := { b.inputs with lowerLimit := decide (b.lft.state ≠ .raising) && b.inputs.lowerLimit,
                                topLimit := decide (b.lft.state ≠ .lowering) && b.inputs.topLimit },
      jog := match b.jog.suspended with
        | some left => { b.jog with suspended := none, deadline := some (b.clock + left) }
        | none => b.jog }) := by
  intro enabled
  simp only [chainResets, jogChainReset_eq]
  rw [lftChainReset_eq (by simp [gaxChainReset, driveEnable])]
  simp only [gaxChainReset, driveEnable, gax_raise, gax_setMsu, enabled]
  rcases Bool.eq_false_or_eq_true (!driveLocked b.gax && !b.gax.drive) with hraise | hraise <;>
    simp only [raiseIf, hraise] <;> rfl

theorem unitOf_of_bad {n : Nat} (h : n = 0 ∨ 5 < n) : unitOf n = none := by
  match n with
  | 0 => rfl
  | 1 | 2 | 3 | 4 | 5 => omega
  | n + 6 => rfl

/-- The table sensors a reset of JOG needs clear (R165). -/
theorem jogTableClear_iff {b : Blocks} : jogTableClear b = true ↔
    b.inputs.entry = false ∧ b.inputs.frontStop = false ∧ b.inputs.sideStop = false
      ∧ (b.jog.state = .fault →
          b.jog.fault = some .interlockLost ∨ b.jog.fault = some .transferTimeout ∨ b.jog.fault = some .chainOpened →
          b.inputs.backTable = false) := by
  simp only [jogTableClear, Bool.and_eq_true, Bool.not_eq_true', Bool.and_eq_false_iff, Bool.or_eq_false_iff,
    beq_eq_false_iff_ne]
  cases b.inputs.backTable <;> simp <;> tauto

/-- A cool-down runs for 3 s after the reset (R174). -/
theorem coolDownLeft_isSome (now : Ms) (taken : Option Ms) :
    (coolDownLeft now taken).isSome = match taken with | some t => decide (now < t + 3000) | none => false := by
  cases taken with
  | none => rfl
  | some t =>
    simp only [coolDownLeft, Config.coolDownMs]
    split <;> simp_all

/-- The conditions of a unit's part (R174). -/
theorem resetAllowed_eq (u : UnitName) (b : Blocks) :
    (!resetAllowed u b) = match u with
      | .gax => false
      | .cku | .lft => decide (b.msu.estop ≠ .chainOk)
      | .trn => decide (b.msu.estop ≠ .chainOk ∨ b.inputs.upperStop = false ∨ b.inputs.tdc = false)
      | .jog => decide (b.msu.estop ≠ .chainOk ∨
          ((b.jog.state = .fault ∨ b.jog.state = .receiving ∨ b.jog.state = .aligned) ∧ jogTableClear b = false)) := by
  have hchain : (!chainOk b) = decide (b.msu.estop ≠ .chainOk) := by simp [chainOk, beq_eq_decide]
  cases u with
  | gax => rfl
  | cku => exact hchain
  | lft => exact hchain
  | trn =>
    cases hup : b.inputs.upperStop <;> cases htdc : b.inputs.tdc <;>
      simp [resetAllowed, trnResetAllowed, hup, htdc, hchain]
  | jog => cases hclear : jogTableClear b <;> simp [resetAllowed, jogResetAllowed, hclear, hchain, beq_eq_decide, Bool.or_assoc]

/-- A reset that is taken records its time, runs the part and answers (R174). -/
theorem resetTaken_eq (u : UnitName) (b : Blocks) :
    resetTaken u b =
      let after := resetPart u { b with msu := { b.msu with resets := b.msu.resets.set u b.clock } }
      answer (if resetActs u b = true ∧ resetMoves u after = true then .accepted else .ok) .nothing after := by
  simp only [resetTaken, Bool.and_eq_true]
  rfl

/-! ## The parts of a UNIT_RESET -/

/-- With the chain closed an open or opening flap is driven closed, and a closed or closing one is left (R119). -/
theorem flapClose_eq {b : Blocks} (h : b.msu.estop = .chainOk) :
    flapClose b = if b.cku.flap = .opening ∨ b.cku.flap = .opened then
        { b with inputs := { b.inputs with flapOpenSw := false },
                 cku := { b.cku with flap := .closing, flapDeadline := some (b.clock + 600) } }
      else b := by
  simp only [flapClose, chainOk_iff.mpr h]
  cases hflap : b.cku.flap <;> simp <;> rfl

/-- A release with the clamp off its upper stop raises it (R118). -/
theorem ckuRelease_of_down {b : Blocks} (h : b.inputs.upperStop = false) :
    ckuRelease b = { b with cku := { b.cku with
      state := .releasing, valves := { Valves.closed with raising := true }, deadline := some (b.clock + 1500) } } := by
  simp only [ckuRelease, h]
  rfl

/-- A release with the clamp at its upper stop is over at once (R118). -/
theorem ckuRelease_of_up {b : Blocks} (h : b.inputs.upperStop = true) : ckuRelease b = ckuOpened b := if_pos h

/-- CKU as its part of a reset begins: a faulted one drops its fault (R124). -/
def ckuResetBegun (b : Blocks) : Blocks :=
  if b.cku.state = .fault then
    { b with cku := { b.cku with resetting := true, resetReleased := false, fault := none, contactDetail := none } }
  else { b with cku := { b.cku with resetting := true, resetReleased := false } }

/-- CKU acts in a reset: in FAULT at TDC, and in OPEN where the clamp or the flap stands off (R124). -/
def ckuActs (b : Blocks) : Prop :=
  (b.cku.state = .fault ∧ b.inputs.tdc = true)
    ∨ (b.cku.state = .open_ ∧ ¬ (b.inputs.upperStop = true ∧ b.cku.flap = .closed))

/-- CKU's part of a reset releases the clamp and closes the flap, wherever it acts (R124). -/
theorem ckuReset_of_acting {b : Blocks} (h : ckuActs b) :
    ckuReset b = ckuRelease (flapClose (ckuResetBegun b)) := by
  rcases h with ⟨hstate, htdc⟩ | ⟨hstate, hoff⟩
  · simp only [ckuReset, ckuResetBegun, hstate, htdc, ↓reduceIte]
    rw [← hstate]
    rfl
  · simp only [ckuReset, ckuResetBegun, hstate, if_neg hoff, reduceCtorEq, ↓reduceIte]
    rw [← hstate]
    rfl

/-- The end of a release that a reset makes, in `b`, where the cycle and the marks are those of `a`: it ends the reset too
where the flap stands closed (R118, R124). -/
theorem ckuOpened_of_resetting {a b : Blocks} (h : b.cku.resetting = true) (hreturn : b.cku.knifeReturn = a.cku.knifeReturn)
    (hcycle : b.cku.cycle = a.cku.cycle) (hflap : b.cku.flap = .closed ↔ a.cku.flap = .closed) :
    ckuOpened b =
      let up : Blocks := { b with cku := { b.cku with
        state := .open_, cycle := none, knifeReturn := false, resetReleased := true, valves := Valves.closed,
        deadline := none } }
      let told : Blocks :=
        if a.cku.knifeReturn then raise .knife { up with cku := { up.cku with lastManual := some true } }
        else
          match a.cku.cycle with
          | some c =>
            if c.asker = .manual then raise .knife { up with cku := { up.cku with lastManual := some c.bdcTaken } } else up
          | none => up
      if a.cku.flap = .closed then
        raise .knife { told with cku := { told.cku with resetting := false, resetReleased := false } }
      else told := by
  have hends {c : Blocks} (hreset : c.cku.resetting = true) (hreleased : c.cku.resetReleased = true)
      (hc : c.cku.flap = b.cku.flap) :
      ckuResetEnds c = if a.cku.flap = .closed then
        raise .knife { c with cku := { c.cku with resetting := false, resetReleased := false } } else c := by
    by_cases hclosed : a.cku.flap = .closed
    · rw [if_pos hclosed]
      exact if_pos ⟨hreset, hreleased, hc.trans (hflap.mpr hclosed)⟩
    · rw [if_neg hclosed]
      exact if_neg fun hall => hclosed (hflap.mp (hc.symm.trans hall.2.2))
  have hup : setCku (fun c =>
      { c with state := .open_, cycle := none, knifeReturn := false, resetReleased := c.resetting, valves := Valves.closed,
               deadline := none }) b = { b with cku := { b.cku with
        state := .open_, cycle := none, knifeReturn := false, resetReleased := true, valves := Valves.closed,
        deadline := none } } := by
    rw [← h]
    rfl
  simp only [ckuOpened, hup, hreturn, hcycle]
  by_cases hreturns : a.cku.knifeReturn = true
  · simp only [if_pos hreturns]
    exact hends h rfl rfl
  · simp only [if_neg hreturns]
    cases a.cku.cycle with
    | none => exact hends h rfl rfl
    | some c =>
      by_cases hmanual : c.asker = .manual
      · simp only [if_pos hmanual]
        exact hends h rfl rfl
      · simp only [if_neg hmanual]
        exact hends h rfl rfl

theorem cku_state_ckuResetEnds (b : Blocks) : (ckuResetEnds b).cku.state = b.cku.state := by
  simp only [ckuResetEnds]
  split <;> rfl

theorem cku_state_ckuOpened (b : Blocks) : (ckuOpened b).cku.state = .open_ := by
  simp only [ckuOpened, cku_state_ckuResetEnds]
  repeat' split
  all_goals rfl

/-- What the flap's closing at a reset leaves (R119, R124). -/
theorem flapClose_ckuResetBegun {b : Blocks} (h : b.msu.estop = .chainOk) :
    flapClose (ckuResetBegun b) = if b.cku.flap = .opening ∨ b.cku.flap = .opened then
        { ckuResetBegun b with
          inputs := { b.inputs with flapOpenSw := false },
          cku := { (ckuResetBegun b).cku with flap := .closing, flapDeadline := some (b.clock + 600) } }
      else ckuResetBegun b := by
  simp only [ckuResetBegun]
  split <;> exact flapClose_eq h

/-- The flap's closing at a reset touches neither the clamp nor the cycle. -/
theorem flapClose_ckuResetBegun_keeps {b : Blocks} (h : b.msu.estop = .chainOk) :
    let shut := flapClose (ckuResetBegun b)
    (shut.inputs.upperStop = b.inputs.upperStop ∧ shut.clock = b.clock) ∧ shut.cku.resetting = true
      ∧ shut.cku.knifeReturn = b.cku.knifeReturn ∧ shut.cku.cycle = b.cku.cycle
      ∧ (shut.cku.flap = .closed ↔ b.cku.flap = .closed) := by
  rw [flapClose_ckuResetBegun h]
  by_cases hflap : b.cku.flap = .opening ∨ b.cku.flap = .opened
  · simp only [if_pos hflap, ckuResetBegun]
    split <;> rcases hflap with hflap | hflap <;> simp [hflap]
  · simp only [if_neg hflap, ckuResetBegun]
    split <;> simp

theorem resetPart_cku_of_down {b : Blocks} (hchain : b.msu.estop = .chainOk) (hact : ckuActs b)
    (hdown : b.inputs.upperStop = false) :
    resetPart .cku b =
      let shut := flapClose (ckuResetBegun b)
      { shut with cku := { shut.cku with
        state := .releasing, valves := { Valves.closed with raising := true }, deadline := some (b.clock + 1500) } } := by
  obtain ⟨⟨hstop, hclock⟩, -⟩ := flapClose_ckuResetBegun_keeps hchain
  simp only [resetPart, ckuReset_of_acting hact, ckuRelease_of_down (hstop.trans hdown), hclock]
  exact if_neg (by simp)

theorem resetPart_cku_of_up {b : Blocks} (hchain : b.msu.estop = .chainOk) (hact : ckuActs b)
    (hup : b.inputs.upperStop = true) :
    resetPart .cku b =
      let ended := ckuOpened (flapClose (ckuResetBegun b))
      if b.cku.state = .fault ∧ manualCycle b = false then seqReleased ended else ended := by
  obtain ⟨⟨hstop, -⟩, -⟩ := flapClose_ckuResetBegun_keeps hchain
  have hfault : b.cku.state ≠ .open_ ↔ b.cku.state = .fault := by
    rcases hact with ⟨h, -⟩ | ⟨h, -⟩ <;> simp [h]
  simp only [resetPart, ckuReset_of_acting hact, ckuRelease_of_up (hstop.trans hup), reportOpened, cku_state_ckuOpened, hfault,
    true_and]

/-- The arms of a reset are open: it parks at a quarter position, and carries the empty head on between two (R136, R140). -/
theorem armsAreOpen_of_resetting {b : Blocks} (hstate : b.trn.state = .releasing) (hreset : b.trn.resetting = true)
    (hcarrying : b.trn.carrying = false) :
    armsAreOpen b =
      if b.inputs.quarter then
        raise .cell { b with trn := { b.trn with
          state := .parked, record := none, resetting := false, carrying := false, deadline := none,
          lastTurn := match b.trn.record with | some r => some ⟨r.done, .parked⟩ | none => b.trn.lastTurn } }
      else { b with trn := { b.trn with carrying := true, deadline := some (b.clock + 1500) } } := by
  have hgo : ¬ (b.trn.state ≠ .releasing ∨ b.trn.carrying = true) := by simp [hstate, hcarrying]
  have htell : (turnAsker b == some .terminal || b.trn.resetting) = true := by simp [hreset]
  rw [armsAreOpen, if_neg hgo, trnPark, htell]
  by_cases hquarter : b.inputs.quarter = true
  · rw [if_pos hquarter, if_pos hquarter]
    rfl
  · rw [if_neg hquarter, if_neg hquarter, if_pos hreset]
    rfl

/-- With the chain closed a lift that begins to lower leaves its top limit switch (R151; log 4). -/
theorem liftLowers_eq {b : Blocks} (h : b.msu.estop = .chainOk) :
    liftLowers b = { b with lft := { b.lft with state := .lowering, deadline := none },
                            inputs := { b.inputs with topLimit := false } } :=
  if_pos (chainOk_iff.mpr h)

/-- With the chain closed a lift that begins to rise leaves its lower limit switch (R151; log 4). -/
theorem liftRaises_eq {b : Blocks} (h : b.msu.estop = .chainOk) :
    liftRaises b = { b with lft := { b.lft with state := .raising, deadline := none },
                            inputs := { b.inputs with lowerLimit := false } } :=
  if_pos (chainOk_iff.mpr h)

/-- LFT's part of a reset withdraws the gear first, where it is not at rest (R154). -/
theorem lftReset_of_fault {b : Blocks} (h : b.lft.state = .fault) :
    lftReset b =
      let begun : Blocks := { b with lft := { b.lft with fault := none, sensorFaultPending := false } }
      if gearAtRest b then gearWithdrawn begun
      else { begun with lft := { begun.lft with withdrawing := true, gearReturning := false,
                                                deadline := some (b.clock + 6000) } } :=
  if_neg (not_not_intro h)

/-! ## The status requests -/

/-- Two acts that agree on the block as it stands give the same next state. -/
theorem next_act_of_eq {f g : Blocks → Blocks} {s : State} (h : f s.blocks = g s.blocks) :
    (.next (s.act f) : Host.Outcome State Fault Refusal) = .next (s.act g) := by
  simp only [State.act, h]

/-- A request that reports: its answer is read off the block as it stands. -/
theorem run_report {data : Blocks → Result} {r : Result} {s : State} (h : StartedUp s) (hr : data s.blocks = r) :
    run (asRequest fun b => answer .ok (data b) b) s = .next (s.act (answer .ok r)) := by
  subst hr
  exact run_asRequest h

/-- The first failing condition of R53. -/
theorem tableNotReady_eq (b : Blocks) :
    tableNotReady b =
      if b.trk.block ≠ none then some .blockPresent
      else if b.trk.unknown then some .blockUnknown
      else
        match b.seq.snapshot with
        | none => some .noJob
        | some snap =>
          if 1150000 < (2 * (snap.depth * (10000 + snap.stock.stretchA)) + 10000) / 20000 then some .oversize else none := by
  unfold tableNotReady
  cases b.trk.block <;> rfl

theorem jobUnderWay_iff {b : Blocks} : jobUnderWay b = true ↔ b.seq.state = .running ∨ b.seq.state = .held := by
  simp [jobUnderWay]

theorem gearAtRest_eq_false_iff {b : Blocks} :
    gearAtRest b = false ↔ b.inputs.bladeHome = false ∨ b.inputs.pusherHome = false := by
  simp only [gearAtRest, Bool.and_eq_false_iff]

/-- The first failing condition of R149. -/
theorem partRefusal_eq (b : Blocks) :
    partRefusal b =
      if b.seq.state ≠ .running ∧ b.seq.state ≠ .held then some .jobNotRunning
      else if b.lft.feedPaused then some .feedPaused
      else if b.jog.state ≠ .empty then some .joggerOccupied
      else if b.seq.run.lot ≤ b.lft.partedOff then some .lotParted
      else if b.msu.estop ≠ .chainOk then some .chainOpen
      else if b.inputs.bladeHome = false ∨ b.inputs.pusherHome = false then some .gearNotAtRest
      else none := by
  have hunder : (!jobUnderWay b) = true ↔ b.seq.state ≠ .running ∧ b.seq.state ≠ .held := by
    rw [Bool.not_eq_true', ← Bool.not_eq_true, jobUnderWay_iff, not_or]
  simp only [partRefusal, hunder, Bool.not_eq_true', chainOk_eq_false_iff, gearAtRest_eq_false_iff]

theorem gaugeAtLoad_eq (b : Blocks) :
    gaugeAtLoad b = match b.seq.snapshot with | some snap => gaxStandsAt snap.loadPosition b | none => false := by
  unfold gaugeAtLoad loadPosition
  cases b.seq.snapshot <;> rfl

/-- The first failing condition of R162. -/
theorem transferRefusal_eq (b : Blocks) :
    transferRefusal b =
      if tableNotReady b ≠ none then some .tableNotReady
      else if b.seq.state ≠ .running ∨ b.seq.run.wait ≠ .portion then some .notWaitingPortion
      else if gaugeAtLoad b = false then some .gaugeNotAtLoad
      else if b.inputs.upperStop = false then some .clampDown
      else if b.trn.state ≠ .parked then some .turnerNotParked
      else if b.msu.estop ≠ .chainOk then some .chainOpen
      else none := by
  simp only [transferRefusal, Option.isSome_iff_ne_none, not_and_or, Bool.not_eq_true', chainOk_eq_false_iff, ne_eq]

theorem coolDownLeft_eq (now : Ms) (taken : Option Ms) :
    coolDownLeft now taken = match taken with
      | none => none
      | some t => if now < t + 3000 then some (t + 3000 - now) else none := rfl

theorem isErased_eq (c : Section) : c.isErased = decide (c = Section.erased) := by
  cases c <;> simp [Section.isErased]

theorem isBad_eq (c : Section) : c.isBad = decide (c = Section.bad) := by cases c <;> simp [Section.isBad]

theorem erasedCount_eq (flash : List Section) :
    erasedCount flash = (flash.filter fun c => decide (c = Section.erased)).length := by
  simp only [erasedCount, ← isErased_eq]

theorem inUseCount_eq (flash : List Section) :
    inUseCount flash = (flash.filter fun c => decide (c ≠ Section.erased)).length := by
  simp only [inUseCount, isErased_eq, ← decide_not, ne_eq]

theorem badCount_eq (flash : List Section) :
    (flash.filter Section.isBad).length = (flash.filter fun c => decide (c = Section.bad)).length := by
  simp only [← isBad_eq]

theorem roomShown_eq (l : Lib) :
    roomShown l = match l.work, openSection l.flash with
      | some (.compact _ _ _ _ _), _ => 0
      | _, some i => 2032 - usedRoom (slotsAt l.flash i)
      | _, none => 0 := by
  unfold roomShown roomLeft
  cases openSection l.flash <;> rcases l.work with - | w <;> first | rfl | (cases w <;> rfl)

theorem workStatus_eq (w : Option LibWork) :
    workStatus w = match w with
      | some (.compact _ _ _ done total) => some ⟨.compact, done, total⟩
      | some (.eraseAll i) => some ⟨.erase, i, 96⟩
      | _ => none := rfl

theorem isNone_eq_decide {α : Type} [DecidableEq α] (x : Option α) : x.isNone = decide (x = none) := by
  cases x <;> simp

theorem feedStatusData_eq (b : Blocks) :
    feedStatusData b =
      { state := b.lft.state, fault := b.lft.fault, height := b.lft.height, lowerLimit := b.inputs.lowerLimit,
        topLimit := b.inputs.topLimit, bladeHome := b.inputs.bladeHome, pusherHome := b.inputs.pusherHome,
        baseline := b.lft.baseline, window := b.lft.window, depth := b.lft.depth, latest := b.lft.latest,
        judgement := b.lft.judgement, baselinePending := b.lft.baselinePending.isSome, partedOff := b.lft.partedOff,
        lot := if b.seq.state = .running ∨ b.seq.state = .held then some b.seq.run.lot else none,
        feedPaused := b.lft.feedPaused, mayPart := decide (b.lft.state = .atLevel ∧ partRefusal b = none),
        partRefusal := if b.lft.state = .atLevel then partRefusal b else none, jogger := joggerStatus b } := by
  have hmay : (b.lft.state == .atLevel && (partRefusal b).isNone)
      = decide (b.lft.state = .atLevel ∧ partRefusal b = none) := by
    rw [Bool.decide_and, beq_eq_decide, isNone_eq_decide]
  simp only [feedStatusData, hmay, jobUnderWay_iff]

theorem joggerStatus_eq (b : Blocks) :
    joggerStatus b =
      { state := b.jog.state, fault := b.jog.fault, entry := b.inputs.entry, frontStop := b.inputs.frontStop,
        sideStop := b.inputs.sideStop, carriageHome := b.inputs.carriageHome, backTable := b.inputs.backTable,
        retries := b.jog.retries, repeatWaiting := b.jog.repeatWaiting, lastCheck := b.jog.lastCheck,
        record := jogRecordNow b, transferred := b.jog.transferred,
        mayTransfer := decide (b.jog.state = .aligned ∧ transferRefusal b = none),
        transferRefusal := if b.jog.state = .aligned then transferRefusal b else none } := by
  have hmay : (b.jog.state == .aligned && (transferRefusal b).isNone)
      = decide (b.jog.state = .aligned ∧ transferRefusal b = none) := by
    rw [Bool.decide_and, beq_eq_decide, isNone_eq_decide]
  simp only [joggerStatus, hmay]

end Sys2Proof.Machine

open Sys2Proof Sys2Proof.Machine

/-- Settles O1: the step by its three cases, the level changes that a row reports by that row's meaning. -/
theorem stepRunsFront : Obligations.StepRunsFront := by
  refine ⟨fun c rest s h => step_of_front h, fun i s h hown => ?own, fun s h hown hs => ?tick,
    fun c rest s h hown hs => ?change,
    fun s => ⟨rfl, rfl, rfl, rfl, rfl, rfl, fun n => ⟨fun hin => ?comes, fun hout => ?stays⟩,
      fun v => ⟨fun hboth => ?bladeHome, fun hboth => ?blade, fun hboth => ?pusherHome, fun hboth => ?pusher⟩⟩,
    fun b => ⟨fun _ => rfl, fun mm => ?height, fun _ => rfl, rfl, rfl, rfl, rfl, rfl, rfl, rfl, rfl, rfl, rfl, rfl, rfl, rfl,
      rfl, fun _ _ _ => rfl⟩⟩
  case own => exact ⟨by rw [step_of_empty h, hown], ownStep_due hown⟩
  case tick => rw [step_of_empty h, hown, tick_of_no_change hs]
  case change => rw [step_of_empty h, hown, tick_of_change hs]
  case comes => exact encoderTurns_comesIn ((comesIn_iff (countTarget_eq s.blocks)).mp hin)
  case stays =>
    have hturns := encoderTurns_of_not_comesIn (n := n) (mt (comesIn_iff (countTarget_eq s.blocks)).mpr hout)
    exact congrArg (fun b => Host.Outcome.next { s with blocks := b }) hturns.symm
  case bladeHome =>
    have hlevel := gearLevel_of_atRest (b := setInputs (fun i => { i with bladeHome := v }) s.blocks) hboth
    exact congrArg (fun b => Host.Outcome.next { s with blocks := b }) hlevel.symm
  case blade =>
    have hlevel := gearLevel_of_not_atRest (b := setInputs (fun i => { i with bladeHome := v }) s.blocks) hboth
    exact congrArg (fun b => { s with blocks := b }) hlevel.symm
  case pusherHome =>
    have hlevel := gearLevel_of_atRest (b := setInputs (fun i => { i with pusherHome := v }) s.blocks) hboth
    exact congrArg (fun b => Host.Outcome.next { s with blocks := b }) hlevel.symm
  case pusher =>
    have hlevel := gearLevel_of_not_atRest (b := setInputs (fun i => { i with pusherHome := v }) s.blocks) hboth
    exact congrArg (fun b => { s with blocks := b }) hlevel.symm
  case height =>
    cases h : b.lft.height <;> simp only [applyLevel, setLft, h, Option.map]

/-- Settles O11: a mode of no name by `modeOf_eq`, each other one by the order of `modeSetRequest_of_mode`. -/
theorem modeSetJudged : Obligations.ModeSetJudged := by
  intro m s h
  refine (run_asRequest h).trans (next_act_congr s fun b => ?_)
  have hmode := modeOf_eq m
  by_cases hbad : m = 0 ∨ 3 < m
  · rw [if_pos hbad] at hmode ⊢
    simp only [modeSetRequest, hmode]
  · rw [if_neg hbad] at hmode ⊢
    exact modeSetRequest_of_mode hmode b

/-- Settles O15: each change is an act that tests for the level that stands. -/
theorem safetyInputsChange : Obligations.SafetyInputsChange := by
  refine ⟨fun key s => next_act_congr s fun b => ?key, fun locked s => next_act_congr s fun b => ?lock,
    fun clear s => next_act_congr s fun b => ?curtain, fun closed s => next_act_congr s fun b => ?door⟩
  case key =>
    simp only [permitKeyChange, eq_comm]
    rfl
  case lock =>
    simp only [programLockKeyChange, eq_comm]
    rfl
  case curtain =>
    simp only [lightCurtainChange, eq_comm (a := clear) (b := b.inputs.curtainClear), and_comm (a := clear = false)]
    rfl
  case door =>
    simp only [guardDoorChange, eq_comm]
    rfl

/-- Settles O13: ESTOP_RESET by the e-stop state, `chainResets_eq` where it is READY_TO_RESET. -/
theorem estopChainClosesAndResets : Obligations.EstopChainClosesAndResets := by
  refine ⟨fun s => next_act_congr s fun b => rfl, fun s h => (run_asRequest h).trans (next_act_congr s fun b => ?_)⟩
  simp only [estopResetRequest]
  cases b.msu.estop with
  | chainOk => rfl
  | stopped => rfl
  | readyToReset =>
    have henabled : (!driveLocked b.gax) = decide ¬ (b.gax.state = .fault ∧
        (b.gax.fault = some .limitSwitch ∨ b.gax.fault = some .driveFault)) := by
      rw [driveLocked_eq, decide_not]
    simp only [chainResets_eq, henabled] <;> rfl

/-- Settles O16: the conditions of the units' parts one by one, then the order of R174. -/
theorem unitResetJudged : Obligations.UnitResetJudged := by
  refine ⟨fun b => ⟨rfl, rfl, rfl, rfl, by simp [resetMoves, or_assoc], by simp [resetActs], by simp [resetActs],
    by simp [resetActs], ?cku, by simp [resetActs, or_assoc], jogTableClear_iff⟩,
    fun n s h => ⟨fun hbad => ?bad, fun u hu => ?unit⟩⟩
  case cku => cases hup : b.inputs.upperStop <;> simp [resetActs, hup]
  case bad =>
    refine (run_asRequest h).trans (next_act_congr s fun b => ?_)
    simp only [unitResetRequest, unitOf_of_bad hbad]
  case unit =>
    refine (run_asRequest h).trans (next_act_congr s fun b => ?_)
    have hu' : unitOf n = some u := by subst hu; cases u <;> rfl
    simp only [unitResetRequest, hu']
    rw [resetTaken_eq, coolDownLeft_isSome, resetAllowed_eq] <;> rfl

/-- Settles O17: one case per unit and state, each by the equation of that unit's part. -/
theorem unitResetParts : Obligations.UnitResetParts := by
  intro b
  refine ⟨fun h => if_pos h, fun h hcode => ?timeout, fun h hcode hok => ?limit, fun h hcode hfault => ?driveFault,
    fun h htdc => ?offTdc, fun hchain hact => ⟨fun hup => ?released, fun hup => ?opened⟩, fun h hup hflap => ?cleared,
    fun hopen hfault => ?cku,
    fun h => if_pos h, fun h harms => ?arms, fun h harms => ?armsOpen, fun h => if_pos h, fun h hgear => ?gear,
    fun h hgear hlow hchain => ?low, fun h hgear hheight hbase hchain => ?level, fun h hhome => ?home, fun h hhome => ?carriage,
    fun h => ?jog⟩
  case timeout =>
    rcases hcode with hcode | hcode <;> simp only [resetPart, gaxReset, h, hcode, if_false, ne_eq, not_true] <;> rfl
  case limit =>
    have hchain : chainOk b = decide (b.msu.estop = .chainOk) := beq_eq_decide _ _
    rcases hcode with hcode | hcode <;>
      simp only [resetPart, gaxReset, h, hcode, hok, if_false, ne_eq, not_true, hchain, driveEnable, decide_eq_true_eq] <;> rfl
  case driveFault => rcases hcode with hcode | hcode <;> simp [resetPart, gaxReset, h, hcode, hfault]
  case offTdc =>
    simp only [resetPart, ckuReset, h, htdc, reportOpened]
    rfl
  case released =>
    rw [resetPart_cku_of_down hchain hact hup, flapClose_ckuResetBegun hchain]
    rfl
  case opened =>
    obtain ⟨-, hreset, hreturn, hcycle, hflap⟩ := flapClose_ckuResetBegun_keeps hchain
    rw [resetPart_cku_of_up hchain hact hup, ckuOpened_of_resetting hreset hreturn hcycle hflap, flapClose_ckuResetBegun hchain]
    rfl
  case cleared => simp [resetPart, ckuReset, h, hup, hflap, reportOpened]
  case cku =>
    have hstays : ckuReset b = b := by simp only [ckuReset]
    simp only [resetPart, hstays]
    exact if_neg fun h => h.1 h.2.1
  case arms =>
    simp only [resetPart, trnReset, h, harms, trnRelease]
    rfl
  case armsOpen =>
    simp only [resetPart, trnReset, h, harms, ↓reduceIte, ne_eq, not_true]
    refine (armsAreOpen_of_resetting ?_ ?_ ?_).trans ?_
    iterate 4 rfl
  case gear =>
    simp only [resetPart, lftReset_of_fault h, hgear, Bool.false_eq_true, ↓reduceIte]
  case low =>
    have hlow' : b.lft.height.isNone = true ∨ b.lft.baseline = 0 := hlow.imp_left Option.isNone_iff_eq_none.mpr
    simp only [resetPart, lftReset_of_fault h, hgear, ↓reduceIte, gearWithdrawn, if_pos hlow']
    by_cases hlimit : b.inputs.lowerLimit = true
    · rw [if_pos hlimit, if_pos hlimit]
      rfl
    · rw [if_neg hlimit, if_neg hlimit]
      refine (liftLowers_eq ?_).trans ?_
      · exact hchain
      · rfl
  case level =>
    have hup : ¬ (b.lft.height.isNone = true ∨ b.lft.baseline = 0) := by
      rintro (hnone | hzero)
      · simp [Option.isNone_iff_eq_none.mp hnone] at hheight
      · exact hbase hzero
    simp only [resetPart, lftReset_of_fault h, hgear, ↓reduceIte, gearWithdrawn, if_neg hup]
    refine congrArg (raise .feed) ((liftRaises_eq ?_).trans ?_)
    · exact hchain
    · rfl
  case home => rcases h with h | h | h <;> simp only [resetPart, jogReset, h, hhome] <;> rfl
  case carriage => rcases h with h | h | h <;> simp only [resetPart, jogReset, h, hhome] <;> rw [← h] <;> rfl
  case jog => rcases h with h | h | h <;> simp only [resetPart, jogReset, h]

/-- Settles O3: every figure of the state at reset, evaluated. -/
theorem resetIsAsStated : Obligations.ResetIsAsStated := by
  have hgap : GapLaw State.reset.blocks :=
    ⟨fun h => absurd h (by decide +kernel), fun h => absurd h (by decide +kernel)⟩
  have hlaws : ValveLaw State.reset.blocks ∧ LinkBounds State.reset.blocks ∧ StackBound State.reset.blocks
      ∧ FlashShape State.reset.blocks ∧ CounterBounds State.reset.blocks := by
    unfold ValveLaw LinkBounds StackBound FlashShape CounterBounds
    decide +kernel
  obtain ⟨hvalve, hrest⟩ := hlaws
  refine ⟨?_, ?_, ?_, ?_, ?_, ?_, ?_, ?_, ?_, ?_, hvalve, hgap, hrest⟩ <;> decide +kernel

/-- Settles O10: each status request reports figures read off the block; those with a judgement by its equation. -/
theorem statusRequestsReportOnly : Obligations.StatusRequestsReportOnly := by
  intro s
  refine ⟨⟨rfl, rfl⟩, fun h => ⟨run_report h rfl, run_report h rfl, run_report h ?block, fun n => ?pieces,
    run_report h rfl, run_report h rfl, run_report h ?feed, run_report h ?lib⟩⟩
  case block => rw [tableNotReady_eq] <;> rfl
  case pieces =>
    refine (run_asRequest h).trans (next_act_of_eq ?_)
    by_cases hn : n ≤ 7
    · rw [if_pos hn]
      exact if_neg (Nat.not_lt.mpr hn)
    · rw [if_neg hn]
      exact if_pos (Nat.not_le.mp hn)
  case feed =>
    rw [feedStatusData_eq, joggerStatus_eq, partRefusal_eq, transferRefusal_eq, tableNotReady_eq, gaugeAtLoad_eq] <;> rfl
  case lib =>
    rw [libStatusData, erasedCount_eq, inUseCount_eq, badCount_eq, roomShown_eq, workStatus_eq] <;> rfl

end

section
/-! SUPPORT. The sequencer and the tracker: the hold and what a rest leaves as it is (section 2.9), the resumption,
the start and the steps that take no time (chapter 02), the target of a CUT and its roundings (chapter 04),
TRK's own updates (chapter 03). -/

set_option Elab.async false

namespace Sys2Proof.Machine

open Sys2Proof

/-! ## What a rest leaves as it is -/

theorem cku_state_flapClose (b : Blocks) : (flapClose b).cku.state = b.cku.state := by
  simp only [flapClose]
  repeat' split
  all_goals rfl

/-- SEQ and its flags: no rest of a unit touches them but the release of a cut that reached BDC, which moves the location. -/
def seqTold (b : Blocks) : (SeqState × Option Snapshot × List Frame × HoldRecord) × Bool × Bool :=
  ((b.seq.state, b.seq.snapshot, b.seq.stack, b.seq.hold), b.lnk.flags.hold, b.lnk.flags.sequence)

@[simp] theorem seqTold_setGax (f) (b : Blocks) : seqTold (setGax f b) = seqTold b := rfl
@[simp] theorem seqTold_setCku (f) (b : Blocks) : seqTold (setCku f b) = seqTold b := rfl
@[simp] theorem seqTold_setTrn (f) (b : Blocks) : seqTold (setTrn f b) = seqTold b := rfl
@[simp] theorem seqTold_setInputs (f) (b : Blocks) : seqTold (setInputs f b) = seqTold b := rfl
@[simp] theorem seqTold_setRun (f) (b : Blocks) : seqTold (setRun f b) = seqTold b := rfl
@[simp] theorem seqTold_setBlock (k) (b : Blocks) : seqTold (setBlock k b) = seqTold b := rfl
@[simp] theorem seqTold_raise_gauge (b : Blocks) : seqTold (raise .gauge b) = seqTold b := rfl
@[simp] theorem seqTold_raise_knife (b : Blocks) : seqTold (raise .knife b) = seqTold b := rfl

@[simp] theorem seqTold_flapClose (b : Blocks) : seqTold (flapClose b) = seqTold b := by
  simp only [flapClose]
  repeat' split
  all_goals rfl

@[simp] theorem seqTold_gaxStopped (b : Blocks) : seqTold (gaxStopped b) = seqTold b := by
  simp only [gaxStopped]
  split <;> rfl

@[simp] theorem seqTold_gaxStop (b : Blocks) : seqTold (gaxStop b) = seqTold b := by
  simp only [gaxStop]
  repeat' split
  all_goals simp [gaxDecelerate]

@[simp] theorem seqTold_gaxRest (b : Blocks) : seqTold (gaxRest b) = seqTold b := by
  simp only [gaxRest]
  split <;> simp

@[simp] theorem seqTold_ckuResetEnds (b : Blocks) : seqTold (ckuResetEnds b) = seqTold b := by
  simp only [ckuResetEnds]
  split <;> simp

@[simp] theorem seqTold_manualEnds (v : Bool) (b : Blocks) : seqTold (manualEnds v b) = seqTold b := rfl

@[simp] theorem seqTold_ckuOpened (b : Blocks) : seqTold (ckuOpened b) = seqTold b := by
  simp only [ckuOpened]
  repeat' split
  all_goals simp

@[simp] theorem seqTold_ckuRelease (b : Blocks) : seqTold (ckuRelease b) = seqTold b := by
  simp only [ckuRelease]
  split <;> simp

@[simp] theorem seqTold_ckuRest (b : Blocks) : seqTold (ckuRest b) = seqTold b := by
  simp only [ckuRest]
  repeat' split
  all_goals simp [askRest, reverse, markPartialCut, recordReversal, beginGap, knifeReturnStops]

@[simp] theorem seqTold_heldRelease (b : Blocks) : seqTold (heldRelease b) = seqTold b := by
  simp only [heldRelease]
  repeat' split
  all_goals simp

@[simp] theorem seqTold_ckuToRest (b : Blocks) : seqTold (ckuToRest b) = seqTold b := by
  simp only [ckuToRest]
  split <;> simp

@[simp] theorem seqTold_trnRest (b : Blocks) : seqTold (trnRest b) = seqTold b := by
  simp only [trnRest, turnToRest]
  repeat' split
  all_goals simp [trnRelease, turnAskRest]

theorem seqTold_unitsToRest (b : Blocks) : seqTold (unitsToRest b) = seqTold b := by simp [unitsToRest]

/-- The gauge and the turner: no rest of CKU touches them. -/
def apart (b : Blocks) : Gax × Trn := (b.gax, b.trn)

@[simp] theorem apart_setCku (f) (b : Blocks) : apart (setCku f b) = apart b := rfl
@[simp] theorem apart_setInputs (f) (b : Blocks) : apart (setInputs f b) = apart b := rfl
@[simp] theorem apart_setRun (f) (b : Blocks) : apart (setRun f b) = apart b := rfl
@[simp] theorem apart_setBlock (k) (b : Blocks) : apart (setBlock k b) = apart b := rfl
@[simp] theorem apart_raise (k) (b : Blocks) : apart (raise k b) = apart b := rfl
@[simp] theorem apart_manualEnds (v : Bool) (b : Blocks) : apart (manualEnds v b) = apart b := rfl

@[simp] theorem apart_flapClose (b : Blocks) : apart (flapClose b) = apart b := by
  simp only [flapClose]
  repeat' split
  all_goals rfl

@[simp] theorem apart_ckuResetEnds (b : Blocks) : apart (ckuResetEnds b) = apart b := by
  simp only [ckuResetEnds]
  split <;> simp

@[simp] theorem apart_ckuOpened (b : Blocks) : apart (ckuOpened b) = apart b := by
  simp only [ckuOpened]
  repeat' split
  all_goals simp

@[simp] theorem apart_ckuRelease (b : Blocks) : apart (ckuRelease b) = apart b := by
  simp only [ckuRelease]
  split <;> simp

@[simp] theorem apart_ckuRest (b : Blocks) : apart (ckuRest b) = apart b := by
  simp only [ckuRest]
  repeat' split
  all_goals simp [askRest, reverse, markPartialCut, recordReversal, beginGap, knifeReturnStops]

@[simp] theorem apart_heldRelease (b : Blocks) : apart (heldRelease b) = apart b := by
  simp only [heldRelease]
  repeat' split
  all_goals simp

@[simp] theorem apart_ckuToRest (b : Blocks) : apart (ckuToRest b) = apart b := by
  simp only [ckuToRest]
  split <;> simp

theorem gax_ckuToRest (b : Blocks) : (ckuToRest b).gax = b.gax := congrArg Prod.fst (apart_ckuToRest b)

theorem trn_turnToRest_pending (b : Blocks) : (turnToRest b).trn.pending = b.trn.pending := by
  simp only [turnToRest]
  split <;> rfl

theorem gax_trnRest (b : Blocks) : (trnRest b).gax = b.gax := by
  simp only [trnRest, turnToRest]
  repeat' split
  all_goals rfl

/-- A stop asks for no further move. -/
theorem gax_pending_gaxStop {b : Blocks} (h : b.gax.pending = none) : (gaxStop b).gax.pending = none := by
  simp only [gaxStop, gaxStopped]
  repeat' split
  all_goals first | exact h | rfl

theorem gax_pending_unitsToRest (b : Blocks) : (unitsToRest b).gax.pending = none := by
  simp only [unitsToRest, gax_trnRest, gax_ckuToRest, gaxRest]
  split
  · exact gax_pending_gaxStop rfl
  · rfl

theorem trn_pending_unitsToRest (b : Blocks) : (unitsToRest b).trn.pending = none := by
  simp only [unitsToRest, trnRest]
  split
  · exact trn_turnToRest_pending _
  · rfl

/-- CKU's rest is its own where no release ends at once in it (R43). -/
theorem ckuToRest_eq_ckuRest {b : Blocks} (h : b.cku.state = .open_ ∨ (ckuRest b).cku.state ≠ .open_) :
    ckuToRest b = ckuRest b := if_neg fun hopened => h.elim hopened.1 fun hne => hne hopened.2

theorem moveRest_iff {b : Blocks} : (moveInFlight b = true ∧ moveAsker b = some .seq)
    ↔ ∃ m, b.gax.move = some m ∧ m.completed = none ∧ m.asker = .seq := by
  cases h : b.gax.move <;> simp [moveInFlight, moveAsker, h]

/-- A turn brought to rest: a grip is released, a quarter and a release run on with the mark (R139). -/
theorem turnToRest_eq {b : Blocks} {r : TurnRecord} (h : b.trn.record = some r) :
    turnToRest b = { b with trn :=
      if b.trn.state = .gripping then
        { b.trn with state := .releasing, carrying := false, deadline := some (b.clock + 800),
                     record := some { r with restAsked := true, since := b.clock } }
      else if b.trn.state = .turning ∨ b.trn.state = .releasing then
        { b.trn with record := some { r with restAsked := true } }
      else b.trn } := by
  have hrecord : b.trn.record.map (fun r => { r with restAsked := true }) = some { r with restAsked := true } := by
    rw [h, Option.map_some]
  have hasked : turnAskRest b = { b with trn := { b.trn with record := some { r with restAsked := true } } } :=
    congrArg (fun x => { b with trn := { b.trn with record := x } }) hrecord
  by_cases hgrip : b.trn.state = .gripping
  · have hrest : turnToRest b = trnRelease (turnAskRest b) := by simp only [turnToRest, hgrip]
    rw [if_pos hgrip, hrest, hasked]
    rfl
  rw [if_neg hgrip]
  by_cases hruns : b.trn.state = .turning ∨ b.trn.state = .releasing
  · have hrest : turnToRest b = turnAskRest b := by rcases hruns with hruns | hruns <;> simp only [turnToRest, hruns]
    rw [if_pos hruns, hrest, hasked]
  · rw [if_neg hruns]
    simp only [turnToRest]
    split
    case h_1 hs => exact absurd hs hgrip
    case h_2 hs => exact absurd (.inl hs) hruns
    case h_3 hs => exact absurd (.inr hs) hruns
    all_goals rfl

/-- The truncated increment of an interpolation lies between 0 and the whole difference (R80). -/
theorem tdiv_increment {d r : Int} (h0 : 0 ≤ r) (h1 : r < 5000) :
    (0 ≤ d → 0 ≤ Int.tdiv (d * r) 5000 ∧ Int.tdiv (d * r) 5000 ≤ d)
      ∧ (d ≤ 0 → d ≤ Int.tdiv (d * r) 5000 ∧ Int.tdiv (d * r) 5000 ≤ 0) := by
  have key : ∀ e : Int, 0 ≤ e → 0 ≤ Int.tdiv (e * r) 5000 ∧ Int.tdiv (e * r) 5000 ≤ e := by
    intro e he
    have hlo : 0 ≤ e * r := Int.mul_nonneg he h0
    have hhi : e * r ≤ e * 5000 := Int.mul_le_mul_of_nonneg_left h1.le he
    rw [Int.tdiv_eq_ediv_of_nonneg hlo]
    omega
  refine ⟨key d, fun hd => ?_⟩
  obtain ⟨hlo, hhi⟩ := key (-d) (by omega)
  rw [Int.neg_mul, Int.neg_tdiv] at hlo hhi
  omega

/-- A quotient by 10,000 rounded half up is within half of the exact one. -/
theorem roundHalfUp_within (x : Int) : -5000 < 10000 * roundHalfUp x 10000 - x ∧ 10000 * roundHalfUp x 10000 - x ≤ 5000 := by
  simp only [roundHalfUp]
  omega

/-- The same for a quotient by any positive figure. -/
theorem roundHalfUp_within_half (x : Int) {d : Int} (hd : 0 < d) :
    -d < 2 * (d * roundHalfUp x d - x) ∧ 2 * (d * roundHalfUp x d - x) ≤ d := by
  have hpos : 0 < 2 * d := by omega
  have hlo := Int.mul_ediv_self_le (x := 2 * x + d) hpos.ne'
  have hhi := Int.lt_mul_ediv_self_add (x := 2 * x + d) hpos
  simp only [roundHalfUp]
  constructor <;> linarith

/-- A count is the nearest to its length. -/
theorem count_within (e : Int) : -2 ≤ 5 * roundHalfUp e 5 - e ∧ 5 * roundHalfUp e 5 - e ≤ 2 := by
  simp only [roundHalfUp]
  omega

/-- An interpolated value lies between its two points, on either slope. -/
theorem interpolated_between (c c' : Int) {r : Int} (h0 : 0 ≤ r) (h1 : r < 5000) :
    min c c' ≤ c + Int.tdiv ((c' - c) * r) 5000 ∧ c + Int.tdiv ((c' - c) * r) 5000 ≤ max c c' := by
  obtain ⟨hup, hdown⟩ := tdiv_increment (d := c' - c) h0 h1
  rcases le_total c c' with hle | hle
  · have := hup (by omega)
    omega
  · have := hdown (by omega)
    omega

theorem limit_within (p : Int) : 22000 ≤ max 22000 (min 1150000 p) ∧ max 22000 (min 1150000 p) ≤ 1150000
    ∧ (22000 ≤ p → p ≤ 1150000 → max 22000 (min 1150000 p) = p) := by
  omega

theorem corrPoint_of_nonneg {table : List (Option Int)} {j : Int} (h : 0 ≤ j) :
    corrPoint table j = (table[j.toNat]?).join := if_neg (not_lt.mpr h)

/-! ## The steps, and the target of a CUT -/

/-- The base a CALL or a portion's arrival takes, with a block on the table (R37, R25). -/
theorem baseNow_of_block {b : Blocks} {k : Block} (h : b.trk.block = some k) : baseNow b = k.nomDepth := by
  simp only [baseNow, h]

theorem baseTaken_of_block {b : Blocks} {k : Block} (h : b.trk.block = some k) : baseTaken b = b := by
  simp [baseTaken, h]

theorem roomForStrip_iff {waste : Bool} {b : Blocks} :
    roomForStrip waste b = true ↔ if waste then b.trk.queue = [] else b.trk.queue.length < 8 := by
  cases waste <;> simp [roomForStrip, Config.maxPieces]

theorem waitPortion_eq (b : Blocks) :
    waitPortion b = match b.seq.snapshot with
      | some snap => askMove .load snap.loadPosition (waitFor .portion b)
      | none => waitFor .portion b := by
  simp only [waitPortion, loadPosition]
  cases b.seq.snapshot <;> rfl

/-- An abort leaves SEQ IDLE; from RUNNING it brings the units to rest, and from HELD the hold is over (R48, R50). -/
theorem jobAborted_eq (b : Blocks) :
    jobAborted b =
      let idle := raise .sequence { b with
        seq := { b.seq with state := .idle, snapshot := none, stack := [], target := none, run := Running.empty } }
      if b.seq.state = .running then unitsToRest idle else if b.seq.state = .held then raise .hold idle else idle := by
  simp only [jobAborted]
  cases b.seq.state <;> rfl

theorem cutTarget_eq {mode : CutMode} {dim : Um} {b : Blocks} {k : Block} {snap : Snapshot} (hk : b.trk.block = some k)
    (hsnap : b.seq.snapshot = some snap) :
    cutTarget mode dim b =
      let n := nominalTarget mode dim k.nomDepth (baseInForce b)
      if n < 1 ∨ k.nomDepth ≤ n then .inl .dimensionRange
      else match k.orientation with
        | none => .inl .orientationUnknown
        | some o =>
          let s := stretched n (stretchFor snap.stock o)
          if s < 22000 ∨ k.strDepth ≤ s then .inl .dimensionRange
          else
            let p := s + snap.stock.squeeze + knifeTermOf b.cku.knife
            if inTravel p then .inr ⟨n, s, p⟩ else .inl .dimensionRange := by
  simp only [cutTarget, hk, hsnap] <;> rfl

theorem stretchFor_eq (f : StockFigures) (o : Nat) :
    stretchFor f o = if o = 0 ∨ o % 2 = 0 then f.stretchA else f.stretchB := by
  have hzero : o = 0 ∨ o % 2 = 0 ↔ o % 2 = 0 := by omega
  simp only [stretchFor, hzero]

theorem inTravel_iff {p : Um} : inTravel p = true ↔ 22000 ≤ p ∧ p ≤ 1150000 := by
  simp [inTravel, Config.travelFront, Config.travelRear]

/-- The two refusals of a target out of range are one condition: the stretched target in the paper and the physical one in the
travel. -/
theorem ite_target_inRange {α : Type} (s p depth : Um) (refused target : α) :
    (if s < 22000 ∨ depth ≤ s then refused else if inTravel p then target else refused)
      = if 22000 ≤ s ∧ s < depth ∧ 22000 ≤ p ∧ p ≤ 1150000 then target else refused := by
  by_cases hout : s < 22000 ∨ depth ≤ s
  · rw [if_pos hout, if_neg fun hin => hout.elim (not_lt.mpr hin.1) (not_le.mpr hin.2.1)]
  · rw [if_neg hout]
    rw [not_or, not_lt, not_le] at hout
    exact if_congr (inTravel_iff.trans ⟨fun hp => ⟨hout.1, hout.2, hp⟩, fun hall => hall.2.2⟩) rfl rfl

/-! ## The block record -/

/-- The position a manual cut is judged at: the completed target, or the estimate of the encoder reading (R58, R86, log 28). -/
theorem manualPosition_eq (b : Blocks) :
    manualPosition b =
      if b.gax.referenced = true ∧ b.gax.inPosition = true then
        match b.gax.start with | .at p => p | _ => gaxEstimate b
      else gaxEstimate b := by
  cases hreference : b.gax.referenced <;> cases hposition : b.gax.inPosition <;> cases hstart : b.gax.start <;>
    simp [manualPosition, gaxPosition, startingPosition, hreference, hposition, hstart]

theorem inverseStretch_eq (k : Block) (b : Blocks) :
    inverseStretch k b = match b.seq.snapshot, k.orientation with
      | some snap, some o => if o % 2 = 0 then snap.stock.stretchA else snap.stock.stretchB
      | _, _ => 0 := rfl

/-- The update at a programmed cut's BDC (R56). -/
theorem cutBdcUpdate_of_block {waste : Bool} {b : Blocks} {k : Block} {g : CutTarget} (h : b.trk.block = some k)
    (hg : b.seq.target = some g) :
    cutBdcUpdate waste b =
      let cut := setBlock (some (k.afterStrip g.nominal g.stretched)) b
      if waste then setTrk (fun t => { t with trims := addUpTo Config.counterTop t.trims 1 }) cut
      else joinPiece (stripPiece k (some b.seq.run.loc) (k.nomDepth - g.nominal) (k.strDepth - g.stretched)) cut := by
  simp only [cutBdcUpdate, h, hg]

/-- The end of an EJECT push (R63). -/
theorem ejectPiece_of_block {b : Blocks} {k : Block} (h : b.trk.block = some k) :
    ejectPiece b
      = joinPiece { stripPiece k (some b.seq.run.loc) k.nomDepth k.strDepth with kind := .last } (setBlock none b) := by
  simp only [ejectPiece, h]

/-- The update at a manual cut's BDC with a block, by where the cut falls (R58). -/
theorem manualBdcUpdate_of_block {term : Int} {b : Blocks} {k : Block} (h : b.trk.block = some k) :
    manualBdcUpdate term b =
      let str := manualPosition b - term
      let nom := unstretched str (inverseStretch k b)
      if str < k.strDepth then
        joinPiece (stripPiece k none (k.nomDepth - nom) (k.strDepth - str)) (setBlock (some (k.afterStrip nom str)) b)
      else setBlock (some { k with partialCut := false }) b := by
  simp only [manualBdcUpdate, h]

end Sys2Proof.Machine

open Sys2Proof Sys2Proof.Machine

/-- Settles O25: each rounding is a division with a bounded remainder; an interpolated increment is no longer than the slope. -/
theorem gaugeArithmeticRounds : Obligations.GaugeArithmeticRounds := by
  refine ⟨fun n s => roundHalfUp_within _, fun m s hs => roundHalfUp_within_half _ hs, count_within,
    fun table j => ⟨fun h => if_pos h, fun h0 h => ?outside, fun v h0 h => ?point⟩,
    fun table p => ⟨fun h => if_pos h, fun h => ?between⟩,
    fun table p c c' h0 hr hc hc' => ?interpolated, limit_within⟩
  case outside => rw [corrPoint_of_nonneg h0, h, Option.join_none]
  case point => rw [corrPoint_of_nonneg h0, h, Option.join_some]
  case between => exact if_neg h
  case interpolated =>
    have hmod := Int.emod_nonneg p (b := 5000) (by decide)
    have hlt := Int.emod_lt_of_pos p (b := 5000) (by decide)
    refine ⟨c + Int.tdiv ((c' - c) * (p % 5000)) 5000, ?_, interpolated_between c c' hmod hlt⟩
    simp only [correctionAt, if_neg hr, hc, hc']

/-- Settles O20: a hold is `enterHeld` and the rest of the units, each unit's rest by the state it is in. -/
theorem holdCauseTaken : Obligations.HoldCauseTaken := by
  refine ⟨fun s h => (run_asRequest h).trans (next_act_congr s fun b => ?hold), fun c b hrun => ?running, fun b => rfl,
    fun b => ?gauge,
    fun b => ⟨fun hs hm => ?opened, fun hs hup => ?down, fun hs hup => ?up, fun hs => ?stroking, fun hs hr => ?back,
      fun hs => ?releasing, fun hs => ?still⟩,
    fun b => ?release, fun b h => ?noTurn, fun b r hr hasker => ?turn, fun c b h => holdCause_of_held c h,
    fun c b hrun hheld => holdCause_of_other c ?other⟩
  case hold => simp only [jobHoldRequest, jobUnderWay_iff]
  case running =>
    rw [holdCause_of_running c hrun]
    have htold := seqTold_unitsToRest (enterHeld c b)
    simp only [seqTold, Prod.mk.injEq] at htold
    obtain ⟨⟨hstate, hsnapshot, hstack, hhold⟩, hflag, hsequence⟩ := htold
    exact ⟨hstate, hhold, hsnapshot, hstack, hflag, hsequence, gax_pending_unitsToRest _, trn_pending_unitsToRest _, rfl⟩
  case gauge =>
    cases hmove : b.gax.move with
    | none => exact if_neg (by simp [moveInFlight, hmove])
    | some m =>
      by_cases hflight : m.completed = none ∧ m.asker = .seq
      · refine (if_pos ?_).trans (if_pos hflight).symm
        simp [moveInFlight, moveAsker, hmove, hflight]
      · refine (if_neg ?_).trans (if_neg hflight).symm
        simpa [moveInFlight, moveAsker, hmove] using hflight
  case opened =>
    rw [ckuToRest_eq_ckuRest (.inl hs)]
    simp only [ckuRest, hs, hm, Bool.false_eq_true, ↓reduceIte]
    rw [← hs]
    rfl
  case down =>
    have hrest : ckuRest b = flapClose (ckuRelease (askRest b)) := by rcases hs with hs | hs <;> simp only [ckuRest, hs]
    rw [ckuRelease_of_down (by exact hup)] at hrest
    rw [ckuToRest_eq_ckuRest (.inr (by simp [hrest, cku_state_flapClose])), hrest]
    rfl
  case up =>
    have hrest : ckuRest b = flapClose (ckuOpened (askRest b)) := by
      rcases hs with hs | hs <;> simp only [ckuRest, hs] <;> exact congrArg flapClose (ckuRelease_of_up hup)
    have hopened : b.cku.state ≠ .open_ ∧ (ckuRest b).cku.state = .open_ := by
      rw [hrest, cku_state_flapClose, cku_state_ckuOpened]
      rcases hs with hs | hs <;> simp [hs]
    rw [ckuToRest, if_pos hopened, hrest]
    rfl
  case stroking =>
    have hrest : ckuRest b = reverse .rest (askRest b) := by simp only [ckuRest, hs]
    rw [ckuToRest_eq_ckuRest (.inr (by rw [hrest]; exact nofun)), hrest]
    rfl
  case back =>
    have hrest : ckuRest b = askRest b := by rcases hs with hs | hs <;> simp [ckuRest, hs, hr]
    rw [ckuToRest_eq_ckuRest (.inr (by rw [hrest]; rcases hs with hs | hs <;> simp [askRest, hs])), hrest]
    rfl
  case releasing =>
    have hrest : ckuRest b = flapClose (askRest b) := by simp only [ckuRest, hs]
    rw [ckuToRest_eq_ckuRest (.inr (by simp [hrest, cku_state_flapClose, askRest, hs])), hrest]
    rfl
  case still =>
    have hrest : ckuRest b = b := by rcases hs with hs | hs <;> simp only [ckuRest, hs]
    rw [ckuToRest_eq_ckuRest (.inr (by rw [hrest]; rcases hs with hs | hs <;> simp [hs])), hrest]
  case release =>
    simp only [heldRelease]
    by_cases hdone : b.seq.state = .held ∧ (b.seq.run.phase = .returning ∨ b.seq.run.phase = .release)
    · rw [if_pos hdone, if_pos hdone]
      by_cases hleft : b.seq.run.cutsLeft - 1 = 0
      · rw [if_pos hleft, if_pos hleft]
        rfl
      · rw [if_neg hleft, if_neg hleft]
        rfl
    · rw [if_neg hdone, if_neg hdone]
  case noTurn =>
    refine if_neg ?_
    cases hr : b.trn.record with
    | none => simp [turnAsker, hr]
    | some r => simpa [turnAsker, hr] using h r hr
  case turn =>
    have hturn : turnAsker b = some .seq := by simp [turnAsker, hr, hasker]
    rw [trnRest, if_pos hturn, turnToRest_eq (r := r)]
    · rfl
    · exact hr
  case other =>
    cases hs : b.seq.state <;> first | exact absurd hs (by assumption) | simp

/-- Settles O21: the conditions of R46 are `resumeConditions`; the resumption point by the phase and the step. -/
theorem jobResumeJudged : Obligations.JobResumeJudged := by
  refine ⟨fun s h => (run_asRequest h).trans (next_act_congr s fun b => ?request), fun b h => if_pos h, fun b h =>
    ⟨fun hp => ?none, fun hp => ?flap, fun hp => ?load, fun hp hstep => ?push, fun q hp hstep => ?turn,
      fun m n w d o hp hstep => ?cut⟩⟩
  case request =>
    have hresume : (!resumeConditions b) = true ↔ ¬ (b.msu.estop = .chainOk ∧ b.gax.referenced = true
        ∧ b.gax.state = .standstill ∧ b.cku.state = .open_ ∧ b.inputs.upperStop = true ∧ b.inputs.tdc = true
        ∧ b.trn.state = .parked) := by
      simp only [resumeConditions, chainOk, Bool.not_eq_true', ← Bool.not_eq_true, Bool.and_eq_true, beq_iff_eq, and_assoc]
    simp only [jobResumeRequest, hresume]
    rfl
  case none => simp only [resumeStep, if_neg h, hp]
  case flap =>
    conv_lhs => simp only [resumeStep, if_neg h, hp]
    rfl
  case load =>
    conv_lhs => simp only [resumeStep, if_neg h, hp]
    rfl
  case push =>
    conv_lhs => simp only [resumeStep, if_neg h, hp, hstep]
    rfl
  case turn =>
    rcases hp with hp | hp
    all_goals
      conv_lhs => simp only [resumeStep, if_neg h, hp, hstep]
      rfl
  case cut =>
    have hcut : resumeStep b = recompute (setRun (fun r => { r with wait := .none }) b) := by
      rcases hp with hp | hp | hp | hp | hp | hp | hp | hp <;> simp only [resumeStep, if_neg h, hp, hstep]
    exact hcut.trans (recompute_of_cut hstep)

/-- Settles O22: each request by its order; SEQ's start, abort and arrival by their equations. -/
theorem jobStartAbortContinueJudged : Obligations.JobStartAbortContinueJudged := by
  refine ⟨fun s h => (run_asRequest h).trans (next_act_congr s fun b => ?start),
    fun s h => (run_asRequest h).trans (next_act_congr s fun b => ?abort), fun s h => run_asRequest h,
    fun b k hblock hrun hwait => ?arrival, fun b h => ?stays, fun b snap h => ?portion⟩
  case start =>
    simp only [jobStartRequest, Option.isSome_iff_ne_none, jobStarted, waitPortion_eq]
    rfl
  case abort =>
    simp only [jobAbortRequest, jobAborted_eq]
  case arrival =>
    rw [portionArrival, if_pos ⟨hrun, hwait⟩, baseNow_of_block hblock, baseTaken_of_block (k := k)]
    · rfl
    · exact hblock
  case stays => exact if_neg (by tauto)
  case portion =>
    conv_lhs => rw [waitPortion_eq, h]
    rfl

/-- Settles O23: one case per kind of step, and the base of a CALL and a RETURN with a block on the table. -/
theorem callReturnSkip : Obligations.CallReturnSkip := by
  refine ⟨fun b => rfl, fun n b p hp => ⟨fun c hc => ?_, fun hc => ?_⟩, fun operand b => ⟨?_, ?_, ?_, ?_, ?_, ?_⟩,
    fun b p => ⟨?_, ?_, ?_, ?_, ?_⟩, fun q b => ?_, fun b => ?_, fun b => ⟨?_, ?_, ?_, ?_, ?_⟩⟩
  · simp only [takeSteps, hp, hc]
  · simp only [takeSteps, hp, hc]
  · cases h : b.trk.block <;> simp [skipHolds, h]
  · cases h : b.trk.block <;> simp [skipHolds, h]
  · rcases h : b.trk.block with - | k
    · simp [skipHolds, h]
    · cases ho : k.orientation <;> simp [skipHolds, h, ho]
  · simp [skipHolds]
  · simp [skipHolds]
  · simp [skipHolds]
  · rintro m n w d o rfl; exact ⟨rfl, rfl⟩
  · rintro q rfl; exact ⟨rfl, rfl⟩
  · rintro rfl; exact ⟨rfl, rfl⟩
  · rintro q rfl; exact ⟨rfl, rfl⟩
  · rintro rfl; exact ⟨rfl, rfl⟩
  · simp only [turnTaken, Bool.not_eq_true', gaugeBelowClearance]
    rfl
  · simp only [ejectTaken, Option.isNone_iff_eq_none]
    rfl
  · intro k sub count own hk hroom
    rw [instantStep, if_pos hroom, pushFrame, baseNow_of_block hk, baseTaken_of_block (k := k)]
    · cases own <;> rfl
    · exact hk
  · intro sub count own hroom
    exact ⟨if_neg hroom, rfl⟩
  · intro k f rest hk hstack hrep
    have hrepeats : instantStep .ret b = some (returnFrame f rest b) := by simp only [instantStep, hstack]
    rw [hrepeats, returnFrame, if_pos hrep, baseNow_of_block hk, baseTaken_of_block (k := k)]
    · rfl
    · exact hk
  · intro f rest hstack hrep
    have hpops : instantStep .ret b = some (returnFrame f rest b) := by simp only [instantStep, hstack]
    rw [hpops, returnFrame, if_neg (by omega)]
    rfl
  · intro cond operand; rfl

/-- Settles O24: COMPUTE by the outcome of `cutTarget`, and its stages by `cutTarget_eq` and `ite_target_inRange`. -/
theorem cutTargetStages : Obligations.CutTargetStages := by
  refine ⟨fun mode waste dim b => ⟨fun cause h => ?refused, fun g h hroom => ?full, fun g h hroom => ?asked⟩,
    fun mode dim b h => ?noBlock, fun mode dim b k snap hk hsnap => ?stages⟩
  case refused =>
    simp only [computeCut, h]
    rfl
  case full =>
    simp only [computeCut, h]
    exact if_neg (mt roomForStrip_iff.mp hroom)
  case asked =>
    simp only [computeCut, h]
    exact if_pos (roomForStrip_iff.mpr hroom)
  case noBlock => simp only [cutTarget, h]
  case stages =>
    intro n
    have hn : nominalTarget mode dim k.nomDepth (baseInForce b) = n := by cases mode <;> rfl
    rw [cutTarget_eq hk hsnap, hn]
    refine ⟨fun hout => if_pos hout, fun hlo hhi ho => ?unknown, fun o hlo hhi ho => ?target⟩
    case unknown =>
      simp only [ho]
      exact if_neg (not_or.mpr ⟨not_lt.mpr hlo, not_le.mpr hhi⟩)
    case target =>
      simp only [ho, if_neg (not_or.mpr ⟨not_lt.mpr hlo, not_le.mpr hhi⟩), stretchFor_eq]
      exact ite_target_inRange _ _ _ _ _

/-- Settles O28: an arrival where JOG is transferring, else paper without a record. -/
theorem backTableSensor : Obligations.BackTableSensor := by
  intro s
  refine next_act_congr s fun b => ?_
  simp only [backTableCovered]
  by_cases hmoves : b.jog.state = .transferring
  · rw [if_pos hmoves, if_pos hmoves]
    cases b.jog.figures <;> rfl
  · rw [if_neg hmoves, if_neg hmoves]
    by_cases hblock : b.trk.block = none
    · rw [if_pos hblock, if_neg (by simp [hblock])]
      rfl
    · rw [if_neg hblock, if_pos (Option.isSome_iff_ne_none.mpr hblock)]
      rfl

/-- Settles O29: each update by its equation with a block on the table. -/
theorem blockRecordUpdates : Obligations.BlockRecordUpdates := by
  refine ⟨fun term b h => ?none, fun e => ⟨rfl, rfl, rfl, rfl⟩, fun n => rfl,
    fun b k h => ⟨fun g waste hg => ?cut, ?quarter, ?eject, fun term => ?manual, ?lost, ?marked⟩⟩
  case none => simp only [manualBdcUpdate, h]
  case cut =>
    rw [cutBdcUpdate_of_block h hg]
    rfl
  case quarter =>
    rw [quarterUpdate, h, Option.map_some, Block.quarter]
    cases k.axis <;> rfl
  case eject =>
    rw [ejectPiece_of_block h]
    rfl
  case manual =>
    rw [manualBdcUpdate_of_block h, manualPosition_eq]
    rfl
  case lost => rw [orientationLost, h]; rfl
  case marked => rw [markPartialCut, h]; rfl

end

section
/-! SUPPORT. The Gauge Axis (chapter 05): the homing run, the beginning of a move, its profile and its in-position
test, the commanded stop, and the faults. -/

set_option Elab.async false

namespace Sys2Proof.Machine

open Sys2Proof

/-! ## The homing run -/

theorem gaxInMotion_iff {b : Blocks} :
    gaxInMotion b = true ↔ b.gax.state = .homing ∨ b.gax.state = .moving ∨ b.gax.state = .settling := by
  simp [gaxInMotion, or_assoc]

/-- The conditions before motion (R92). -/
theorem moveConditions_iff {b : Blocks} :
    moveConditions b = true ↔ b.inputs.upperStop = true ∧ b.trn.state = .parked ∧ b.msu.estop = .chainOk := by
  simp [moveConditions, chainOk, and_assoc]

theorem moveConditions_eq_false_iff {b : Blocks} :
    moveConditions b = false ↔ b.inputs.upperStop = false ∨ b.trn.state ≠ .parked ∨ b.msu.estop ≠ .chainOk := by
  rw [← Bool.not_eq_true, moveConditions_iff, not_and_or, not_and_or, Bool.not_eq_true]

/-! ## What the watch of a transfer touches -/

/-- The watch of a transfer touches JOG and the flag FEED alone (R162). -/
@[simp] theorem jogWatch_keeps (b : Blocks) : (jogWatch b).inputs = b.inputs ∧ (jogWatch b).msu = b.msu
    ∧ (jogWatch b).seq = b.seq ∧ (jogWatch b).trk = b.trk ∧ (jogWatch b).gax = b.gax ∧ (jogWatch b).cku = b.cku
    ∧ (jogWatch b).trn = b.trn ∧ (jogWatch b).lft = b.lft ∧ (jogWatch b).lib = b.lib ∧ (jogWatch b).clock = b.clock
    ∧ (jogWatch b).lnk.flags.gauge = b.lnk.flags.gauge := by
  simp only [jogWatch, jogFault]
  repeat' split
  all_goals exact ⟨rfl, rfl, rfl, rfl, rfl, rfl, rfl, rfl, rfl, rfl, rfl⟩

/-- With the gauge away from STANDSTILL a transfer faults (R162). -/
theorem jogWatch_of_moving {b : Blocks} (h : b.gax.state ≠ .standstill) :
    jogWatch b = if b.jog.state = .transferring then
        raise .feed { b with jog := { b.jog with
          state := .fault, fault := some .interlockLost, record := none, figures := none, resetting := false,
          deadline := none, suspended := none } }
      else b := by
  by_cases htransfer : b.jog.state = .transferring
  · rw [if_pos htransfer, jogWatch, if_pos ⟨htransfer, fun hall => h hall.1⟩, jogFault, if_neg (by simp [htransfer])]
    rfl
  · rw [if_neg htransfer, jogWatch, if_neg fun hall => htransfer hall.1]

/-! ## A move begins -/

/-- The axis as a move begins (R94). -/
theorem gax_gaxBegin (kind : MoveKind) (asker : MoveAsker) (p : Um) (clamped : Bool) (start : Um) (b : Blocks) :
    let m := moveRecord kind asker p clamped start b
    let moves : Bool := p != start
    let homing : Bool := kind == .homeFinal
    (gaxBegin kind asker p clamped start b).gax = { b.gax with
      state := if homing then .homing else if moves then .moving else .settling,
      finalSettling := homing && !moves, inPosition := false, move := some m, stopping := false, pending := none,
      driveCount := if moves then some m.legCount else b.gax.driveCount,
      deadline := some (b.clock + if moves then m.moveTime else 400),
      bandFrom := if moves then b.gax.bandFrom else some b.clock } := by
  simp only [gaxBegin, jogWatch_keeps, gax_raiseIf, gax_setGax, after]

/-- A move that begins touches GAX, a transfer under way, and the flags GAUGE and FEED alone. -/
theorem gaxBegin_keeps (kind : MoveKind) (asker : MoveAsker) (p : Um) (clamped : Bool) (start : Um) (b : Blocks) :
    let c := gaxBegin kind asker p clamped start b
    c.inputs = b.inputs ∧ c.seq = b.seq ∧ c.trk = b.trk ∧ c.cku = b.cku ∧ c.trn = b.trn
      ∧ ((moveRecord kind asker p clamped start b).uncorrected = true → c.lnk.flags.gauge = true) := by
  simp only [gaxBegin, jogWatch_keeps, inputs_raiseIf, seq_raiseIf, trk_raiseIf, cku_raiseIf, trn_raiseIf, inputs_setGax,
    seq_setGax, trk_setGax, cku_setGax, trn_setGax, true_and]
  intro h
  rw [h]
  rfl

/-- The move record of the FINAL move of a homing run, from the mark to the rear end (R90). -/
theorem moveRecord_homeFinal (b : Blocks) :
    let corr := (corrPoint b.gax.table 230).getD 0
    moveRecord .homeFinal .homing Config.travelRear false Config.referenceMark b =
      { kind := .homeFinal, asker := .homing, target := 1150000, corr := corr,
        uncorrected := (corrPoint b.gax.table 230).isNone, encoderTarget := 1150000 + corr,
        countTarget := countOf (1150000 + corr), clamped := false, approach := .direct, overshoot := none, leg := .final,
        start := 1155000, moveTime := 810, completed := none } := rfl

/-- The block at the mark, before the FINAL move begins (R81, R90). -/
def atMark (b : Blocks) : Blocks :=
  { b with inputs := { b.inputs with encoder := referenceCount b.gax.table, referenceSwitch := true },
           gax := { b.gax with homing := .final, referenced := true, start := .at Config.referenceMark } }

/-- The axis after the mark: the FINAL move, which carries the UNCORRECTED mark of points 230 and 231 (R81, R90). -/
theorem gax_gaxReference (b : Blocks) :
    let m := moveRecord .homeFinal .homing Config.travelRear false Config.referenceMark (atMark b)
    (gaxReference b).gax = { b.gax with
      homing := .final, referenced := true, start := .at Config.referenceMark, state := .homing, finalSettling := false,
      inPosition := false, stopping := false, pending := none,
      move := some { m with uncorrected := m.uncorrected || (corrPoint b.gax.table 231).isNone },
      driveCount := some m.legCount, deadline := some (b.clock + m.moveTime) } := by
  simp only [gaxReference, gax_raiseIf, gax_setGax, gax_gaxBegin]
  rfl

theorem gaxReference_keeps (b : Blocks) :
    let c := gaxReference b
    c.inputs = { b.inputs with encoder := referenceCount b.gax.table, referenceSwitch := true }
      ∧ c.seq = b.seq ∧ c.trk = b.trk ∧ c.cku = b.cku
      ∧ (corrPoint b.gax.table 230 = none ∨ corrPoint b.gax.table 231 = none → c.lnk.flags.gauge = true) := by
  obtain ⟨hinputs, hseq, htrk, hcku, -, hflag⟩ :=
    gaxBegin_keeps .homeFinal .homing Config.travelRear false Config.referenceMark (atMark b)
  refine ⟨(inputs_raiseIf _ _ _).trans hinputs, (seq_raiseIf _ _ _).trans hseq, (trk_raiseIf _ _ _).trans htrk,
    (cku_raiseIf _ _ _).trans hcku, fun hlost => ?_⟩
  cases hmark : corrPoint b.gax.table 231 with
  | none =>
    simp only [gaxReference, hmark]
    rfl
  | some v =>
    have hrear : corrPoint b.gax.table 230 = none := hlost.resolve_right (by simp [hmark])
    have hflagged := hflag (congrArg Option.isNone hrear)
    simp only [gaxReference, hmark, Option.isNone_some, raiseIf, Bool.false_eq_true, if_false]
    exact hflagged

/-! ## A move begins -/

theorem limitToTravel_eq (p : Int) :
    limitToTravel p = if p < 22000 then 22000 else if 1150000 < p then 1150000 else p := by
  have hlimits : max (22000 : Int) (min 1150000 p) = if p < 22000 then 22000 else if 1150000 < p then 1150000 else p := by
    omega
  exact hlimits

theorem bne_eq_decide_ne (p q : Int) : (p != q) = decide (p ≠ q) := by
  by_cases h : p = q <;> simp [h]

/-! ## The record of a move -/

section
variable {kind : MoveKind} {start p : Int}

theorem overshootOf_of_forward (h : ¬ start < p) : overshootOf kind start p = none := if_neg fun hall => h hall.2

theorem overshootOf_of_direct (h : kind.isDirect = true) : overshootOf kind start p = none :=
  if_neg fun hall => by simp [h] at hall

theorem overshootOf_of_rearward (hkind : kind = .cut ∨ kind = .jog) (h : start < p) :
    overshootOf kind start p = some (min 1150000 (p + 3000)) :=
  if_pos ⟨by rcases hkind with rfl | rfl <;> rfl, h⟩

theorem approachOf_of_forward (hkind : kind = .cut ∨ kind = .jog) (h : ¬ start < p) : approachOf kind start p = .forward := by
  rcases hkind with rfl | rfl <;> exact if_neg h

theorem approachOf_of_rearward (hkind : kind = .cut ∨ kind = .jog) (h : start < p) : approachOf kind start p = .rearward := by
  rcases hkind with rfl | rfl <;> exact if_pos h

theorem isDirect_of_ne (hcut : kind ≠ .cut) (hjog : kind ≠ .jog) : kind.isDirect = true := by
  cases kind <;> first | rfl | contradiction

end

/-- The first leg, by the overshoot point that the record holds (R83, R94). -/
theorem leg_moveRecord (kind : MoveKind) (asker : MoveAsker) (p : Um) (clamped : Bool) (start : Um) (b : Blocks) :
    (moveRecord kind asker p clamped start b).leg =
      match (moveRecord kind asker p clamped start b).overshoot with
      | some o => if o.pos = p then .final else .overshoot
      | none => .final := by
  unfold moveRecord firstLeg
  cases overshootOf kind start p <;> rfl

theorem some_legCount (m : MoveRecord) :
    some m.legCount = match m.leg, m.overshoot with
      | .overshoot, some o => some o.count
      | _, _ => some m.countTarget := by
  unfold MoveRecord.legCount
  rcases m.leg with _ | _ <;> rcases m.overshoot with _ | o <;> rfl

/-- A move that begins takes the axis out of STANDSTILL (R94). -/
theorem state_gaxBegin_ne (kind : MoveKind) (asker : MoveAsker) (p : Um) (clamped : Bool) (start : Um) (b : Blocks) :
    (gaxBegin kind asker p clamped start b).gax.state ≠ .standstill := by
  rw [gax_gaxBegin]
  dsimp only
  cases kind == .homeFinal
  · cases p != start <;> exact nofun
  · exact nofun

/-- The beginning of a move but for the axis itself: notice GAUGE with an UNCORRECTED record, and the end of a transfer that
it interrupts (R81, R106, R162). -/
theorem gaxBegin_eq (kind : MoveKind) (asker : MoveAsker) (p : Um) (clamped : Bool) (start : Um) (b : Blocks) :
    gaxBegin kind asker p clamped start b =
      (let begun : Blocks := { b with gax := (gaxBegin kind asker p clamped start b).gax }
       let told : Blocks := if (moveRecord kind asker p clamped start b).uncorrected then raise .gauge begun else begun
       if b.jog.state = .transferring then
         raise .feed { told with jog := { b.jog with
           state := .fault, fault := some .interlockLost, record := none, figures := none, resetting := false,
           deadline := none, suspended := none } }
       else told) := by
  rw [gax_gaxBegin]
  have hmoving := state_gaxBegin_ne kind asker p clamped start b
  simp only [gaxBegin, jogWatch_keeps] at hmoving
  refine (jogWatch_of_moving hmoving).trans ?_
  cases (moveRecord kind asker p clamped start b).uncorrected <;> rfl

/-! ## What SEQ asks of GAX -/

section
variable {kind : MoveKind} {p : Um} {b : Blocks}

theorem askMove_of_unable (h : b.gax.state = .unreferenced ∨ b.gax.state = .homing ∨ b.gax.state = .fault) :
    askMove kind p b = holdCause .gaugeFault b := by
  rcases h with h | h | h <;> simp only [askMove, h]

theorem askMove_of_standstill {start : Um} (h : b.gax.state = .standstill) (hstart : startingPosition b = some start) :
    askMove kind p b =
      if moveConditions b = true then gaxBegin kind .seq p false start b
      else { b with gax := { b.gax with pending := some ⟨kind, p⟩ } } := by
  conv_lhs => simp only [askMove, h, hstart]
  rfl

theorem askMove_of_moving (h : b.gax.state = .moving ∨ b.gax.state = .settling) :
    askMove kind p b =
      if moveInFlight b = true ∧ moveAsker b = some .seq then
        { gaxStop b with gax := { (gaxStop b).gax with pending := some ⟨kind, p⟩ } }
      else { b with gax := { b.gax with pending := some ⟨kind, p⟩ } } := by
  rcases h with h | h
  · conv_lhs => simp only [askMove, h]
    rfl
  · conv_lhs => simp only [askMove, h]
    rfl

end

/-! ## The position -/

theorem gaxStandsAt_iff {p : Um} {b : Blocks} :
    gaxStandsAt p b = true ↔ b.gax.state = .standstill ∧ b.gax.referenced = true ∧ ∃ q, gaxPosition b = some q ∧ p ≤ q := by
  unfold gaxStandsAt
  cases gaxPosition b <;> simp [and_assoc]

theorem gaxPosition_of_unreferenced {b : Blocks} (h : b.gax.referenced = false) : gaxPosition b = none := by
  simp [gaxPosition, h]

theorem gaxPosition_of_inPosition {b : Blocks} (h : b.gax.referenced = true) (hin : b.gax.inPosition = true) :
    gaxPosition b = startingPosition b := by
  simp [gaxPosition, h, hin]

theorem gaxPosition_of_estimate {b : Blocks} (h : b.gax.referenced = true) (hin : b.gax.inPosition = false) :
    gaxPosition b = some (gaxEstimate b) := by
  simp [gaxPosition, h, hin]

theorem gaxEstimate_eq (b : Blocks) :
    gaxEstimate b = 5 * b.inputs.encoder -
      (match correctionAt b.gax.table (5 * b.inputs.encoder) with | some c => c | none => 0) := by
  unfold gaxEstimate estimateAt
  cases correctionAt b.gax.table (5 * b.inputs.encoder) <;> rfl

/-! ## The drive at the end of a profile -/

/-- The FINAL move of a homing run settles in HOMING (R90). -/
theorem gaxSettle_of_homing {b : Blocks} (h : b.gax.state = .homing) :
    gaxSettle b = { b with gax := { b.gax with
      finalSettling := true, deadline := some (b.clock + 400), bandFrom := some b.clock } } := by
  simp [gaxSettle, setGax, after, h, Config.settleMs]

theorem gaxSettle_of_moving {b : Blocks} (h : b.gax.state = .moving) :
    gaxSettle b = { b with gax := { b.gax with
      state := .settling, finalSettling := false, deadline := some (b.clock + 400), bandFrom := some b.clock } } := by
  simp [gaxSettle, setGax, after, h, Config.settleMs]

theorem profileComplete_eq (n : Int) (b : Blocks) :
    profileComplete n b =
      (let read := { b with inputs := { b.inputs with encoder := n } }
       if b.gax.stopping then gaxStopped read
       else
         match b.gax.state, b.gax.move with
         | .moving, some m =>
           if m.leg = .overshoot then
             { read with gax := { b.gax with move := some { m with leg := .final }, driveCount := some m.countTarget } }
           else
             { read with gax := { b.gax with
               state := .settling, finalSettling := false, deadline := some (b.clock + 400), bandFrom := some b.clock } }
         | .homing, _ =>
           if b.gax.homing = .final ∧ b.gax.finalSettling = false then
             { read with gax := { b.gax with
               finalSettling := true, deadline := some (b.clock + 400), bandFrom := some b.clock } }
           else read
         | _, _ => read) := by
  unfold profileComplete
  refine if_congr Iff.rfl rfl ?_
  cases hstate : b.gax.state
  case moving =>
    cases b.gax.move with
    | none => rfl
    | some m =>
      refine if_congr Iff.rfl rfl ?_
      exact gaxSettle_of_moving hstate
  case homing => exact if_congr Iff.rfl (gaxSettle_of_homing hstate) rfl
  all_goals rfl

/-! ## The in-position test -/

theorem inBand_eq_decide {n : Int} {b : Blocks} {m : MoveRecord} (hm : b.gax.move = some m) :
    inBand n b = decide (n - m.countTarget ≤ 2 ∧ m.countTarget - n ≤ 2) := by
  have htarget : countTarget b = m.countTarget := by rw [countTarget_eq, hm]
  have hband : |n - m.countTarget| ≤ 2 ↔ n - m.countTarget ≤ 2 ∧ m.countTarget - n ≤ 2 := by
    rw [abs_le]
    omega
  rw [inBand, htarget]
  exact decide_eq_decide.mpr hband

theorem not_inBand_iff {n t : Int} {b : Blocks} (ht : countTarget b = t) :
    inBand n b = false ↔ 2 < n - t ∨ 2 < t - n := by
  rw [inBand_eq_false_iff, ht, lt_abs]
  omega

theorem bandTimeFits_iff {t : Ms} {b : Blocks} : bandTimeFits t b = true ↔ ∀ d, b.gax.deadline = some d → t + 60 ≤ d := by
  unfold bandTimeFits
  cases b.gax.deadline <;> simp [Config.bandMs]

theorem inPosition_eq (n : Int) (b : Blocks) :
    inPosition n b =
      match b.gax.move, b.gax.bandFrom with
      | some m, some t =>
        let near (x : Int) : Bool := decide (x - m.countTarget ≤ 2 ∧ m.countTarget - x ≤ 2)
        if ¬ ((b.gax.state = .settling ∨ (b.gax.state = .homing ∧ b.gax.finalSettling = true)) ∧ near n = true) then b
        else if near b.inputs.encoder = false then
          { b with inputs := { b.inputs with encoder := n }, gax := { b.gax with bandFrom := some b.clock } }
        else if (∀ d, b.gax.deadline = some d → t + 60 ≤ d) then
          let stands := { b with
            clock := max b.clock (t + 60),
            inputs := { b.inputs with encoder := n },
            gax := { b.gax with state := .standstill, finalSettling := false, inPosition := true, start := .at m.target,
                                move := some { m with completed := some true }, deadline := none } }
          if m.asker = .seq then seqInPosition m.kind stands else raise .gauge stands
        else b
      | _, _ => b := by
  unfold inPosition
  cases hm : b.gax.move with
  | none => rfl
  | some m =>
    cases b.gax.bandFrom with
    | none => rfl
    | some t =>
      simp only [← inBand_eq_decide hm, ← settlingNow_iff, ← bandTimeFits_iff, ite_not, ← Bool.not_eq_true]
      rfl

/-- A reading, `t` the count target of the last move, and the band about it (R96). -/
theorem encoderOutOfBand_of_target {t : Int} (n : Int) {b : Blocks} (ht : countTarget b = t) :
    encoderOutOfBand n b =
      (let read := { b with inputs := { b.inputs with encoder := n } }
       if b.gax.state = .standstill ∧ b.gax.inPosition = true ∧ (2 < n - t ∨ 2 < t - n) then
         raise .gauge { read with gax := { b.gax with inPosition := false, start := .estimate } }
       else if (b.gax.state = .settling ∨ (b.gax.state = .homing ∧ b.gax.finalSettling = true))
           ∧ (2 < n - t ∨ 2 < t - n) then
         { read with gax := { b.gax with bandFrom := some b.clock } }
       else read) := by
  simp only [← not_inBand_iff ht, ← settlingNow_iff]
  unfold encoderOutOfBand
  cases inBand n b
  · simp only [and_true]
    rfl
  · simp only [reduceCtorEq, and_false, if_false]
    rfl

/-! ## A commanded stop -/

theorem restartStop_iff {b : Blocks} : restartStop b = true ↔ b.gax.stopping = true ∧ b.msu.phase ≠ .ended := by
  simp [restartStop]

theorem chainOk_eq_decide (b : Blocks) : chainOk b = decide (b.msu.estop = .chainOk) := rfl

/-- The move record in flight becomes void (R100). -/
theorem map_voided (b : Blocks) :
    b.gax.move.map MoveRecord.voided =
      b.gax.move.map fun m => if m.completed = none then { m with completed := some false } else m := rfl

theorem gaxStopped_eq (b : Blocks) :
    gaxStopped b = raise .gauge { b with gax :=
      if b.gax.stopping = true ∧ b.msu.phase ≠ .ended then
        { Gax.atReset with table := b.gax.table, drive := decide (b.msu.estop = .chainOk) }
      else
        { b.gax with
          state := if b.gax.referenced then .standstill else .unreferenced,
          start := if b.gax.referenced then .estimate else .none, move := b.gax.move.map MoveRecord.voided,
          inPosition := false, stopping := false, finalSettling := false, deadline := none } } := by
  unfold gaxStopped
  by_cases hrestart : restartStop b = true
  · rw [if_pos hrestart, if_pos (restartStop_iff.mp hrestart)]
    rfl
  · rw [if_neg hrestart, if_neg (mt restartStop_iff.mpr hrestart)]
    rfl

theorem gaxStop_of_moving {b : Blocks} (h : b.gax.state = .moving) :
    gaxStop b = if b.gax.stopping then b else gaxDecelerate b := by
  simp only [gaxStop, h]

theorem gaxStop_of_settling {b : Blocks} (h : b.gax.state = .settling) : gaxStop b = gaxStopped b := by
  simp only [gaxStop, h]

theorem gaxStop_of_homing {b : Blocks} (h : b.gax.state = .homing) :
    gaxStop b = if b.gax.stopping then b else if b.gax.finalSettling then gaxStopped b else gaxDecelerate b := by
  simp only [gaxStop, h]

theorem gaxStop_of_still {b : Blocks}
    (h : b.gax.state = .unreferenced ∨ b.gax.state = .standstill ∨ b.gax.state = .fault) : gaxStop b = b := by
  rcases h with h | h | h <;> simp only [gaxStop, h]

/-! ## SEQ's moves in position -/

section
variable {b : Blocks}

theorem cutPressure_eq (own : Option Nat) (b : Blocks) :
    cutPressure own b =
      match own, b.seq.run.override, b.seq.snapshot with
      | some p, _, _ => p
      | none, some p, _ => p
      | none, none, some snap => snap.stock.clampPressure
      | none, none, none => 0 := by
  unfold cutPressure
  rcases own with _ | p
  · rcases b.seq.run.override with _ | q
    · rcases b.seq.snapshot with _ | snap <;> rfl
    · rfl
  · rfl

theorem seqInPosition_of_cut {m : CutMode} {n : Nat} {w : Bool} {d : Um} {own : Option Nat} (hrun : b.seq.state = .running)
    (hphase : b.seq.run.phase = .position) (hstep : currentStep b = some (.cut m n w d own)) :
    seqInPosition .cut b = askClamp (cutPressure own b) w (enterPhase .clamp .unit b) := by
  simp only [seqInPosition, hrun, hphase, hstep]

theorem seqInPosition_of_clearance (hrun : b.seq.state = .running) (hphase : b.seq.run.phase = .clearance) :
    seqInPosition .clearance b = turnPhase b := by
  simp only [seqInPosition, hrun, hphase]

theorem seqInPosition_of_push (hrun : b.seq.state = .running) (hphase : b.seq.run.phase = .push) :
    seqInPosition .push b = ejectLoad (ejectPiece b) := by
  simp only [seqInPosition, hrun, hphase]

theorem seqInPosition_of_load (hrun : b.seq.state = .running) (hphase : b.seq.run.phase = .load) :
    seqInPosition .load b = nextStep b := by
  simp only [seqInPosition, hrun, hphase]

theorem seqInPosition_of_heldPush (hheld : b.seq.state = .held) (hphase : b.seq.run.phase = .push) :
    seqInPosition .push b = setRun (fun r => { r with phase := .load }) (ejectPiece b) := by
  simp only [seqInPosition, hheld, hphase]

/-- A move in position on which SEQ does not wait is no step of its (R29, R34, R35, R44). -/
theorem seqInPosition_of_other {kind : MoveKind}
    (h : b.seq.state = .running →
      ¬ ((kind = .cut ∧ b.seq.run.phase = .position) ∨ (kind = .clearance ∧ b.seq.run.phase = .clearance)
        ∨ (kind = .push ∧ b.seq.run.phase = .push) ∨ (kind = .load ∧ b.seq.run.phase = .load)))
    (hheld : ¬ (b.seq.state = .held ∧ kind = .push ∧ b.seq.run.phase = .push)) : seqInPosition kind b = b := by
  unfold seqInPosition
  split
  case h_1 hrun hphase => exact absurd (.inl ⟨rfl, hphase⟩) (h hrun)
  case h_2 hrun hphase => exact absurd (.inr (.inl ⟨rfl, hphase⟩)) (h hrun)
  case h_3 hrun hphase => exact absurd (.inr (.inr (.inl ⟨rfl, hphase⟩))) (h hrun)
  case h_4 hrun hphase => exact absurd (.inr (.inr (.inr ⟨rfl, hphase⟩))) (h hrun)
  case h_5 hstate hphase => exact absurd ⟨hstate, rfl, hphase⟩ hheld
  case h_6 => rfl

theorem snapshot_ejectPiece (b : Blocks) : (ejectPiece b).seq.snapshot = b.seq.snapshot := by
  unfold ejectPiece
  repeat' split
  all_goals rfl

theorem ejectLoad_eq {snap : Snapshot} (hsnap : b.seq.snapshot = some snap) :
    ejectLoad b = askMove .load snap.loadPosition (enterPhase .load .unit b) := by
  simp only [ejectLoad, loadPosition, hsnap, Option.map_some]

end

/-! ## The axis faults -/

/-- The clock at the end of a time that runs (log 1). -/
theorem clockAt_eq_match (deadline : Option Ms) (b : Blocks) :
    clockAt deadline b = match deadline with | some d => { b with clock := max b.clock d } | none => b := by
  cases deadline <;> rfl

theorem moveTimeRuns_iff {b : Blocks} :
    moveTimeRuns b = true ↔ b.gax.stopping = false ∧ (b.gax.state = .moving
      ∨ (b.gax.state = .homing ∧ b.gax.homing = .final ∧ b.gax.finalSettling = false)) := by
  simp [moveTimeRuns, and_assoc]

theorem homingTimeRuns_iff {b : Blocks} :
    homingTimeRuns b = true ↔ b.gax.stopping = false ∧ b.gax.state = .homing ∧ b.gax.homing ≠ .final := by
  simp [homingTimeRuns, and_assoc]

theorem gaxExpires_eq {runs : Bool} {p : Prop} [Decidable p] (h : runs = true ↔ p) (code : GaxFault) (b : Blocks) :
    gaxExpires runs code b =
      if p then gaxFaults code (match b.gax.deadline with | some d => { b with clock := max b.clock d } | none => b)
      else b := by
  unfold gaxExpires
  exact if_congr h (congrArg (gaxFaults code) (clockAt_eq_match b.gax.deadline b)) rfl

theorem disables_eq (code : GaxFault) : code.disables = (code == .limitSwitch || code == .driveFault) := by
  cases code <;> rfl

theorem disables_iff {code : GaxFault} : code.disables = true ↔ code = .limitSwitch ∨ code = .driveFault := by
  simp [disables_eq]

/-- A code in FAULT that a limit or drive fault replaces (R102). -/
theorem replaceable_iff {fault : Option GaxFault} :
    (!((fault.map GaxFault.disables).getD true)) = true ↔ fault = some .moveTimeout ∨ fault = some .settleTimeout := by
  rcases fault with _ | code
  · simp
  · cases code <;> simp [GaxFault.disables]

theorem gaxEnterFault_of_fault {code : GaxFault} {b : Blocks} (h : b.gax.state = .fault) :
    gaxEnterFault code b =
      if (code = .limitSwitch ∨ code = .driveFault) ∧ (b.gax.fault = some .moveTimeout ∨ b.gax.fault = some .settleTimeout)
      then raise .gauge { b with gax := { b.gax with fault := some code, drive := false, driveCount := none } } else b := by
  rw [gaxEnterFault, if_pos h]
  refine if_congr ?_ rfl rfl
  rw [Bool.and_eq_true, disables_iff, replaceable_iff]

theorem gaxEnterFault_of_not_fault {code : GaxFault} {b : Blocks} (h : b.gax.state ≠ .fault) :
    gaxEnterFault code b = jogWatch (raise .gauge { b with gax :=
      if b.gax.stopping = true ∧ b.msu.phase ≠ .ended then
        { Gax.atReset with table := b.gax.table, drive := decide (b.msu.estop = .chainOk) }
      else
        { b.gax with
          state := .fault, fault := some code, drive := b.gax.drive && !code.disables,
          driveCount := if code = .settleTimeout then b.gax.driveCount else none,
          start := if b.gax.referenced then .estimate else .none,
          move := b.gax.move.map MoveRecord.voided,
          pending := none, inPosition := false, stopping := false, finalSettling := false, deadline := none } }) := by
  rw [gaxEnterFault, if_neg h]
  by_cases hrestart : restartStop b = true
  · rw [if_pos hrestart, if_pos (restartStop_iff.mp hrestart)]
    rfl
  · rw [if_neg hrestart, if_neg (mt restartStop_iff.mpr hrestart)]
    rfl

end Sys2Proof.Machine

open Sys2Proof Sys2Proof.Machine

/-- Settles O30: GAUGE_HOME by its order, the mark by the FINAL move that it begins. -/
theorem gaugeHoming : Obligations.GaugeHoming := by
  refine ⟨fun s h => (run_asRequest h).trans (next_act_congr s fun b => ?home), fun s => rfl, fun b => ?drive, fun s =>
    ⟨s.act referenceMarkTaken, rfl, rfl, fun hnot => ?still, fun hstate hseek hruns => ?mark⟩⟩
  case home =>
    simp only [gaugeHomeRequest, gaxInMotion_iff, moveConditions_eq_false_iff]
    rfl
  case drive =>
    have hruns : (b.gax.state == .homing && b.gax.drive && !b.gax.stopping) = true
        ↔ b.gax.state = .homing ∧ b.gax.drive = true ∧ b.gax.stopping = false := by
      simp [and_assoc]
    simp only [homingDrive, hruns] <;> rfl
  case still => exact congrArg (fun b => { s with blocks := b }) (if_neg hnot)
  case mark =>
    have htaken : referenceMarkTaken s.blocks = gaxReference s.blocks := if_pos ⟨hstate, hseek, hruns⟩
    have hgax := gax_gaxReference s.blocks
    obtain ⟨hinputs, hseq, htrk, hcku, hflag⟩ := gaxReference_keeps s.blocks
    rw [blocks_act, htaken, hgax, hinputs]
    exact ⟨rfl, rfl, rfl, rfl, rfl, rfl, ⟨_, rfl, rfl, rfl, rfl, rfl, rfl⟩, hflag, hseq, htrk, hcku⟩

/-- Settles O31: the record of a move by its kind and direction, the axis by `gax_gaxBegin`, all else by `gaxBegin_eq`. -/
theorem gaugeMovesBegin : Obligations.GaugeMovesBegin := by
  refine ⟨fun target s h => (run_asRequest h).trans (next_act_congr s fun b => ?jog),
    fun s => next_act_congr s fun b => ?pending, fun kind asker p start clamped b hkind => ?record, fun b => rfl,
    fun b => ⟨?startNone, fun q hat => ?startAt, ?startEstimate, gaxPosition_of_unreferenced, gaxPosition_of_inPosition,
      fun href hin => ?estimate, fun p => gaxStandsAt_iff⟩,
    fun kind p b => ⟨askMove_of_unable, fun start hstate hstart => ?standstill, fun hmoving => ?moving⟩⟩
  case jog =>
    simp only [gaugeJogRequest, jogMove, gaxInMotion_iff, moveConditions_eq_false_iff, limitToTravel_eq, bne_eq_decide_ne]
    rfl
  case pending =>
    simp only [beginPending, moveConditions_iff] <;> rfl
  case startNone =>
    intro hnone
    simp only [startingPosition, hnone]
  case startAt => simp only [startingPosition, hat]
  case startEstimate =>
    intro hestimate
    simp only [startingPosition, hestimate, gaxEstimate_eq] <;> rfl
  case estimate => exact (gaxPosition_of_estimate href hin).trans (congrArg some (gaxEstimate_eq b))
  case standstill => exact (askMove_of_standstill hstate hstart).trans (if_congr moveConditions_iff rfl rfl)
  case moving => exact askMove_of_moving hmoving
  case record =>
    have hbegin := gaxBegin_eq kind asker p clamped start b
    have hgax := gax_gaxBegin kind asker p clamped start b
    have hnot : (kind == MoveKind.homeFinal) = false := by simpa using hkind
    refine ⟨moveRecord kind asker p clamped start b, ?move, rfl, rfl, rfl, rfl, rfl, rfl, rfl, rfl, rfl, rfl,
      leg_moveRecord kind asker p clamped start b, fun hbehind => ⟨fun hforward => ?forward, fun hrear => ?rearward⟩,
      fun hcut hjog => ?direct, ?state, ?deadline, ?band, ?drive, ?pendingVoid, ?mark, hbegin⟩
    case forward =>
      have hover := overshootOf_of_forward (kind := kind) hforward
      refine ⟨approachOf_of_forward hbehind hforward, congrArg (Option.map _) hover, ?_⟩
      exact congrArg (fun o => moveTimeOf (travelOf start p o)) hover
    case rearward =>
      have hover := overshootOf_of_rearward hbehind hrear
      refine ⟨approachOf_of_rearward hbehind hrear, congrArg (Option.map _) hover, ?_⟩
      exact congrArg (fun o => moveTimeOf (travelOf start p o)) hover
    case direct =>
      have hdirect := isDirect_of_ne hcut hjog
      have hover := overshootOf_of_direct (start := start) (p := p) hdirect
      refine ⟨if_pos hdirect, congrArg (Option.map _) hover, ?_⟩
      exact congrArg (fun o => moveTimeOf (travelOf start p o)) hover
    case move => exact congrArg Gax.move hgax
    case pendingVoid => exact congrArg Gax.pending hgax
    case mark => exact congrArg Gax.inPosition hgax
    case state =>
      rw [hgax]
      by_cases hat : p = start <;> simp [hat, hnot]
    case deadline =>
      rw [hgax]
      by_cases hat : p = start <;> simp [hat]
    case band =>
      rw [hgax]
      intro hat
      simp [hat]
    case drive =>
      refine (congrArg Gax.driveCount hgax).trans ?_
      by_cases hat : p = start
      · simp [hat]
      · exact (if_pos (bne_iff_ne.mpr hat)).trans ((some_legCount _).trans (if_neg hat).symm)

/-- Settles O32: one equation per event, and SEQ's part by the phase it waits in. -/
theorem gaugeArrives : Obligations.GaugeArrives := by
  refine ⟨fun n s => next_act_congr s (profileComplete_eq n), fun n s => next_act_congr s (inPosition_eq n),
    fun n s => next_act_congr s fun b => encoderOutOfBand_of_target n (countTarget_eq b),
    fun b => ⟨gaxStopped_eq b, gaxStop_of_moving, gaxStop_of_settling, gaxStop_of_homing, gaxStop_of_still⟩,
    fun b => ⟨fun m n w d own hrun hphase hstep => ?cut, seqInPosition_of_clearance, fun snap hrun hphase hsnap => ?push,
      seqInPosition_of_load, seqInPosition_of_heldPush, fun kind hrun hheld => ?rest, fun kind hno => ?other⟩⟩
  case cut =>
    rw [seqInPosition_of_cut hrun hphase hstep, cutPressure_eq]
    rfl
  case push =>
    exact (seqInPosition_of_push hrun hphase).trans (ejectLoad_eq ((snapshot_ejectPiece b).trans hsnap))
  case rest => exact seqInPosition_of_other (fun h => absurd h hrun) hheld
  case other =>
    exact seqInPosition_of_other (fun _ => hno) fun hheld => hno (.inr (.inr (.inl ⟨hheld.2.1, hheld.2.2⟩)))

/-- Settles O33: each time by the condition under which it runs, and FAULT by whether it is entered or kept. -/
theorem gaugeFaults : Obligations.GaugeFaults := by
  refine ⟨fun s => next_act_congr s fun b => gaxExpires_eq moveTimeRuns_iff .moveTimeout b,
    fun s => next_act_congr s fun b => gaxExpires_eq homingTimeRuns_iff .moveTimeout b,
    fun s => next_act_congr s fun b => gaxExpires_eq Iff.rfl .moveTimeout b,
    fun s => next_act_congr s fun b => gaxExpires_eq settlingNow_iff .settleTimeout b,
    fun s => rfl, fun s => rfl, fun s => rfl, fun code b h => ?enters, fun code b h => ?stays⟩
  case enters => rw [gaxFaults, if_neg h, gaxEnterFault_of_not_fault h, disables_eq] <;> rfl
  case stays => rw [gaxFaults, if_pos h, gaxEnterFault_of_fault h]

end

section
/-! SUPPORT. The Clamp and Knife Unit (chapter 06): clamping and pressure, the buttons, the stroke and its return, and
the release; what SEQ's going on leaves as it is. -/

set_option Elab.async false

namespace Sys2Proof.Machine

open Sys2Proof

/-! ## Clamping -/

theorem limitPressure_eq (p : Nat) : limitPressure p = if p < 50 then 50 else if 550 < p then 550 else p := by
  unfold limitPressure
  split_ifs <;> omega

theorem clampRequestTaken_iff {b : Blocks} :
    clampRequestTaken b = true ↔ b.cku.state = .open_ ∧ b.inputs.upperStop = true ∧ b.inputs.tdc = true := by
  simp [clampRequestTaken, and_assoc]

theorem manualCutConditions_iff {b : Blocks} : manualCutConditions b = true ↔
    b.cku.state = .open_ ∧ b.cku.cycle = none ∧ b.inputs.upperStop = true ∧ b.cku.flap = .closed ∧ b.gax.state ≠ .homing
      ∧ b.gax.state ≠ .moving ∧ b.gax.state ≠ .settling
      ∧ b.gax.state ≠ .fault ∧ (b.trk.block = none ∨ b.gax.state ≠ .unreferenced) ∧ b.trn.state = .parked
      ∧ b.msu.estop = .chainOk ∧ manualCutAllowed b = true := by
  simp only [manualCutConditions, gaxInMotion, chainOk, Bool.and_eq_true, Bool.not_eq_true', Bool.or_eq_false_iff,
    beq_iff_eq, beq_eq_false_iff_ne, Option.isNone_iff_eq_none, Bool.and_eq_false_iff, Option.isSome_eq_false_iff, and_assoc]

theorem manualCutAllowed_iff {b : Blocks} :
    manualCutAllowed b = true ↔
      b.trk.block = none ∨ (b.trk.queue.length < 8 ∧ 22000 ≤ manualPosition b - knifeTermOf b.cku.knife) := by
  simp [manualCutAllowed, Config.maxPieces, Config.travelFront]

theorem clampingConditions_iff {c : Cycle} {b : Blocks} :
    clampingConditions c b = true ↔ gaxInMotion b = false ∧ b.trn.state = .parked ∧ b.msu.estop = .chainOk
      ∧ (c.waste = true ∨ b.cku.flap = .closed) := by
  simp [clampingConditions, chainOk, and_assoc]

/-- A flap CLOSED or CLOSING is asked nothing (R119). -/
theorem flapClose_of_closed {b : Blocks} (h : b.cku.flap = .closed ∨ b.cku.flap = .closing) : flapClose b = b := by
  unfold flapClose
  split
  · rfl
  · rcases h with h | h <;> rw [h]

/-- The flap asked to close (R119). -/
theorem flapClose_iteEq (b : Blocks) :
    flapClose b =
      if b.msu.estop = .chainOk ∧ (b.cku.flap = .opening ∨ b.cku.flap = .opened) then
        { b with inputs := { b.inputs with flapOpenSw := false },
                 cku := { b.cku with flap := .closing, flapDeadline := some (b.clock + 600) } }
      else b := by
  by_cases hchain : b.msu.estop = .chainOk
  · rw [flapClose_eq hchain]
    simp only [hchain, true_and]
  · rw [if_neg fun hall => hchain hall.1]
    exact if_pos (by simpa [chainOk] using hchain)

/-- The clamp request of a MANUAL_CUT whose conditions hold: taken with the knife at TDC (R110, R126). -/
theorem manualCutBegins_eq {p : Nat} {b : Blocks} (h : manualCutConditions b = true) :
    manualCutBegins p b =
      if b.inputs.tdc then
        { b with cku := { b.cku with
            cycle := some {
              asker := .manual, target := limitPressure p, waste := false, armed := true, restAsked := false,
              lastReversal := none, knifeTerm := none, bdcTaken := false } } }
      else raise .knife { b with cku := { b.cku with lastManual := some false } } := by
  obtain ⟨hopen, -, hup, hflap, -⟩ := manualCutConditions_iff.mp h
  have htaken : clampRequestTaken b = true ↔ b.inputs.tdc = true := by
    rw [clampRequestTaken_iff]
    exact ⟨fun hall => hall.2.2, fun htdc => ⟨hopen, hup, htdc⟩⟩
  exact if_congr htaken (flapClose_of_closed (.inl hflap)) rfl

/-! ## At pressure -/

theorem toPermit_of_cycle {b : Blocks} {c : Cycle} (h : b.cku.cycle = some c) :
    toPermit b = { b with seq := { b.seq with run := { b.seq.run with phase := .permit, wait := .permit } },
                          cku := { b.cku with cycle := some { c with armed := true } } } := by
  simp only [toPermit, setCku, enterPhase, setRun, setSeq, h, Option.map_some]

theorem flapOpen_of_closed {b : Blocks} (h : b.cku.flap = .closed ∨ b.cku.flap = .closing) :
    flapOpen b = { b with inputs := { b.inputs with flapClosedSw := false },
                          cku := { b.cku with flap := .opening, flapDeadline := some (b.clock + 600) } } := by
  rcases h with h | h <;> simp only [flapOpen, h] <;> rfl

theorem flapOpen_of_opening {b : Blocks} (h : b.cku.flap = .opening ∨ b.cku.flap = .opened) : flapOpen b = b := by
  rcases h with h | h <;> simp only [flapOpen, h]

/-- The clamp at pressure: the permit, after the flap for a WASTE cut (R30, R31). -/
theorem seqAtPressure_of_cycle {b : Blocks} {c : Cycle} (h : b.cku.cycle = some c) :
    seqAtPressure b =
      if b.seq.state = .running ∧ b.seq.run.phase = .clamp then
        let opening : Blocks := { b with seq := { b.seq with run := { b.seq.run with phase := .flapOpen, wait := .unit } } }
        if c.waste = true ∧ (b.cku.flap = .closed ∨ b.cku.flap = .closing) then
          { opening with inputs := { b.inputs with flapClosedSw := false },
                         cku := { b.cku with flap := .opening, flapDeadline := some (b.clock + 600) } }
        else if c.waste = true ∧ b.cku.flap = .opening then opening
        else
          { b with seq := { b.seq with run := { b.seq.run with phase := .permit, wait := .permit } },
                   cku := { b.cku with cycle := some { c with armed := true } } }
      else b := by
  rw [seqAtPressure, h, ← toPermit_of_cycle h]
  refine if_congr Iff.rfl ?_ rfl
  by_cases hwaste : c.waste = true
  · refine (if_pos hwaste).trans ?_
    cases hflap : b.cku.flap
    case closed =>
      refine ((if_neg (by simp)).trans ?_).trans (if_pos ⟨hwaste, .inl rfl⟩).symm
      exact flapOpen_of_closed (b := enterPhase .flapOpen .unit b) (.inl hflap)
    case opening =>
      refine ((if_neg (by simp)).trans ?_).trans ((if_neg (by simp)).trans (if_pos ⟨hwaste, rfl⟩)).symm
      exact flapOpen_of_opening (b := enterPhase .flapOpen .unit b) (.inl hflap)
    case opened => exact (if_pos rfl).trans ((if_neg (by simp)).trans (if_neg (by simp))).symm
    case closing =>
      refine ((if_neg (by simp)).trans ?_).trans (if_pos ⟨hwaste, .inr rfl⟩).symm
      exact flapOpen_of_closed (b := enterPhase .flapOpen .unit b) (.inr hflap)
  · exact (if_neg hwaste).trans ((if_neg fun h => hwaste h.1).trans (if_neg fun h => hwaste h.1)).symm

/-! ## A pressure sample -/

theorem bears_eq (s : CycleState) :
    (s == .clamping || s == .clamped || s == .stroking || s == .gap || s == .returning)
      = decide (s = .clamping ∨ s = .clamped ∨ s = .stroking ∨ s = .gap ∨ s = .returning) := by
  cases s <;> rfl

theorem min_eq_ite (n : Nat) : min 600 n = if 600 < n then 600 else n := by
  split_ifs <;> omega

theorem keepSample_eq (n : Nat) (b : Blocks) :
    keepSample n b = { b with cku := { b.cku with
      sample := some n,
      contact := b.cku.contact || (decide (b.cku.state = .clamping ∨ b.cku.state = .clamped ∨ b.cku.state = .stroking
        ∨ b.cku.state = .gap ∨ b.cku.state = .returning) && decide (20 ≤ n)) } } := by
  rw [keepSample, bears_eq]
  rfl

theorem enterClamped_of_manual {b : Blocks} (h : manualCycle b = true) :
    enterClamped b = { b with cku := { b.cku with state := .clamped, deadline := some (b.clock + 10000) } } := by
  rw [enterClamped, permitDeadline, h]
  rfl

theorem enterClamped_of_seq {b : Blocks} (h : manualCycle b = false) :
    enterClamped b = { b with cku := { b.cku with state := .clamped, deadline := none } } := by
  rw [enterClamped, permitDeadline, h]
  rfl

theorem manualCycle_of_cycle {b : Blocks} {c : Cycle} (h : b.cku.cycle = some c) : manualCycle b = (c.asker == .manual) := by
  rw [manualCycle, h]

/-- CLAMPED is entered, and reported to SEQ where it has asked (R110). -/
theorem clamped_reported {b : Blocks} {c : Cycle} (h : b.cku.cycle = some c) :
    (if c.asker = .seq then seqAtPressure (enterClamped b) else enterClamped b) =
      if c.asker = .seq then seqAtPressure { b with cku := { b.cku with state := .clamped, deadline := none } }
      else { b with cku := { b.cku with state := .clamped, deadline := some (b.clock + 10000) } } := by
  have hmanual := manualCycle_of_cycle h
  cases hasker : c.asker
  · rw [if_pos rfl, if_pos rfl, enterClamped_of_seq (hmanual.trans (by rw [hasker]; rfl))]
  · rw [if_neg nofun, if_neg nofun, enterClamped_of_manual (hmanual.trans (by rw [hasker]; rfl))]

/-- A sample of at most 600 by the state it meets (R109 to R111, R116). -/
theorem pressureSample_eq (n : Nat) (b : Blocks) :
    pressureSample n b =
      (let p := if 600 < n then 600 else n
       let bears : Bool := decide (b.cku.state = .clamping ∨ b.cku.state = .clamped ∨ b.cku.state = .stroking
         ∨ b.cku.state = .gap ∨ b.cku.state = .returning)
       let kept := { b with cku := { b.cku with sample := some p, contact := b.cku.contact || (bears && decide (20 ≤ p)) } }
       match b.cku.state, b.cku.cycle with
       | .clamping, some c =>
         if c.target ≤ p then
           if c.asker = .seq then
             seqAtPressure { kept with cku := { kept.cku with state := .clamped, deadline := none } }
           else { kept with cku := { kept.cku with state := .clamped, deadline := some (b.clock + 10000) } }
         else kept
       | .clamped, some c => if p + 30 < c.target then ckuFaults .pressureLost kept else kept
       | .stroking, some c => if p + 30 < c.target then ckuReverses .pressure kept else kept
       | _, _ => kept) := by
  rw [pressureSample, keepSample_eq, min_eq_ite]
  cases b.cku.state
  case clamping =>
    cases hcycle : b.cku.cycle with
    | none => rfl
    | some c => exact if_congr Iff.rfl (clamped_reported hcycle) rfl
  all_goals cases b.cku.cycle <;> rfl

/-! ## The buttons -/

/-- The release of one button, with the pair re-armed where the other is released too (R112). -/
theorem rearm_setButton (button : Button) (b : Blocks) :
    rearm (setButton button false b) =
      (let other := match button with | .left => b.inputs.rightHeld | .right => b.inputs.leftHeld
       { b with inputs := { b.inputs with leftHeld := decide (button = .right) && b.inputs.leftHeld,
                                          rightHeld := decide (button = .left) && b.inputs.rightHeld },
                cku := { b.cku with rearmed := b.cku.rearmed || !other } }) := by
  cases button
  case left => cases h : b.inputs.rightHeld <;> simp [rearm, bothReleased, setButton, setInputs, setCku, h]
  case right => cases h : b.inputs.leftHeld <;> simp [rearm, bothReleased, setButton, setInputs, setCku, h]

theorem buttonHeld_eq (button : Button) (b : Blocks) :
    buttonHeld button b = match button with | .left => b.inputs.leftHeld | .right => b.inputs.rightHeld := by
  cases button <;> rfl

theorem buttonReleased_eq (button : Button) (b : Blocks) :
    buttonReleased button b =
      (let held := match button with | .left => b.inputs.leftHeld | .right => b.inputs.rightHeld
       let other := match button with | .left => b.inputs.rightHeld | .right => b.inputs.leftHeld
       let released : Blocks :=
         { b with inputs := { b.inputs with leftHeld := decide (button = .right) && b.inputs.leftHeld,
                                            rightHeld := decide (button = .left) && b.inputs.rightHeld },
                  cku := { b.cku with rearmed := b.cku.rearmed || !other } }
       if held = false then b
       else if b.cku.state = .stroking then ckuReverses .twoHandRelease released
       else if b.cku.knifeReturn = true ∧ (b.cku.state = .gap ∨ b.cku.state = .returning) then
         knifeReturnStops released
       else released) := by
  rw [buttonReleased, rearm_setButton, buttonHeld_eq]
  exact if_congr (by simp) rfl rfl

/-! ## The stroke -/

theorem strokeSpan_iff {l r : Nat} : max l r - min l r ≤ 500 ↔ l ≤ r + 500 ∧ r ≤ l + 500 := by omega

theorem twoHandPermit_iff {b : Blocks} :
    twoHandPermit b = true ↔ b.inputs.leftHeld = true ∧ b.inputs.rightHeld = true ∧ b.cku.rearmed = true
      ∧ ∃ l r, b.cku.leftOnset = some l ∧ b.cku.rightOnset = some r ∧ l ≤ r + 500 ∧ r ≤ l + 500 := by
  unfold twoHandPermit
  cases b.cku.leftOnset with
  | none => simp
  | some l =>
    cases b.cku.rightOnset with
    | none => simp
    | some r =>
      simp only [Bool.and_eq_true, decide_eq_true_eq, Option.some.injEq, exists_and_left, exists_eq_left', and_assoc,
        Config.twoHandMs, strokeSpan_iff]

theorem keyPermit_iff {c : Cycle} {b : Blocks} :
    keyPermit c b = true ↔ if c.asker = .manual ∨ b.inputs.permitKey = .twoHand then
        b.inputs.leftHeld = true ∧ b.inputs.rightHeld = true ∧ b.cku.rearmed = true
          ∧ ∃ l r, b.cku.leftOnset = some l ∧ b.cku.rightOnset = some r ∧ l ≤ r + 500 ∧ r ≤ l + 500
      else b.inputs.guardClosed = true ∧ b.inputs.leftHeld = false ∧ b.inputs.rightHeld = false := by
  unfold keyPermit
  split
  · exact twoHandPermit_iff
  · simp [bothReleased]

/-- What R113 asks of the cell is the stroke permit. -/
theorem permit_of_strokeSafe {b : Blocks} (h : StrokeSafe b) : strokePermit b = true := by
  obtain ⟨hstate, hchain, hcurtain, hparked, c, n, hcycle, hsample, hreached, harmed, hrest, hflap, hkey⟩ := h
  simp only [strokePermit, hcycle, hsample, keyPermit_iff.mpr hkey, hstate, chainOk, hchain, hcurtain, hparked, harmed,
    hrest, hflap, hreached, beq_self_eq_true, Bool.not_false, decide_true, Bool.and_self]

theorem gapEnd_eq (closedAt : Option Ms) (b : Blocks) :
    gapEnd closedAt b = match closedAt with | some t => t + b.cku.knife.G | none => 0 := by
  cases closedAt <;> rfl

/-- The stroke begins at the end of the valve gap (R114). -/
theorem strokeBegins_of_permit {b : Blocks} (h : strokePermit b = true) {now : Ms}
    (hnow : max b.clock (gapEnd b.cku.returnClosedAt b) = now) :
    strokeBegins b =
      (let stroking := { b with
         clock := now,
         cku := { b.cku with state := .stroking, rearmed := false, deadline := some (now + 900),
                             valves := { lowering := true, raising := false, down := true, ret := false },
                             cycle := b.cku.cycle.map fun c => { c with
                               knifeTerm := if c.asker = .manual then some (knifeTermOf b.cku.knife) else none } } }
       if seqCycle b = true ∧ b.seq.state = .running ∧ b.seq.run.phase = .permit then
         { stroking with seq := { b.seq with run := { b.seq.run with phase := .stroke, wait := .unit } } }
       else stroking) := by
  subst hnow
  rw [strokeBegins, if_pos h]
  by_cases hcycle : seqCycle b = true
  · refine (if_pos hcycle).trans (if_congr ?_ rfl rfl)
    exact ⟨fun hseq => ⟨hcycle, hseq⟩, fun hall => hall.2⟩
  · exact (if_neg hcycle).trans (if_neg fun hall => hcycle hall.1).symm

/-! ## The bottom of the stroke -/

theorem reportBdc_of_seq {b : Blocks} {c : Cycle} (h : b.cku.cycle = some c) (hasker : c.asker = .seq) :
    reportBdc b =
      let cut := cutBdcUpdate c.waste b
      if (b.seq.state = .running ∨ b.seq.state = .held) ∧ b.seq.run.phase = .stroke then
        { cut with seq := { cut.seq with run := { cut.seq.run with phase := .returning } } }
      else cut := by
  simp only [reportBdc, seqBdc, h, hasker, if_true, jobUnderWay_iff]
  rfl

theorem reportBdc_of_manual {b : Blocks} {c : Cycle} (h : b.cku.cycle = some c) (hasker : c.asker = .manual) :
    reportBdc b = manualBdcUpdate (match c.knifeTerm with | some term => term | none => knifeTermOf b.cku.knife) b := by
  simp only [reportBdc, h, hasker, reduceCtorEq, if_false]
  cases c.knifeTerm <;> rfl

/-- The cut counted as the gap begins (R77, R115). -/
theorem countCut_beginGap (b : Blocks) :
    countCut (beginGap b) =
      (let count := min 16777215 (b.cku.knife.C + 1)
       let knife := { b.cku.knife with C := count }
       let cap : Bool := wearPart knife == 400
       raiseIf (cap && !b.cku.wearCap) .knife { b with cku := { b.cku with
         state := .gap, valves := { lowering := true, raising := false, down := false, ret := false },
         downClosedAt := some b.clock, deadline := some (b.clock + b.cku.knife.G), knife := knife, wearCap := cap } }) := rfl

theorem knife_countCut_beginGap (b : Blocks) :
    (countCut (beginGap b)).cku.knife = { b.cku.knife with C := min 16777215 (b.cku.knife.C + 1) } := by
  rw [countCut_beginGap]
  exact congrArg Cku.knife (cku_raiseIf _ _ _)

/-- BDC in STROKING (R115). -/
theorem bdcCovered_of_stroking {b : Blocks} (h : b.cku.state = .stroking) :
    bdcCovered b =
      (let counted := countCut (beginGap { b with inputs := { b.inputs with bdc := true } })
       reportBdc (markBdc (if min 16777215 (b.cku.knife.C + 1) % 250 = 0 then ckuStore counted else counted))) := by
  have hcount := congrArg KnifeRecord.C (knife_countCut_beginGap { b with inputs := { b.inputs with bdc := true } })
  refine (if_pos h).trans (congrArg (fun c => reportBdc (markBdc c)) (if_congr ?_ rfl rfl))
  exact iff_of_eq (congrArg (· % 250 = 0) hcount)

/-! ## What SEQ's going on leaves as it is -/

/-- The two switches of knife and clamp that a rest and a step of SEQ read, with the clock. -/
def sensed (b : Blocks) : Bool × Bool × Ms := (b.inputs.tdc, b.inputs.upperStop, b.clock)

@[simp] theorem sensed_setGax (f) (b : Blocks) : sensed (setGax f b) = sensed b := (rfl)
@[simp] theorem sensed_setCku (f) (b : Blocks) : sensed (setCku f b) = sensed b := (rfl)
@[simp] theorem sensed_setTrn (f) (b : Blocks) : sensed (setTrn f b) = sensed b := (rfl)
@[simp] theorem sensed_setSeq (f) (b : Blocks) : sensed (setSeq f b) = sensed b := (rfl)
@[simp] theorem sensed_setRun (f) (b : Blocks) : sensed (setRun f b) = sensed b := (rfl)
@[simp] theorem sensed_setBlock (k) (b : Blocks) : sensed (setBlock k b) = sensed b := (rfl)
@[simp] theorem sensed_raise (k) (b : Blocks) : sensed (raise k b) = sensed b := (rfl)
@[simp] theorem sensed_manualEnds (v : Bool) (b : Blocks) : sensed (manualEnds v b) = sensed b := (rfl)

@[simp] theorem sensed_flapClose (b : Blocks) : sensed (flapClose b) = sensed b := by
  simp only [flapClose]
  repeat' split
  all_goals rfl

@[simp] theorem sensed_ckuResetEnds (b : Blocks) : sensed (ckuResetEnds b) = sensed b := by
  simp only [ckuResetEnds]
  split <;> simp

@[simp] theorem sensed_ckuOpened (b : Blocks) : sensed (ckuOpened b) = sensed b := by
  simp only [ckuOpened]
  repeat' split
  all_goals simp

@[simp] theorem sensed_ckuRelease (b : Blocks) : sensed (ckuRelease b) = sensed b := by
  simp only [ckuRelease]
  split <;> simp

@[simp] theorem sensed_ckuRest (b : Blocks) : sensed (ckuRest b) = sensed b := by
  simp only [ckuRest]
  repeat' split
  all_goals simp [askRest, reverse, markPartialCut, recordReversal, beginGap, knifeReturnStops]

@[simp] theorem sensed_heldRelease (b : Blocks) : sensed (heldRelease b) = sensed b := by
  simp only [heldRelease]
  repeat' split
  all_goals simp

@[simp] theorem sensed_ckuToRest (b : Blocks) : sensed (ckuToRest b) = sensed b := by
  simp only [ckuToRest]
  split <;> simp

/-- CKU at rest in OPEN, with no cycle, no KNIFE_RETURN and every valve closed. -/
structure Cku.AtRest (c : Cku) : Prop where
  state : c.state = .open_
  cycle : c.cycle = none
  valves : c.valves = Valves.closed
  knifeReturn : c.knifeReturn = false
  deadline : c.deadline = none

/-- From `a` to `b` the switches and the clock stand, CKU stays at rest where it is, a stop of the gauge goes on, and so does
a grip of a TURN_MANUAL; a pending move or turn may be asked or void. -/
structure Calm (a b : Blocks) : Prop where
  sensed : sensed b = sensed a
  cku : a.cku.AtRest → b.cku.AtRest
  gax : a.gax.state = .moving → moveInFlight a = false → { b.gax with pending := none } = { a.gax with pending := none }
  trn : a.trn.state = .gripping → turnAsker a = some .terminal →
    { b.trn with pending := none } = { a.trn with pending := none }

theorem Calm.refl (a : Blocks) : Calm a a := ⟨rfl, id, fun _ _ => rfl, fun _ _ => rfl⟩

section
variable {a b : Blocks}

theorem Calm.moving (h : Calm a b) (hmoving : a.gax.state = .moving) (hvoid : moveInFlight a = false) :
    b.gax.state = .moving ∧ moveInFlight b = false := by
  have heq := h.gax hmoving hvoid
  have hmove := congrArg Gax.move heq
  have hstate := congrArg Gax.state heq
  dsimp only at hmove hstate
  refine ⟨hstate.trans hmoving, ?_⟩
  rw [moveInFlight, hmove]
  exact hvoid

theorem Calm.gripping (h : Calm a b) (hgrip : a.trn.state = .gripping) (hasker : turnAsker a = some .terminal) :
    b.trn.state = .gripping ∧ turnAsker b = some .terminal := by
  have heq := h.trn hgrip hasker
  have hrecord := congrArg Trn.record heq
  have hstate := congrArg Trn.state heq
  dsimp only at hrecord hstate
  refine ⟨hstate.trans hgrip, ?_⟩
  rw [turnAsker, hrecord]
  exact hasker

/-! ## The updates -/

@[simp] theorem calm_setSeq (f) : Calm a (setSeq f b) ↔ Calm a b :=
  ⟨fun h => ⟨h.sensed, h.cku, h.gax, h.trn⟩, fun h => ⟨h.sensed, h.cku, h.gax, h.trn⟩⟩
@[simp] theorem calm_setRun (f) : Calm a (setRun f b) ↔ Calm a b :=
  ⟨fun h => ⟨h.sensed, h.cku, h.gax, h.trn⟩, fun h => ⟨h.sensed, h.cku, h.gax, h.trn⟩⟩
@[simp] theorem calm_setJog (f) : Calm a (setJog f b) ↔ Calm a b :=
  ⟨fun h => ⟨h.sensed, h.cku, h.gax, h.trn⟩, fun h => ⟨h.sensed, h.cku, h.gax, h.trn⟩⟩
@[simp] theorem calm_raise (k) : Calm a (raise k b) ↔ Calm a b :=
  ⟨fun h => ⟨h.sensed, h.cku, h.gax, h.trn⟩, fun h => ⟨h.sensed, h.cku, h.gax, h.trn⟩⟩
@[simp] theorem calm_nextFree : Calm a (nextFree b) ↔ Calm a b :=
  ⟨fun h => ⟨h.sensed, h.cku, h.gax, h.trn⟩, fun h => ⟨h.sensed, h.cku, h.gax, h.trn⟩⟩

@[simp] theorem calm_raiseIf (c k) : Calm a (raiseIf c k b) ↔ Calm a b := by
  cases c
  · exact Iff.rfl
  · exact calm_raise k

@[simp] theorem calm_askedMove (q) : Calm a (setGax (fun g => { g with pending := q }) b) ↔ Calm a b :=
  ⟨fun h => ⟨h.sensed, h.cku, h.gax, h.trn⟩, fun h => ⟨h.sensed, h.cku, h.gax, h.trn⟩⟩

@[simp] theorem calm_askedTurn (q) : Calm a (setTrn (fun t => { t with pending := q }) b) ↔ Calm a b :=
  ⟨fun h => ⟨h.sensed, h.cku, h.gax, h.trn⟩, fun h => ⟨h.sensed, h.cku, h.gax, h.trn⟩⟩

/-- An update of the gauge that is no stop's (the gauge is not in MOVING, or its move is in flight). -/
theorem calm_of_gax {c : Blocks} (hcalm : Calm a b) (hnot : b.gax.state = .moving → moveInFlight b = true)
    (hsensed : Machine.sensed c = Machine.sensed b) (hcku : c.cku = b.cku) (htrn : c.trn = b.trn) : Calm a c := by
  refine ⟨hsensed.trans hcalm.sensed, fun h => hcku ▸ hcalm.cku h, fun hmoving hvoid => ?_, fun hgrip hasker => ?_⟩
  · obtain ⟨hstate, hflight⟩ := hcalm.moving hmoving hvoid
    exact absurd (hnot hstate) (by simp [hflight])
  · rw [htrn]
    exact hcalm.trn hgrip hasker

/-- An update of the turner that is no grip's of a TURN_MANUAL. -/
theorem calm_of_trn {c : Blocks} (hcalm : Calm a b) (hnot : b.trn.state = .gripping → turnAsker b ≠ some .terminal)
    (hsensed : Machine.sensed c = Machine.sensed b) (hcku : c.cku = b.cku) (hgax : c.gax = b.gax) : Calm a c := by
  refine ⟨hsensed.trans hcalm.sensed, fun h => hcku ▸ hcalm.cku h, fun hmoving hvoid => ?_, fun hgrip hasker => ?_⟩
  · rw [hgax]
    exact hcalm.gax hmoving hvoid
  · obtain ⟨hstate, hterminal⟩ := hcalm.gripping hgrip hasker
    exact absurd hterminal (hnot hstate)

/-- An update of CKU that keeps it at rest. -/
theorem calm_of_cku {c : Blocks} (hcalm : Calm a b) (hrest : b.cku.AtRest → c.cku.AtRest)
    (hsensed : Machine.sensed c = Machine.sensed b) (hapart : apart c = apart b) : Calm a c := by
  have hgax : c.gax = b.gax := congrArg Prod.fst hapart
  have htrn : c.trn = b.trn := congrArg Prod.snd hapart
  refine ⟨hsensed.trans hcalm.sensed, hrest ∘ hcalm.cku, fun hmoving hvoid => ?_, fun hgrip hasker => ?_⟩
  · rw [hgax]
    exact hcalm.gax hmoving hvoid
  · rw [htrn]
    exact hcalm.trn hgrip hasker

/-! ## The units' rest, and the holds -/

theorem atRest_flapClose (h : b.cku.AtRest) : (flapClose b).cku.AtRest := by
  rw [flapClose_iteEq]
  split
  · exact ⟨h.state, h.cycle, h.valves, h.knifeReturn, h.deadline⟩
  · exact h

@[simp] theorem calm_flapClose (h : Calm a b) : Calm a (flapClose b) :=
  calm_of_cku h atRest_flapClose (sensed_flapClose b) (apart_flapClose b)

/-- The rest of a unit at rest discards no cycle. -/
theorem ckuRest_of_atRest (h : b.cku.AtRest) : ckuRest b = flapClose (setCku (fun c => { c with cycle := none }) b) := by
  have hmanual : manualCycle b = false := by rw [manualCycle, h.cycle]
  simp only [ckuRest, h.state, hmanual, Bool.false_eq_true, if_false]

theorem ckuToRest_of_atRest (h : b.cku.AtRest) : ckuToRest b = flapClose (setCku (fun c => { c with cycle := none }) b) :=
  (ckuToRest_eq_ckuRest (.inl h.state)).trans (ckuRest_of_atRest h)

@[simp] theorem calm_ckuToRest (h : Calm a b) : Calm a (ckuToRest b) := by
  refine calm_of_cku h (fun hrest => ?_) (sensed_ckuToRest b) (apart_ckuToRest b)
  rw [ckuToRest_of_atRest hrest]
  exact atRest_flapClose ⟨hrest.state, rfl, hrest.valves, hrest.knifeReturn, hrest.deadline⟩

theorem sensed_gaxStop (b : Blocks) : sensed (gaxStop b) = sensed b := by
  simp only [gaxStop, gaxStopped]
  repeat' split
  all_goals rfl

theorem cku_gaxStop (b : Blocks) : (gaxStop b).cku = b.cku := by
  simp only [gaxStop, gaxStopped]
  repeat' split
  all_goals rfl

theorem trn_gaxStop (b : Blocks) : (gaxStop b).trn = b.trn := by
  simp only [gaxStop, gaxStopped]
  repeat' split
  all_goals rfl

/-- A stop of a move in flight is none of a move that is void already. -/
theorem calm_gaxStop (hflight : moveInFlight b = true) (h : Calm a b) : Calm a (gaxStop b) :=
  calm_of_gax h (fun _ => hflight) (sensed_gaxStop b) (cku_gaxStop b) (trn_gaxStop b)

@[simp] theorem calm_gaxRest (h : Calm a b) : Calm a (gaxRest b) := by
  simp only [gaxRest]
  split
  case isTrue hseq => exact calm_gaxStop hseq.1 ((calm_askedMove none).mpr h)
  case isFalse => exact (calm_askedMove none).mpr h

@[simp] theorem calm_trnRest (h : Calm a b) : Calm a (trnRest b) := by
  simp only [trnRest]
  split
  case isTrue hasker =>
    refine calm_of_trn h (fun _ hterminal => nomatch hasker.symm.trans hterminal) ?_ ?_ ?_
    all_goals unfold turnToRest
    all_goals split <;> rfl
  case isFalse => exact (calm_askedTurn none).mpr h

@[simp] theorem calm_unitsToRest (h : Calm a b) : Calm a (unitsToRest b) :=
  calm_trnRest (calm_ckuToRest (calm_gaxRest h))

@[simp] theorem calm_holdCause (cause : HoldCause) (h : Calm a b) : Calm a (holdCause cause b) := by
  simp only [holdCause]
  split <;> simp [enterHeld, furtherCause, h]

/-! ## What SEQ asks, and its steps -/

@[simp] theorem calm_jogWatch (h : Calm a b) : Calm a (jogWatch b) := by
  simp only [jogWatch, jogFault]
  repeat' split
  all_goals simp [h]

theorem calm_gaxBegin {kind : MoveKind} {asker : MoveAsker} {p : Um} {clamped : Bool} {start : Um}
    (hstate : b.gax.state = .standstill) (h : Calm a b) : Calm a (gaxBegin kind asker p clamped start b) := by
  have hbegun := calm_of_gax (c := { b with gax := (gaxBegin kind asker p clamped start b).gax }) h
    (fun hmoving => nomatch hstate.symm.trans hmoving) rfl rfl rfl
  rw [gax_gaxBegin] at hbegun
  exact calm_jogWatch ((calm_raiseIf _ _).mpr hbegun)

@[simp] theorem calm_askMove (kind : MoveKind) (p : Um) (h : Calm a b) : Calm a (askMove kind p b) := by
  simp only [askMove]
  split
  case h_4 hstate =>
    repeat' split
    · exact calm_gaxBegin hstate h
    all_goals exact (calm_askedMove _).mpr h
  all_goals try split
  case h_5.isTrue hseq => exact (calm_askedMove _).mpr (calm_gaxStop hseq.1 h)
  case h_6.isTrue hseq => exact (calm_askedMove _).mpr (calm_gaxStop hseq.1 h)
  all_goals simp [h]

theorem calm_trnBegin (quarters : Nat) (hstate : b.trn.state = .parked) (h : Calm a b) : Calm a (trnBegin .seq quarters b) :=
  calm_jogWatch (calm_of_trn h (fun hgrip => nomatch hstate.symm.trans hgrip) rfl rfl rfl)

@[simp] theorem calm_askTurn (quarters : Nat) (h : Calm a b) : Calm a (askTurn quarters b) := by
  simp only [askTurn]
  split
  case h_1 hstate =>
    repeat' split
    case isFalse.isTrue => exact calm_trnBegin quarters hstate h
    all_goals simp [h]
  all_goals try split
  all_goals simp [h]

@[simp] theorem calm_computeCut (mode : CutMode) (waste : Bool) (dim : Um) (h : Calm a b) :
    Calm a (computeCut mode waste dim b) := by
  simp only [computeCut]
  repeat' split
  all_goals simp [enterPhase, waitFor, h]

@[simp] theorem calm_turnTaken (quarters : Nat) (h : Calm a b) : Calm a (turnTaken quarters b) := by
  simp only [turnTaken, turnPhase]
  repeat' split
  all_goals simp [enterPhase, h]

@[simp] theorem calm_ejectTaken (h : Calm a b) : Calm a (ejectTaken b) := by
  simp only [ejectTaken]
  repeat' split
  all_goals simp [enterPhase, waitFor, h]

@[simp] theorem calm_endTaken (h : Calm a b) : Calm a (endTaken b) := by
  simp only [endTaken, waitPortion]
  repeat' split
  all_goals simp [waitFor, h]

@[simp] theorem calm_baseTaken (h : Calm a b) : Calm a (baseTaken b) := by
  simp only [baseTaken]
  split <;> simp [h]

theorem calm_instantStep {s : ProgStep} {c : Blocks} (hstep : instantStep s b = some c) (h : Calm a b) : Calm a c := by
  cases s with
  | call sub count own =>
    simp only [instantStep, Option.ite_none_right_eq_some, Option.some.injEq] at hstep
    obtain ⟨-, rfl⟩ := hstep
    simp [pushFrame, h]
  | ret =>
    simp only [instantStep] at hstep
    split at hstep
    case h_1 f rest hstack =>
      obtain rfl := Option.some.inj hstep
      simp only [returnFrame]
      split <;> simp [h]
    case h_2 => exact nomatch hstep
  | skipIf c operand =>
    obtain rfl := Option.some.inj hstep
    exact (calm_setRun _).mpr h
  | cut => exact nomatch hstep
  | turn => exact nomatch hstep
  | eject => exact nomatch hstep
  | pause => exact nomatch hstep
  | endStep => exact nomatch hstep

@[simp] theorem calm_endingStep (s : ProgStep) (h : Calm a b) : Calm a (endingStep s b) := by
  cases s <;> simp [endingStep, pauseTaken, waitFor, h]

theorem calm_takeSteps (n : Nat) (h : Calm a b) : Calm a (takeSteps n b) := by
  induction n generalizing b with
  | zero => exact h
  | succ n ih =>
    simp only [takeSteps]
    split
    · exact h
    · split
      case h_1 hstep => exact ih (calm_instantStep hstep h)
      case h_2 => exact calm_endingStep _ h

@[simp] theorem calm_nextStep (h : Calm a b) : Calm a (nextStep b) :=
  calm_takeSteps _ ((calm_setRun _).mpr ((calm_setRun _).mpr h))

@[simp] theorem calm_recompute (h : Calm a b) : Calm a (recompute b) := by
  simp only [recompute]
  split <;> simp [h]

@[simp] theorem calm_goOn (h : Calm a b) : Calm a (goOn b) := by
  simp only [goOn]
  split <;> simp [h]

theorem calm_heldRelease (h : Calm a b) : Calm a (heldRelease b) := by
  simp only [heldRelease]
  repeat' split
  all_goals simp [h]

/-- What SEQ does at the end of a release is calm. -/
theorem calm_seqReleased (h : Calm a b) : Calm a (seqReleased b) := by
  simp only [seqReleased]
  split
  · repeat' split
    all_goals simp [enterPhase, h]
  · exact calm_heldRelease h

theorem calm_reportOpened (before : Blocks) (h : Calm a b) : Calm a (reportOpened before b) := by
  simp only [reportOpened]
  split
  · exact calm_seqReleased h
  · exact h

end

/-! ## The end of a release -/

theorem flapClose_keeps (b : Blocks) : (flapClose b).inputs.upperStop = b.inputs.upperStop ∧ (flapClose b).seq = b.seq
    ∧ (flapClose b).clock = b.clock ∧ (flapClose b).cku.knifeReturn = b.cku.knifeReturn := by
  rw [flapClose_iteEq]
  split <;> exact ⟨rfl, rfl, rfl, rfl⟩

/-- The flap asked to close, as CKU keeps it (R119). -/
theorem cku_flapClose (b : Blocks) :
    (flapClose b).cku =
      (let closes : Bool := decide (b.msu.estop = .chainOk ∧ (b.cku.flap = .opening ∨ b.cku.flap = .opened))
       { b.cku with flap := if closes then .closing else b.cku.flap,
                    flapDeadline := if closes then some (b.clock + 600) else b.cku.flapDeadline }) := by
  rw [flapClose_iteEq]
  by_cases hcloses : b.msu.estop = .chainOk ∧ (b.cku.flap = .opening ∨ b.cku.flap = .opened)
  · simp only [if_pos hcloses, decide_eq_true hcloses, if_true]
  · simp only [if_neg hcloses, decide_eq_false hcloses, Bool.false_eq_true, if_false]

theorem atRest_setResetting {c : Cku} (h : c.AtRest) (v w : Bool) : Cku.AtRest { c with resetting := v, resetReleased := w } :=
  ⟨h.state, h.cycle, h.valves, h.knifeReturn, h.deadline⟩

theorem atRest_ckuResetEnds {b : Blocks} (h : b.cku.AtRest) : (ckuResetEnds b).cku.AtRest := by
  simp only [ckuResetEnds]
  split
  · exact atRest_setResetting h _ _
  · exact h

/-- A release that is over leaves CKU at rest (R118). -/
theorem atRest_ckuOpened (b : Blocks) : (ckuOpened b).cku.AtRest := by
  simp only [ckuOpened]
  refine atRest_ckuResetEnds ?_
  repeat' split
  all_goals exact ⟨rfl, rfl, rfl, rfl, rfl⟩

theorem reportOpened_of_ne {before after : Blocks} (h : after.cku.state ≠ .open_) : reportOpened before after = after :=
  if_neg fun hall => h hall.2.1

theorem reportOpened_ckuRelease_of_down {before b : Blocks} (h : b.inputs.upperStop = false) :
    reportOpened before (ckuRelease b) = { b with cku := { b.cku with
      state := .releasing, valves := { Valves.closed with raising := true }, deadline := some (b.clock + 1500) } } := by
  rw [ckuRelease_of_down h]
  exact reportOpened_of_ne nofun

/-- A release with the clamp up already ends at once, with CKU at rest whatever SEQ does next (R118). -/
theorem atRest_reportOpened_ckuRelease_of_up {before b : Blocks} (h : b.inputs.upperStop = true) :
    (reportOpened before (ckuRelease b)).cku.AtRest := by
  rw [ckuRelease_of_up h]
  exact (calm_reportOpened before (Calm.refl (ckuOpened b))).cku (atRest_ckuOpened b)

theorem tdc_reportOpened (before b : Blocks) : (reportOpened before b).inputs.tdc = b.inputs.tdc :=
  congrArg Prod.fst (calm_reportOpened before (Calm.refl b)).sensed

theorem tdc_ckuRelease (b : Blocks) : (ckuRelease b).inputs.tdc = b.inputs.tdc := congrArg Prod.fst (sensed_ckuRelease b)

theorem tdc_flapClose (b : Blocks) : (flapClose b).inputs.tdc = b.inputs.tdc := congrArg Prod.fst (sensed_flapClose b)

/-! ## TDC in RETURNING -/

/-- The report of TDC to SEQ touches its phase alone (R33). -/
theorem seqTdc_eq (b : Blocks) :
    seqTdc b = { b with seq := { b.seq with run := { b.seq.run with
      phase := if b.seq.state = .running ∧ b.seq.run.phase = .returning then .release else b.seq.run.phase } } } := by
  simp only [seqTdc]
  split <;> rfl

/-- The report of TDC after a reversal touches SEQ alone (R32). -/
theorem seqBackToPermit_keeps (b : Blocks) :
    (seqBackToPermit b).inputs = b.inputs ∧ (seqBackToPermit b).cku = b.cku
      ∧ (b.seq.state = .running → b.seq.run.phase = .stroke →
          (seqBackToPermit b).seq.run.phase = .permit ∧ (seqBackToPermit b).seq.run.wait = .permit) := by
  simp only [seqBackToPermit]
  split
  case isTrue => exact ⟨rfl, rfl, fun _ _ => ⟨rfl, rfl⟩⟩
  case isFalse hnot => exact ⟨rfl, rfl, fun hrun hphase => absurd ⟨hrun, hphase⟩ hnot⟩

/-- The block at a TDC that ends a cut: the return valve shut, and a BDC taken for SEQ reported (R33, R115). -/
def atTdc (c : Cycle) (b : Blocks) : Blocks :=
  if c.bdcTaken = true ∧ c.asker = .seq then seqTdc (closeReturn b) else closeReturn b

theorem atTdc_keeps (c : Cycle) (b : Blocks) : (atTdc c b).inputs = b.inputs ∧ (atTdc c b).msu = b.msu
    ∧ (atTdc c b).clock = b.clock ∧ (atTdc c b).cku = (closeReturn b).cku
    ∧ (c.bdcTaken = true → c.asker = .seq → b.seq.state = .running → b.seq.run.phase = .returning →
        (atTdc c b).seq.run.phase = .release) := by
  simp only [atTdc, seqTdc_eq]
  split
  case isTrue => exact ⟨rfl, rfl, rfl, rfl, fun _ _ hrun hphase => if_pos ⟨hrun, hphase⟩⟩
  case isFalse hnot => exact ⟨rfl, rfl, rfl, rfl, fun htaken hasker => absurd ⟨htaken, hasker⟩ hnot⟩

section
variable {b : Blocks}

theorem returnedToTdc_of_knifeReturn (h : b.cku.knifeReturn = true) :
    returnedToTdc b = reportOpened (closeReturn b) (ckuRelease (flapClose (closeReturn b))) := if_pos h

variable (hreturn : b.cku.knifeReturn = false)
include hreturn

theorem returnedToTdc_of_fault {code : CkuFault} (h : b.cku.fault = some code) :
    returnedToTdc b = ckuEnterFault code (closeReturn b) := by
  simp only [returnedToTdc, hreturn, h, Bool.false_eq_true, if_false]

theorem returnedToTdc_of_none (hfault : b.cku.fault = none) (h : b.cku.cycle = none) :
    returnedToTdc b = reportOpened (closeReturn b) (ckuRelease (closeReturn b)) := by
  simp only [returnedToTdc, hreturn, hfault, h, Bool.false_eq_true, if_false]

theorem returnedToTdc_of_cycle {c : Cycle} (hfault : b.cku.fault = none) (h : b.cku.cycle = some c) :
    returnedToTdc b =
      if c.bdcTaken = true ∨ c.restAsked = true then
        reportOpened (atTdc c b) (ckuRelease (if c.restAsked then flapClose (atTdc c b) else atTdc c b))
      else if c.asker = .seq then seqBackToPermit (enterClamped (closeReturn b)) else enterClamped (closeReturn b) := by
  simp only [returnedToTdc, hreturn, hfault, h, Bool.false_eq_true, if_false]
  rfl

end

/-- Back to CLAMPED after a reversal (R117). -/
theorem cku_enterClamped_closeReturn {b : Blocks} {c : Cycle} (h : b.cku.cycle = some c) :
    (enterClamped (closeReturn b)).cku = { b.cku with
      valves := { b.cku.valves with ret := false }, returnClosedAt := some b.clock, state := .clamped,
      deadline := if c.asker = .manual then some (b.clock + 10000) else none } := by
  have hmanual : manualCycle (closeReturn b) = (c.asker == .manual) := manualCycle_of_cycle (b := closeReturn b) h
  rw [enterClamped, permitDeadline, hmanual]
  cases c.asker <;> rfl

theorem tdc_returnedToTdc (b : Blocks) : (returnedToTdc b).inputs.tdc = b.inputs.tdc := by
  cases hreturn : b.cku.knifeReturn with
  | true =>
    rw [returnedToTdc_of_knifeReturn hreturn, tdc_reportOpened, tdc_ckuRelease, tdc_flapClose]
    rfl
  | false =>
    cases hfault : b.cku.fault with
    | some code =>
      rw [returnedToTdc_of_fault hreturn hfault]
      simp only [ckuEnterFault, inputs_raise]
      split <;> rfl
    | none =>
      cases hcycle : b.cku.cycle with
      | none =>
        rw [returnedToTdc_of_none hreturn hfault hcycle, tdc_reportOpened, tdc_ckuRelease]
        rfl
      | some c =>
        have hkeeps := congrArg Inputs.tdc (atTdc_keeps c b).1
        rw [returnedToTdc_of_cycle hreturn hfault hcycle]
        split
        · rw [tdc_reportOpened, tdc_ckuRelease]
          split
          · exact (tdc_flapClose _).trans hkeeps
          · exact hkeeps
        · split
          · exact congrArg Inputs.tdc (seqBackToPermit_keeps _).1
          · rfl

theorem cku_ckuEnterFault {b : Blocks} (code : CkuFault) (h : b.cku.state ≠ .fault) :
    (ckuEnterFault code b).cku.state = .fault ∧ (ckuEnterFault code b).cku.fault = some (b.cku.fault.getD code)
      ∧ (ckuEnterFault code b).cku.valves = Valves.closed ∧ (ckuEnterFault code b).cku.cycle = none := by
  rw [ckuEnterFault, if_neg h]
  exact ⟨rfl, rfl, rfl, rfl⟩

/-- TDC with the clamp up already, where the cycle is to be released (R118, R122). -/
theorem atRest_returnedToTdc_of_up {b : Blocks} (hfault : b.cku.fault = none)
    (hcut : ∀ c, b.cku.cycle = some c → c.bdcTaken = true ∨ c.restAsked = true) (hup : b.inputs.upperStop = true) :
    (returnedToTdc b).cku.AtRest := by
  cases hreturn : b.cku.knifeReturn with
  | true =>
    rw [returnedToTdc_of_knifeReturn hreturn]
    exact atRest_reportOpened_ckuRelease_of_up ((flapClose_keeps (closeReturn b)).1.trans hup)
  | false =>
    cases hcycle : b.cku.cycle with
    | none =>
      rw [returnedToTdc_of_none hreturn hfault hcycle]
      exact atRest_reportOpened_ckuRelease_of_up hup
    | some c =>
      have hkept : (atTdc c b).inputs.upperStop = true := (congrArg Inputs.upperStop (atTdc_keeps c b).1).trans hup
      rw [returnedToTdc_of_cycle hreturn hfault hcycle, if_pos (hcut c hcycle)]
      refine atRest_reportOpened_ckuRelease_of_up ?_
      split
      · exact (flapClose_keeps (atTdc c b)).1.trans hkept
      · exact hkept

/-! ## The upper stop -/

/-- The end of the release but for a reset's part (R118, R125, R127). -/
def ckuUp (b : Blocks) : Blocks :=
  let up : Blocks := { b with cku := { b.cku with
    state := .open_, cycle := none, knifeReturn := false, resetReleased := b.cku.resetting, valves := Valves.closed,
    deadline := none } }
  if b.cku.knifeReturn then raise .knife { up with cku := { up.cku with lastManual := some true } }
  else
    match b.cku.cycle with
    | some c =>
      if c.asker = .manual then raise .knife { up with cku := { up.cku with lastManual := some c.bdcTaken } } else up
    | none => up

theorem ckuUp_keeps (b : Blocks) : (ckuUp b).cku.resetting = b.cku.resetting
    ∧ (ckuUp b).cku.resetReleased = b.cku.resetting ∧ (ckuUp b).cku.flap = b.cku.flap := by
  simp only [ckuUp]
  repeat' split
  all_goals exact ⟨rfl, rfl, rfl⟩

theorem ckuOpened_eq (b : Blocks) :
    ckuOpened b =
      if b.cku.resetting = true ∧ b.cku.flap = .closed then
        raise .knife { ckuUp b with cku := { (ckuUp b).cku with resetting := false, resetReleased := false } }
      else ckuUp b := by
  obtain ⟨hresetting, hreleased, hflap⟩ := ckuUp_keeps b
  have hopened : ckuOpened b = ckuResetEnds (ckuUp b) := by
    simp only [ckuOpened, ckuUp]
    cases b.cku.knifeReturn
    · cases b.cku.cycle <;> rfl
    · rfl
  rw [hopened, ckuResetEnds, hresetting, hreleased, hflap]
  exact if_congr ⟨fun h => ⟨h.1, h.2.2⟩, fun h => ⟨h.1, h.1, h.2⟩⟩ rfl rfl

theorem seq_ckuOpened (b : Blocks) : (ckuOpened b).seq = b.seq := by
  rw [ckuOpened_eq, ckuUp]
  repeat' split
  all_goals rfl

theorem wasteStep_eq (b : Blocks) :
    wasteStep b = match currentStep b with | some (.cut _ _ w _ _) => w | _ => false := (rfl)

/-- The end of a release by the phase SEQ is in (R33, R44). -/
theorem seqReleased_eq (b : Blocks) :
    seqReleased b =
      let fewer : Running := { b.seq.run with cutsLeft := b.seq.run.cutsLeft - 1 }
      if b.seq.state = .running ∧ b.seq.run.phase = .release then
        if wasteStep b = true ∧ b.cku.flap ≠ .closed then
          flapClose { b with seq := { b.seq with run := { fewer with phase := .flapClose, wait := .unit } } }
        else if 0 < fewer.cutsLeft then recompute { b with seq := { b.seq with run := fewer } }
        else nextStep { b with seq := { b.seq with run := fewer } }
      else if b.seq.state = .held ∧ (b.seq.run.phase = .returning ∨ b.seq.run.phase = .release) then
        { b with seq := { b.seq with run :=
            if fewer.cutsLeft = 0 then
              { fewer with loc := ⟨b.seq.run.loc.prog, b.seq.run.loc.index + 1⟩, phase := .none }
            else { fewer with phase := .compute } } }
      else b := by
  rw [seqReleased, heldRelease]
  refine if_congr Iff.rfl ?_ (if_congr Iff.rfl ?_ rfl)
  · by_cases hwaste : wasteStep b = true
    · by_cases hflap : b.cku.flap = .closed
      · exact (if_pos hwaste).trans ((if_pos hflap).trans (if_neg fun h => h.2 hflap).symm)
      · exact (if_pos hwaste).trans ((if_neg hflap).trans (if_pos ⟨hwaste, hflap⟩).symm)
    · exact (if_neg hwaste).trans (if_neg fun h => hwaste h.1).symm
  · by_cases hlast : b.seq.run.cutsLeft - 1 = 0
    · rw [if_pos hlast, if_pos hlast]
      rfl
    · rw [if_neg hlast, if_neg hlast]
      rfl

/-- The upper stop in RELEASING: SEQ is told but of a manual cut (R118). -/
theorem upperStopCovered_eq (b : Blocks) :
    upperStopCovered b =
      let up := { b with inputs := { b.inputs with upperStop := true } }
      if b.cku.state = .releasing then
        if manualCycle b then ckuOpened up else seqReleased (ckuOpened up)
      else up := by
  refine if_ctx_congr Iff.rfl (fun hreleasing => ?_) fun _ => rfl
  cases hmanual : manualCycle b
  · exact if_pos ⟨by rw [hreleasing]; exact nofun, cku_state_ckuOpened _, hmanual⟩
  · exact if_neg fun hall => by simp [hmanual] at hall

/-! ## The repeats -/

theorem seq_gaxStop (b : Blocks) : (gaxStop b).seq = b.seq := by
  simp only [gaxStop, gaxStopped]
  repeat' split
  all_goals rfl

theorem seq_gaxRest (b : Blocks) : (gaxRest b).seq = b.seq := by
  simp only [gaxRest]
  split
  · exact seq_gaxStop _
  · rfl

theorem cku_gaxRest (b : Blocks) : (gaxRest b).cku = b.cku := by
  simp only [gaxRest]
  split
  · exact cku_gaxStop _
  · rfl

theorem seq_trnRest (b : Blocks) : (trnRest b).seq = b.seq := by
  simp only [trnRest, turnToRest]
  repeat' split
  all_goals rfl

/-- The rest of a unit in OPEN tells SEQ of no release. -/
theorem seq_ckuToRest_of_open {b : Blocks} (h : b.cku.state = .open_) : (ckuToRest b).seq = b.seq := by
  rw [ckuToRest_eq_ckuRest (.inl h)]
  have hflap := (flapClose_keeps (setCku (fun c => { c with cycle := none }) b)).2.1
  simp only [ckuRest, h]
  split
  · exact hflap
  · exact hflap

theorem seq_unitsToRest_of_open {b : Blocks} (h : b.cku.state = .open_) : (unitsToRest b).seq = b.seq := by
  have hopen : (gaxRest b).cku.state = .open_ := by rw [cku_gaxRest, h]
  rw [unitsToRest, seq_trnRest, seq_ckuToRest_of_open hopen, seq_gaxRest]

theorem run_holdCause_of_open {b : Blocks} (cause : HoldCause) (h : b.cku.state = .open_) :
    (holdCause cause b).seq.run = b.seq.run := by
  simp only [holdCause]
  split
  · rw [seq_unitsToRest_of_open (b := enterHeld cause b) h]
    rfl
  · rfl
  · rfl

theorem run_askMove_of_open {b : Blocks} (kind : MoveKind) (p : Um) (h : b.cku.state = .open_) :
    (askMove kind p b).seq.run = b.seq.run := by
  simp only [askMove]
  repeat' split
  case h_1.isTrue start _ _ => exact congrArg Seq.run (gaxBegin_keeps kind .seq p false start b).2.1
  case h_5.isTrue => exact congrArg Seq.run (seq_gaxStop b)
  case h_6.isTrue => exact congrArg Seq.run (seq_gaxStop b)
  all_goals first | exact run_holdCause_of_open _ h | rfl

/-- A CUT computed with CKU in OPEN keeps its repeats (R28, R33). -/
theorem cutsLeft_recompute_of_open {b : Blocks} (h : b.cku.state = .open_) :
    (recompute b).seq.run.cutsLeft = b.seq.run.cutsLeft := by
  simp only [recompute, computeCut]
  split
  · repeat' split
    · rw [run_holdCause_of_open]
      · rfl
      · exact h
    · rw [run_askMove_of_open]
      · rfl
      · exact h
    · rfl
  · rfl

/-- A repeat fewer after a release that is not the last (R33). -/
theorem cutsLeft_seqReleased {b : Blocks} (hopen : b.cku.state = .open_) (hrun : b.seq.state = .running)
    (hphase : b.seq.run.phase = .release) (hmore : 1 < b.seq.run.cutsLeft) :
    (seqReleased b).seq.run.cutsLeft + 1 = b.seq.run.cutsLeft := by
  have hfewer : b.seq.run.cutsLeft - 1 + 1 = b.seq.run.cutsLeft := Nat.sub_add_cancel (by omega)
  have hleft : 0 < b.seq.run.cutsLeft - 1 := by omega
  rw [seqReleased_eq]
  refine Eq.trans (congrArg (· + 1) ?_) hfewer
  dsimp only
  rw [if_pos ⟨hrun, hphase⟩, if_pos hleft]
  split
  · exact congrArg (fun q => q.run.cutsLeft) (flapClose_keeps _).2.1
  · exact cutsLeft_recompute_of_open hopen

end Sys2Proof.Machine

open Sys2Proof Sys2Proof.Machine

/-- Settles O34: MANUAL_CUT by its order, and its conditions as `manualCutConditions_iff` says them. -/
theorem clampingBegins : Obligations.ClampingBegins := by
  refine ⟨fun p s h => (run_asRequest h).trans (next_act_congr s fun b => ?manual), fun b => manualCutConditions_iff,
    fun b => ?allowed, fun s => next_act_congr s fun b => ?begins⟩
  case manual =>
    refine if_congr Iff.rfl rfl ?_
    by_cases hall : manualCutConditions b = true
    · rw [if_neg (by simp [hall]), if_neg (by simp [hall]), manualCutBegins_eq hall, limitPressure_eq]
    · simp only [Bool.not_eq_true] at hall
      rw [if_pos (by simp [hall]), if_pos hall]
  case allowed =>
    rw [manualCutAllowed_iff, manualPosition_eq] <;> rfl
  case begins =>
    show Machine.clampingBegins b = _
    unfold Machine.clampingBegins
    cases b.cku.cycle with
    | none => rfl
    | some c => exact if_congr (and_congr_right fun _ => clampingConditions_iff) rfl rfl

/-- Settles O35: a sample by the state it meets, SEQ's part at pressure by the flap. -/
theorem pressureSamples : Obligations.PressureSamples := by
  refine ⟨flapClose_iteEq, fun target waste b => ?asked, fun b c h => seqAtPressure_of_cycle h,
    fun n s => next_act_congr s (pressureSample_eq n), fun s => next_act_congr s fun b => ?timeout, fun code b => ⟨rfl, rfl⟩⟩
  case asked => exact if_congr clampRequestTaken_iff rfl rfl
  case timeout => exact if_congr Iff.rfl (congrArg (ckuFaults .clampTimeout) (clockAt_eq_match b.cku.deadline b)) rfl

/-- Settles O36: a release by `rearm_setButton` and the state it meets. -/
theorem twoHandButtons : Obligations.TwoHandButtons := by
  refine ⟨fun s => rfl, fun s => rfl, fun button s => next_act_congr s fun b => ?_⟩
  exact buttonReleased_eq button b

/-- Settles O37: the permit is `StrokeSafe` both ways, and the stroke begins at the end of the gap. -/
theorem strokeBegins : Obligations.StrokeBegins := by
  refine ⟨fun b => ⟨strokeSafe_of_permit, permit_of_strokeSafe⟩, fun s => next_act_congr s fun b => ?_⟩
  by_cases hpermit : strokePermit b = true
  · rw [if_pos hpermit]
    exact strokeBegins_of_permit hpermit (congrArg (max b.clock) (gapEnd_eq b.cku.returnClosedAt b))
  · exact (if_neg hpermit).trans (if_neg hpermit).symm

/-- Settles O38: the count and the wear by `countCut_beginGap`, the report by the asker. -/
theorem bdcCountsCut : Obligations.BdcCountsCut := by
  refine ⟨fun b c h => ⟨reportBdc_of_seq h, reportBdc_of_manual h⟩, fun b => rfl, fun r => ⟨rfl, rfl⟩,
    fun s => next_act_congr s fun b => ?_⟩
  by_cases hstroking : b.cku.state = .stroking
  · exact (bdcCovered_of_stroking hstroking).trans (if_pos hstroking).symm
  · exact (if_neg hstroking).trans (if_neg hstroking).symm

/-- Settles O39: each cause by its own branch. -/
theorem knifeReverses : Obligations.KnifeReverses := by
  unfold Obligations.KnifeReverses
  intro late
  have hlate : ∀ b : Blocks, clockAt b.cku.deadline b = late b := fun b => clockAt_eq_match b.cku.deadline b
  refine ⟨fun cause b => rfl, fun cause b => ?reverses, fun s => next_act_congr s fun b => ?stroke,
    fun s => next_act_congr s fun b => ?gap, fun s => next_act_congr s fun b => ?returns⟩
  case reverses => cases cause <;> rfl
  case stroke => exact if_congr Iff.rfl (congrArg (ckuReverses .strokeTime) (hlate b)) rfl
  case gap =>
    refine if_congr Iff.rfl ?_ rfl
    rw [← hlate, clockAt_eq]
    rfl
  case returns =>
    refine if_congr Iff.rfl ?_ rfl
    rw [← hlate] <;> rfl

/-- Settles O40: one case per branch of `returnedToTdc`; what SEQ does at a release is calm (`calm_reportOpened`). -/
theorem tdcEndsReturn : Obligations.TdcEndsReturn := by
  intro s
  refine ⟨s.act tdcCovered, rfl, rfl, ?_, fun hnot => if_neg hnot, fun hreturning => ?_⟩
  · simp only [blocks_act, tdcCovered]
    split
    · exact tdc_returnedToTdc _
    · rfl
  rw [blocks_act, show tdcCovered s.blocks = returnedToTdc (setInputs (fun i => { i with tdc := true }) s.blocks) from
    if_pos hreturning]
  generalize hcovered : setInputs (fun i => { i with tdc := true }) s.blocks = b
  have hseq : s.blocks.seq = b.seq := by rw [← hcovered]; rfl
  have hcku : s.blocks.cku = b.cku := by rw [← hcovered]; rfl
  have hup : s.blocks.inputs.upperStop = b.inputs.upperStop := by rw [← hcovered]; rfl
  have hclock : s.blocks.clock = b.clock := by rw [← hcovered]; rfl
  have hmsu : s.blocks.msu = b.msu := by rw [← hcovered]; rfl
  rw [hseq, hcku, hup, hclock, hmsu]
  rw [hcku] at hreturning
  refine ⟨fun code hreturn hfault => ?fault, fun c hreturn hfault hcycle htaken hrest => ?back,
    fun c hreturn hfault hcycle htaken hrest hdown => ?done, fun c hreturn hfault hcycle hrest hdown => ?rest,
    fun hreturn hdown => ?handReturn, fun hisUp hrun hdone => ?opened⟩
  case fault =>
    have hstay : (closeReturn b).cku.state = .returning := hreturning
    rw [returnedToTdc_of_fault hreturn hfault]
    obtain ⟨hstate, hcode, hvalves, hvoid⟩ := cku_ckuEnterFault (b := closeReturn b) code (by rw [hstay]; exact nofun)
    exact ⟨hstate, hcode.trans (congrArg (fun o => some (Option.getD o code)) hfault), hvalves, hvoid⟩
  case back =>
    rw [returnedToTdc_of_cycle hreturn hfault hcycle, if_neg (by simp [htaken, hrest])]
    have hclamped := cku_enterClamped_closeReturn hcycle
    obtain ⟨-, hcku, hphase⟩ := seqBackToPermit_keeps (enterClamped (closeReturn b))
    cases hasker : c.asker
    · rw [if_pos rfl, hcku, hclamped, hasker]
      exact ⟨rfl, fun _ => hphase⟩
    · rw [if_neg nofun, hclamped, hasker]
      exact ⟨rfl, nofun⟩
  case done =>
    obtain ⟨hinputs, -, hclock, hcku, hphase⟩ := atTdc_keeps c b
    rw [returnedToTdc_of_cycle hreturn hfault hcycle, if_pos (.inl htaken), if_neg (by simp [hrest]),
      reportOpened_ckuRelease_of_down (by rw [hinputs, hdown])]
    refine ⟨?_, hphase htaken⟩
    dsimp only
    rw [hcku, hclock]
    rfl
  case rest =>
    obtain ⟨hinputs, hmsu, hclock, hcku, hphase⟩ := atTdc_keeps c b
    obtain ⟨hupKept, hseqKept, hclockKept, -⟩ := flapClose_keeps (atTdc c b)
    rw [returnedToTdc_of_cycle hreturn hfault hcycle, if_pos (.inr hrest), if_pos hrest,
      reportOpened_ckuRelease_of_down (by rw [hupKept, hinputs, hdown])]
    refine ⟨?_, fun htaken hasker hrun hreturned => ?_⟩
    · dsimp only
      rw [cku_flapClose, hclockKept, hcku, hmsu, hclock]
      rfl
    · dsimp only
      rw [hseqKept]
      exact hphase htaken hasker hrun hreturned
  case handReturn =>
    obtain ⟨hupKept, -⟩ := flapClose_keeps (closeReturn b)
    rw [returnedToTdc_of_knifeReturn hreturn, reportOpened_ckuRelease_of_down (hupKept.trans hdown)]
    exact ⟨rfl, rfl⟩
  case opened =>
    have hrest : (returnedToTdc b).cku.AtRest := by
      rcases hdone with hreturn | ⟨hfault, hcut⟩
      · rw [returnedToTdc_of_knifeReturn hreturn]
        exact atRest_reportOpened_ckuRelease_of_up ((flapClose_keeps (closeReturn b)).1.trans hisUp)
      · exact atRest_returnedToTdc_of_up hfault hcut hisUp
    exact ⟨hrest.state, hrest.cycle, hrest.valves, hrest.knifeReturn⟩

/-- Settles O41: the end of a release is `ckuUp`, SEQ's part `seqReleased_eq`; CKU stays at rest in it. -/
theorem clampReleases : Obligations.ClampReleases := by
  refine ⟨fun s => next_act_congr s fun b => ?covered, ckuOpened_eq, fun b => ?released, fun b m n w d o hstep => ?compute,
    fun b => rfl, fun before after => rfl, fun s => ⟨s.act upperStopCovered, rfl, rfl, ?up, fun hnot => if_neg hnot,
      fun hreleasing => ?rest, fun hreleasing hprogram hrun hphase hmore => ?fewer⟩,
    fun s => next_act_congr s fun b => ?timeout, fun s hclamped hmanual hdown => next_act_of_eq ?lower,
    fun s hclamped hmanual hup => next_act_of_eq ?opened, fun s hnot => ?still⟩
  case covered => exact upperStopCovered_eq b
  case released =>
    rw [seqReleased_eq, wasteStep_eq] <;> rfl
  case compute => simp only [recompute, hstep]
  case up =>
    rw [blocks_act, upperStopCovered_eq]
    repeat' split
    · exact congrArg (fun p => p.2.1) (sensed_ckuOpened _)
    · exact congrArg (fun p => p.2.1) ((calm_seqReleased (Calm.refl _)).sensed.trans (sensed_ckuOpened _))
    · rfl
  case rest =>
    have hrest : (upperStopCovered s.blocks).cku.AtRest := by
      rw [upperStopCovered_eq, if_pos hreleasing]
      split
      · exact atRest_ckuOpened _
      · exact (calm_seqReleased (Calm.refl _)).cku (atRest_ckuOpened _)
    exact ⟨hrest.state, hrest.cycle, hrest.valves, hrest.knifeReturn, hrest.deadline⟩
  case fewer =>
    have hseq := seq_ckuOpened { s.blocks with inputs := { s.blocks.inputs with upperStop := true } }
    rw [blocks_act, upperStopCovered_eq]
    dsimp only
    rw [if_pos hreleasing, if_neg (by simp [hprogram])]
    refine (cutsLeft_seqReleased (cku_state_ckuOpened _) ?_ ?_ ?_).trans (by rw [hseq])
    · rw [hseq, hrun]
    · rw [hseq, hphase]
    · rw [hseq]
      exact hmore
  case timeout => exact if_congr Iff.rfl (congrArg (ckuFaults .releaseTimeout) (clockAt_eq_match b.cku.deadline b)) rfl
  case lower =>
    rw [manualPermitTimeout, if_pos ⟨hclamped, hmanual⟩, clockAt_eq]
    exact reportOpened_ckuRelease_of_down hdown
  case opened =>
    rw [manualPermitTimeout, if_pos ⟨hclamped, hmanual⟩, clockAt_eq]
    dsimp only
    rw [ckuRelease_of_up (by exact hup)]
    exact if_neg fun hall => Bool.false_ne_true (hall.2.2.symm.trans hmanual)
  case still =>
    refine congrArg (fun b => Host.Outcome.next { s with blocks := b }) (if_neg fun hall => ?_)
    exact hnot.elim (fun hstate => hstate hall.1) fun hprogram => by simp [hprogram] at hall

end

section
/-! SUPPORT. SETUP's end, the interlocks and the flap, the Pile Turner (chapter 07) and the Stack Lift (chapter 08). -/

set_option Elab.async false

namespace Sys2Proof.Machine

open Sys2Proof

/-! ## The rests of SETUP's work, each in its unit -/

theorem lnk_flapClose (b : Blocks) : (flapClose b).lnk = b.lnk := by
  rw [flapClose_iteEq]
  split <;> rfl

theorem flags_gauge_ckuOpened (b : Blocks) : (ckuOpened b).lnk.flags.gauge = b.lnk.flags.gauge := by
  rw [ckuOpened_eq, ckuUp]
  repeat' split
  all_goals rfl

theorem flags_gauge_ckuRelease (b : Blocks) : (ckuRelease b).lnk.flags.gauge = b.lnk.flags.gauge := by
  rw [ckuRelease]
  split
  · exact flags_gauge_ckuOpened b
  · rfl

theorem flags_gauge_ckuRest (b : Blocks) : (ckuRest b).lnk.flags.gauge = b.lnk.flags.gauge := by
  have hreleases : (flapClose (ckuRelease (askRest b))).lnk.flags.gauge = b.lnk.flags.gauge := by
    rw [lnk_flapClose]
    exact flags_gauge_ckuRelease (askRest b)
  simp only [ckuRest]
  split
  case h_1 =>
    have hflap := congrArg (fun l => l.flags.gauge) (lnk_flapClose (setCku (fun c => { c with cycle := none }) b))
    split <;> exact hflap
  case h_2 => exact hreleases
  case h_3 => exact hreleases
  case h_4 => rfl
  case h_5 => split <;> rfl
  case h_6 => split <;> rfl
  case h_7 => rw [lnk_flapClose]; rfl
  case h_8 => rfl
  case h_9 => rfl

/-- The gauge's rest touches GAX and its flag alone. -/
theorem gaxModeRest_keeps (b : Blocks) : (gaxModeRest b).inputs = b.inputs ∧ (gaxModeRest b).seq = b.seq
    ∧ (gaxModeRest b).cku = b.cku ∧ (gaxModeRest b).trn = b.trn ∧ (gaxModeRest b).clock = b.clock
    ∧ (gaxModeRest b).trk = b.trk := by
  simp only [gaxModeRest, gaxStop, gaxStopped]
  repeat' split
  all_goals exact ⟨rfl, rfl, rfl, rfl, rfl, rfl⟩

/-- CKU's rest touches neither the gauge nor the turner, nor the gauge's flag. -/
theorem ckuModeRest_keeps (b : Blocks) : (ckuModeRest b).gax = b.gax ∧ (ckuModeRest b).trn = b.trn
    ∧ sensed (ckuModeRest b) = sensed b ∧ (ckuModeRest b).lnk.flags.gauge = b.lnk.flags.gauge := by
  simp only [ckuModeRest]
  split
  · exact ⟨congrArg Prod.fst (apart_ckuRest b), congrArg Prod.snd (apart_ckuRest b), sensed_ckuRest b,
      flags_gauge_ckuRest b⟩
  · exact ⟨rfl, rfl, rfl, rfl⟩

/-- The turner's rest touches TRN alone. -/
theorem trnModeRest_keeps (b : Blocks) : (trnModeRest b).gax = b.gax ∧ (trnModeRest b).cku = b.cku
    ∧ (trnModeRest b).lnk = b.lnk := by
  simp only [trnModeRest, turnToRest]
  repeat' split
  all_goals exact ⟨rfl, rfl, rfl⟩

theorem ckuModeRest_of_not {b : Blocks} (hprogram : manualCycle b = false) (hreturn : b.cku.knifeReturn = false) :
    ckuModeRest b = b := if_neg (by simp [hprogram, hreturn])

theorem calm_ckuModeRest {a b : Blocks} (h : Calm a b) : Calm a (ckuModeRest b) := by
  obtain ⟨hgax, htrn, hsensed, -⟩ := ckuModeRest_keeps b
  refine calm_of_cku h (fun hrest => ?_) hsensed (Prod.ext hgax htrn)
  have hprogram : manualCycle b = false := by rw [manualCycle, hrest.cycle]
  rw [ckuModeRest_of_not hprogram hrest.knifeReturn]
  exact hrest

theorem manualCycle_congr {b c : Blocks} (h : c.cku = b.cku) : manualCycle c = manualCycle b := by
  rw [manualCycle, manualCycle, h]

/-- The block after the rests of the gauge and of CKU, with the release that ended in them reported (R168). -/
def ckuLeft (b : Blocks) : Blocks := reportOpened (gaxModeRest b) (ckuModeRest (gaxModeRest b))

theorem leaveSetup_eq (b : Blocks) : leaveSetup b = trnModeRest (ckuLeft b) := rfl

theorem calm_ckuLeft {a b : Blocks} (h : Calm a (gaxModeRest b)) : Calm a (ckuLeft b) :=
  calm_reportOpened _ (calm_ckuModeRest h)

/-- A release is reported to no running program: SEQ's record alone can move (R44). -/
theorem reportOpened_keeps {before after : Blocks} (h : after.seq.state ≠ .running) :
    (reportOpened before after).gax = after.gax ∧ (reportOpened before after).trn = after.trn
      ∧ (reportOpened before after).lnk = after.lnk := by
  simp only [reportOpened, seqReleased_eq]
  split
  · rw [if_neg fun hall => h hall.1]
    split <;> exact ⟨rfl, rfl, rfl⟩
  · exact ⟨rfl, rfl, rfl⟩

theorem seq_state_ckuModeRest (b : Blocks) : (ckuModeRest b).seq.state = b.seq.state := by
  simp only [ckuModeRest]
  split
  · exact congrArg (fun t => t.1.1) (seqTold_ckuRest b)
  · rfl

theorem ckuLeft_of_not_running {b : Blocks} (h : b.seq.state ≠ .running) :
    (ckuLeft b).gax = (gaxModeRest b).gax ∧ (ckuLeft b).trn = b.trn
      ∧ (ckuLeft b).lnk.flags.gauge = (gaxModeRest b).lnk.flags.gauge := by
  obtain ⟨-, hseq, -, htrnKept, -⟩ := gaxModeRest_keeps b
  obtain ⟨hgax, htrn, -, hflag⟩ := ckuModeRest_keeps (gaxModeRest b)
  have hstate : (ckuModeRest (gaxModeRest b)).seq.state ≠ .running := by
    rw [seq_state_ckuModeRest, hseq]
    exact h
  obtain ⟨hgaxTold, htrnTold, hlnkTold⟩ := reportOpened_keeps (before := gaxModeRest b) hstate
  refine ⟨hgaxTold.trans hgax, htrnTold.trans (htrn.trans htrnKept), ?_⟩
  rw [ckuLeft, hlnkTold, hflag]

/-- A manual cut's release is not reported (R126). -/
theorem ckuLeft_of_manual {b : Blocks} (h : manualCycle b = true) : ckuLeft b = ckuRest (gaxModeRest b) := by
  obtain ⟨-, -, hcku, -⟩ := gaxModeRest_keeps b
  have hmanual : manualCycle (gaxModeRest b) = true := (manualCycle_congr hcku).trans h
  rw [ckuLeft, ckuModeRest, if_pos (.inl hmanual)]
  exact if_neg fun hall => Bool.false_ne_true (hall.2.2.symm.trans hmanual)

/-! ## A stop of the gauge as SETUP is left -/

/-- A stop that decelerates goes on whatever SEQ then does. -/
theorem gax_leaveSetup_of_decelerating {b : Blocks} (h : gaxModeRest b = gaxDecelerate b)
    (hvoid : moveInFlight (gaxDecelerate b) = false) :
    (leaveSetup b).gax.state = .moving ∧ (leaveSetup b).gax.stopping = true
      ∧ (leaveSetup b).gax.deadline = some (b.clock + 800) ∧ moveInFlight (leaveSetup b) = false := by
  have hcalm : Calm (gaxDecelerate b) (ckuLeft b) := calm_ckuLeft (h ▸ Calm.refl _)
  have hgax := (trnModeRest_keeps (ckuLeft b)).1
  have heq := hcalm.gax rfl hvoid
  have hflight := (hcalm.moving rfl hvoid).2
  rw [leaveSetup_eq, moveInFlight, hgax]
  exact ⟨congrArg Gax.state heq, congrArg Gax.stopping heq, congrArg Gax.deadline heq, hflight⟩

theorem moveInFlight_voided {b : Blocks} {m : MoveRecord} (h : b.gax.move = some m.voided) : moveInFlight b = false := by
  rw [moveInFlight, h]
  simp only [MoveRecord.voided]
  cases hcompleted : m.completed <;> simp [hcompleted]

theorem moveInFlight_of_map_voided {b c : Blocks} (h : c.gax.move = b.gax.move.map MoveRecord.voided) :
    moveInFlight c = false := by
  cases hmove : b.gax.move with
  | none => rw [moveInFlight, h, hmove, Option.map_none]
  | some m => exact moveInFlight_voided (by rw [h, hmove, Option.map_some])

/-! ## CKU and TRN as SETUP is left -/

theorem ckuRest_of_clamping {b : Blocks} (h : b.cku.state = .clamping ∨ b.cku.state = .clamped) :
    ckuRest b = flapClose (ckuRelease (askRest b)) := by
  rcases h with h | h <;> simp only [ckuRest, h]

theorem ckuRest_of_gap {b : Blocks} (h : b.cku.state = .gap ∨ b.cku.state = .returning) :
    ckuRest b = if b.cku.knifeReturn then knifeReturnStops b else askRest b := by
  rcases h with h | h <;> simp only [ckuRest, h]

/-- The end of a manual cut's release gives its outcome, with notice KNIFE (R127, R130). -/
theorem ckuOpened_of_manual {b : Blocks} {c : Cycle} (hcycle : b.cku.cycle = some c) (hasker : c.asker = .manual)
    (hreturn : b.cku.knifeReturn = false) :
    (ckuOpened b).cku.lastManual = some c.bdcTaken ∧ (ckuOpened b).lnk.flags.knife = true := by
  rw [ckuOpened_eq]
  simp only [ckuUp, hreturn, hcycle, hasker, Bool.false_eq_true, if_false, if_true]
  split <;> exact ⟨rfl, rfl⟩

/-- SETUP's rest leaves the turner its turn: it is brought to rest by its own rule, whatever SEQ does (R139). -/
theorem calm_ckuLeft_self (b : Blocks) : Calm b (ckuLeft b) := by
  obtain ⟨hinputs, -, hcku, htrn, hclock, -⟩ := gaxModeRest_keeps b
  refine calm_ckuLeft ⟨?_, fun h => hcku ▸ h, fun hmoving hvoid => ?_, fun _ _ => by rw [htrn]⟩
  · rw [sensed, sensed, hinputs, hclock]
  · rw [gaxModeRest, if_neg (by simp [hmoving, hvoid])]

theorem turnToRest_of_asked {b : Blocks} (h : b.trn.state = .turning ∨ b.trn.state = .releasing) :
    turnToRest b = turnAskRest b := by
  rcases h with h | h <;> simp only [turnToRest, h]

/-! ## Creep, and the gauge's interlock stop -/

theorem turnInterlock_eq (b : Blocks) :
    turnInterlock b =
      if b.trn.state = .gripping ∨ b.trn.state = .turning ∨ b.trn.state = .releasing then trnFaults .interlockLost b else b :=
  rfl

/-- The knife off TDC: KNIFE_CREEP where no stroke is commanded, and the turner's interlock (R121, R137). -/
theorem tdcUncovered_eq (b : Blocks) :
    tdcUncovered b =
      (let off := { b with inputs := { b.inputs with tdc := false } }
       if b.inputs.tdc = false then b
       else if b.cku.state = .open_ ∨ b.cku.state = .clamping ∨ b.cku.state = .clamped ∨ b.cku.state = .releasing then
         turnInterlock (ckuFaults .knifeCreep off)
       else turnInterlock off) := by
  refine if_congr (by simp) rfl ?_
  cases b.cku.state <;> simp <;> rfl

theorem upperStopUncovered_eq (b : Blocks) :
    upperStopUncovered b =
      (let off := { b with inputs := { b.inputs with upperStop := false } }
       if b.inputs.upperStop = false then b
       else if b.cku.state = .open_ then jogWatch (turnInterlock (gaxInterlock (ckuFaults .clampCreep off)))
       else jogWatch (turnInterlock (gaxInterlock off))) := by
  refine if_congr (by simp) rfl ?_
  by_cases hopen : b.cku.state = .open_
  · exact (congrArg (fun c => jogWatch (turnInterlock (gaxInterlock c))) (if_pos hopen)).trans (if_pos hopen).symm
  · exact (congrArg (fun c => jogWatch (turnInterlock (gaxInterlock c))) (if_neg hopen)).trans (if_neg hopen).symm

/-- The move that an interlock stop makes pending again (R93). -/
def pendingAgain (b : Blocks) : Option PendingMove :=
  match b.gax.move with
  | some m => if m.asker = .seq ∧ m.completed = none then some ⟨m.kind, m.target⟩ else b.gax.pending
  | none => b.gax.pending

theorem pendingAgain_of_seq {b : Blocks} {m : MoveRecord} (hmove : b.gax.move = some m)
    (h : m.asker = .seq ∧ m.completed = none) : pendingAgain b = some ⟨m.kind, m.target⟩ := by
  rw [pendingAgain, hmove]
  exact if_pos h

theorem pendingAgain_of_not_seq {b : Blocks}
    (h : ∀ m, b.gax.move = some m → ¬ (m.asker = .seq ∧ m.completed = none)) : pendingAgain b = b.gax.pending := by
  unfold pendingAgain
  cases hmove : b.gax.move with
  | none => rfl
  | some m => exact if_neg (h m hmove)

theorem repend_eq (b : Blocks) : repend b = { b with gax := { b.gax with pending := pendingAgain b } } := by
  cases hmove : b.gax.move with
  | none =>
    rw [pendingAgain_of_not_seq (by simp [hmove]), repend, hmove]
  | some m =>
    by_cases hseq : m.asker = .seq ∧ m.completed = none
    · rw [pendingAgain_of_seq hmove hseq, repend, hmove]
      exact if_pos hseq
    · rw [pendingAgain_of_not_seq (by simpa [hmove] using hseq), repend, hmove]
      exact if_neg hseq

theorem gaxInterlock_of_moving {b : Blocks} (h : b.gax.state = .moving) :
    gaxInterlock b = if b.gax.stopping then b else raise .gauge { b with gax := { b.gax with
      pending := pendingAgain b, move := b.gax.move.map MoveRecord.voided, stopping := true, driveCount := none,
      deadline := some (b.clock + 800) } } := by
  have hslows := congrArg (fun st => { b with gax := { b.gax with
      state := st, pending := pendingAgain b, move := b.gax.move.map MoveRecord.voided, stopping := true,
      driveCount := none, deadline := some (b.clock + 800) } }) h.symm
  conv_lhs => simp only [gaxInterlock, h, repend_eq]
  exact if_congr Iff.rfl rfl (congrArg (raise .gauge) hslows)

theorem gaxInterlock_of_settling {b : Blocks} (h : b.gax.state = .settling) :
    gaxInterlock b = gaxStopped { b with gax := { b.gax with pending := pendingAgain b } } := by
  simp only [gaxInterlock, h, repend_eq]

theorem gaxInterlock_of_homing {b : Blocks} (h : b.gax.state = .homing) : gaxInterlock b = gaxStop b := by
  simp only [gaxInterlock, h]

theorem gaxInterlock_of_still {b : Blocks} (hmoving : b.gax.state ≠ .moving) (hsettling : b.gax.state ≠ .settling)
    (hhoming : b.gax.state ≠ .homing) : gaxInterlock b = b := by
  unfold gaxInterlock
  split
  case h_1 h => exact absurd h hmoving
  case h_2 h => exact absurd h hsettling
  case h_3 h => exact absurd h hhoming
  case h_4 => rfl

/-! ## The flap's movements -/

theorem flapCloses_eq (b : Blocks) :
    flapCloses b =
      (let covered := { b with inputs := { b.inputs with flapClosedSw := true } }
       if b.cku.flap = .closing then
         seqFlapClosed (
           if b.cku.resetting = true ∧ b.cku.resetReleased = true then
             raise .knife { covered with cku := { b.cku with
               flap := .closed, flapDeadline := none, resetting := false, resetReleased := false } }
           else { covered with cku := { b.cku with flap := .closed, flapDeadline := none } })
       else covered) := by
  refine if_congr Iff.rfl (congrArg seqFlapClosed (if_congr ?_ rfl rfl)) rfl
  exact ⟨fun h => ⟨h.1, h.2.1⟩, fun h => ⟨h.1, h.2, rfl⟩⟩

theorem flapTimeout_eq (b : Blocks) :
    flapTimeout b =
      if b.cku.flap = .opening ∨ b.cku.flap = .closing then
        ckuFaults .flapTimeout { b with
          clock := (match b.cku.flapDeadline with | some d => max b.clock d | none => b.clock),
          cku := { b.cku with flap := .opened, flapDeadline := none } }
      else b := by
  rw [flapTimeout, clockAt_eq]
  rfl

theorem flapDrive_eq (b : Blocks) :
    flapDrive b = if b.cku.flap = .opening then .ahead else if b.cku.flap = .closing then .back else .stopped := by
  unfold flapDrive
  cases b.cku.flap <;> rfl

/-! ## KNIFE_RETURN and KNIFE_CHANGED -/

theorem ckuUp_of_knifeReturn {b : Blocks} (h : b.cku.knifeReturn = true) :
    ckuUp b = raise .knife { b with cku := { b.cku with
      state := .open_, cycle := none, knifeReturn := false, resetReleased := b.cku.resetting, valves := Valves.closed,
      deadline := none, lastManual := some true } } := if_pos h

theorem knifeArgsOk_iff {k : Int} {w g : Nat} :
    knifeArgsOk k w g = true ↔ -300 ≤ k ∧ k ≤ 300 ∧ w ≤ 20 ∧ 4 ≤ g ∧ g ≤ 15 := by
  simp [knifeArgsOk, and_assoc]

/-- A record with no cuts is at no cap (R77). -/
theorem knifeChangedTaken_eq (k : Int) (w g : Nat) (b : Blocks) :
    knifeChangedTaken k w g b = raise .knife (ckuStore { b with cku := { b.cku with
      knife := { k := k, w := w, C := 0, G := g }, wearCap := false } }) := by
  have hwear : wearPart { k := k, w := w, C := 0, G := g } = 0 := by simp [wearPart]
  have hjudged : (wearPart { k := k, w := w, C := 0, G := g } == 400) = false := by rw [hwear]; rfl
  exact congrArg (fun v => raise .knife (ckuStore { b with cku := { b.cku with
    knife := { k := k, w := w, C := 0, G := g }, wearCap := v } })) hjudged

theorem knifeReturnTaken_eq (b : Blocks) :
    knifeReturnTaken b =
      if b.inputs.tdc = false then
        { b with cku := { b.cku with
          knifeReturn := true, state := .gap, valves := { Valves.closed with lowering := true },
          deadline := some (max (b.clock + b.cku.knife.G) (gapEnd b.cku.downClosedAt b)) } }
      else reportOpened b (ckuRelease (flapClose { b with cku := { b.cku with knifeReturn := true } })) := by
  unfold knifeReturnTaken
  cases b.inputs.tdc <;> rfl

/-! ## A turn begins -/

/-- TURN_MANUAL by the state of the turner, in the order of R141. -/
theorem turnManualRequest_eq (q : Nat) (b : Blocks) :
    turnManualRequest q b =
      if q = 0 ∨ 3 < q then answer .badArgument .nothing b
      else if b.msu.mode ≠ .setup then answer .refusedMode .nothing b
      else if b.trn.state = .gripping ∨ b.trn.state = .turning ∨ b.trn.state = .releasing then answer .busy .nothing b
      else if b.trn.state = .fault ∨ envelopeMet b = false ∨ b.cku.state ≠ .open_ ∨ turnConditions b = false then
        answer .refusedState .nothing b
      else answer .accepted .nothing (trnBegin .terminal q b) := by
  have hargument : ¬ (1 ≤ q ∧ q ≤ 3) ↔ q = 0 ∨ 3 < q := by omega
  have hallowed : (envelopeMet b && b.cku.state == .open_ && turnConditions b) = true
      ↔ ¬ (envelopeMet b = false ∨ b.cku.state ≠ .open_ ∨ turnConditions b = false) := by
    simp [and_assoc]
  refine if_congr hargument rfl (if_congr Iff.rfl rfl ?_)
  cases hstate : b.trn.state
  case parked =>
    simp only [hallowed, reduceCtorEq, false_or, or_self, if_false, ite_not]
  case fault => simp only [reduceCtorEq, or_self, if_false, true_or, if_true]
  all_goals simp only [reduceCtorEq, true_or, or_true, if_true]

theorem gaxStandsAt_clearance_iff {b : Blocks} :
    gaxStandsAt Config.clearancePos b = true ↔
      b.gax.state = .standstill ∧ b.gax.referenced = true ∧ ∃ p, gaxPosition b = some p ∧ 960000 ≤ p := gaxStandsAt_iff

theorem turnConditions_iff {b : Blocks} :
    turnConditions b = true ↔
      b.inputs.upperStop = true ∧ b.inputs.tdc = true ∧ b.msu.estop = .chainOk ∧ b.gax.state = .standstill
        ∧ b.gax.referenced = true ∧ ∃ p, gaxPosition b = some p ∧ 960000 ≤ p := by
  simp only [turnConditions, Bool.and_eq_true, chainOk_iff, gaxStandsAt_clearance_iff]
  constructor
  · rintro ⟨⟨⟨hup, htdc⟩, hstands⟩, hchain⟩
    exact ⟨hup, htdc, hchain, hstands⟩
  · rintro ⟨hup, htdc, hchain, hstands⟩
    exact ⟨⟨⟨hup, htdc⟩, hstands⟩, hchain⟩

theorem envelopeMet_iff {b : Blocks} :
    envelopeMet b = true ↔ ∃ k, b.trk.block = some k ∧ k.strDepth ≤ 920000 ∧ k.strWidth ≤ 920000 := by
  unfold envelopeMet
  cases b.trk.block <;> simp [Config.turnLimit]

/-- What SEQ asks of the turner, by its state (R133). -/
theorem askTurn_eq (q : Nat) (b : Blocks) :
    askTurn q b =
      if b.trn.state = .gripping ∨ b.trn.state = .turning ∨ b.trn.state = .fault then holdCause .turnerFault b
      else if envelopeMet b = false then holdCause .turnEnvelope b
      else if b.trn.state = .parked ∧ turnConditions b = true then trnBegin .seq q b
      else { b with trn := { b.trn with pending := some q } } := by
  cases hstate : b.trn.state
  case gripping => simp only [askTurn, hstate, true_or, if_true]
  case turning => simp only [askTurn, hstate, true_or, or_true, if_true]
  case fault => simp only [askTurn, hstate, or_true, if_true]
  case parked =>
    rw [if_neg (by simp), askTurn, hstate]
    exact if_congr (by simp) rfl (if_congr (by simp) rfl rfl)
  case releasing =>
    rw [if_neg (by simp), if_neg (c := TrnState.releasing = .parked ∧ _) (by simp), askTurn, hstate]
    exact if_congr (by simp) rfl rfl

/-! ## A quarter completes -/

/-- TRN's judgement after a quarter, on the record as it then stands (R135). -/
theorem judgeTurn_of_record {r counted : TurnRecord} {b : Blocks} (h : b.trn.record = some counted) :
    judgeTurn r b = { b with trn :=
      if r.done + 1 = r.requested ∨ r.restAsked = true then
        { b.trn with state := .releasing, carrying := false, deadline := some (b.clock + 800),
                     record := some { counted with since := b.clock } }
      else
        { b.trn with state := .turning, deadline := some (b.clock + 1500),
                     record := some { counted with since := b.clock } } } := by
  unfold judgeTurn
  by_cases hends : r.done + 1 = r.requested ∨ r.restAsked = true
  · simp only [if_pos hends, trnRelease, setTrn, h, Option.map_some]
    rfl
  · simp only [if_neg hends, quarterBegins, setTrn, after, h, Option.map_some, Config.quarterMs]

/-- The block after a quarter is counted and turned, before SEQ and TRN act on it (R59, R135). -/
def quarterCounted (r : TurnRecord) (b : Blocks) : Blocks :=
  { b with inputs := { b.inputs with quarter := true }, trk := { b.trk with block := b.trk.block.map Block.quarter },
           trn := { b.trn with record := some { r with done := r.done + 1 } } }

theorem quarterCompletion_of_turning {r : TurnRecord} {b : Blocks} (hstate : b.trn.state = .turning)
    (h : b.trn.record = some r) :
    quarterCompletion b =
      let told := if r.asker = .seq then seqQuarter (quarterCounted r b) else quarterCounted r b
      if r.asker = .seq ∧ turnStepDone b told = true then takeStep (judgeTurn r told) else judgeTurn r told := by
  simp only [quarterCompletion, h, hstate, if_true]
  rfl

/-- TRN's part of a quarter of a turn in TURNING (R135). -/
def quarterJudged (r : TurnRecord) (b : Blocks) : Blocks :=
  let counted := { r with done := r.done + 1, since := b.clock }
  { b with
    inputs := { b.inputs with quarter := true },
    trk := { b.trk with block := b.trk.block.map Block.quarter },
    trn := if r.done + 1 = r.requested ∨ r.restAsked = true then
             { b.trn with state := .releasing, carrying := false, deadline := some (b.clock + 800), record := some counted }
           else { b.trn with deadline := some (b.clock + 1500), record := some counted } }

theorem judgeTurn_quarterCounted {r : TurnRecord} {b : Blocks} (hstate : b.trn.state = .turning) (q : Seq) :
    judgeTurn r { quarterCounted r b with seq := q } = { quarterJudged r b with seq := q } := by
  rw [judgeTurn_of_record (counted := { r with done := r.done + 1 }) rfl]
  by_cases hends : r.done + 1 = r.requested ∨ r.restAsked = true
  · simp only [quarterJudged, if_pos hends]
    rfl
  · simp only [quarterJudged, if_neg hends]
    rw [← hstate]
    rfl

theorem quarterCompletion_of_still {b : Blocks} (h : b.trn.state ≠ .turning ∨ b.trn.record = none) :
    quarterCompletion b = { b with inputs := { b.inputs with quarter := true } } := by
  unfold quarterCompletion
  cases hrecord : b.trn.record with
  | none => rfl
  | some r => exact if_neg (h.resolve_right (by simp [hrecord]))

section
variable {b c : Blocks}

theorem seqQuarter_of_not (h : ¬ ((b.seq.state = .running ∨ b.seq.state = .held) ∧ b.seq.run.phase = .turn)) :
    seqQuarter b = b :=
  if_neg fun hall => h ⟨jobUnderWay_iff.mp hall.1, hall.2⟩

variable (hjob : b.seq.state = .running ∨ b.seq.state = .held) (hphase : b.seq.run.phase = .turn)
include hjob hphase

theorem seqQuarter_of_more (hmore : 1 < b.seq.run.quartersLeft) :
    seqQuarter b =
      { b with seq := { b.seq with run := { b.seq.run with quartersLeft := b.seq.run.quartersLeft - 1 } } } := by
  have hleft : ¬ b.seq.run.quartersLeft - 1 = 0 := by omega
  exact (if_pos ⟨jobUnderWay_iff.mpr hjob, hphase⟩).trans (if_neg hleft)

/-- The last quarter of a programmed turn sets the base in force to the new depth (R34, R39). -/
theorem seqQuarter_of_last {k : Block} (hlast : b.seq.run.quartersLeft ≤ 1) (hblock : b.trk.block = some k) :
    seqQuarter b =
      { b with seq :=
        let run : Running := { b.seq.run with
          quartersLeft := 0, loc := ⟨b.seq.run.loc.prog, b.seq.run.loc.index + 1⟩, phase := .none }
        match b.seq.stack with
        | [] => { b.seq with run := { run with mainBase := k.nomDepth } }
        | f :: rest => { b.seq with stack := { f with base := k.nomDepth } :: rest, run := run } } := by
  have hleft : b.seq.run.quartersLeft - 1 = 0 := by omega
  refine (if_pos ⟨jobUnderWay_iff.mpr hjob, hphase⟩).trans ((if_pos hleft).trans ?_)
  rw [setBaseInForce, baseTaken_of_block (k := k), baseNow_of_block (k := k)]
  · cases hstack : b.seq.stack <;> simp only [setSeq, setRun, hstack, hleft]
  · exact hblock
  · exact hblock

end

/-- SEQ's step is not done where its phase stands (R34). -/
theorem turnStepDone_of_phase {b c : Blocks} (h : c.seq.run.phase = b.seq.run.phase) : turnStepDone b c = false := by
  rw [turnStepDone, h]
  cases b.seq.run.phase <;> simp

theorem turnStepDone_of_none {b c : Blocks} (hphase : b.seq.run.phase = .turn) (hnone : c.seq.run.phase = .none) :
    turnStepDone b c = true ↔ c.seq.state = .running := by
  simp [turnStepDone, hphase, hnone]

/-- A quarter of SEQ's turn, with SEQ's record `q` after it: the next step is taken where SEQ's step is done (R34, R135). -/
theorem quarterCompletion_of_told {r : TurnRecord} {b : Blocks} {q : Seq} (hstate : b.trn.state = .turning)
    (h : b.trn.record = some r) (hasker : r.asker = .seq)
    (htold : seqQuarter (quarterCounted r b) = { quarterCounted r b with seq := q }) :
    quarterCompletion b =
      if turnStepDone b { quarterCounted r b with seq := q } = true then takeStep { quarterJudged r b with seq := q }
      else { quarterJudged r b with seq := q } := by
  rw [quarterCompletion_of_turning hstate h, if_pos hasker, htold]
  dsimp only
  rw [judgeTurn_quarterCounted hstate]
  exact if_congr ⟨fun hall => hall.2, fun hdone => ⟨hasker, hdone⟩⟩ rfl rfl

/-! ## The turner's faults, and what it drives -/

/-- A fault of the turner, entered where it is not in FAULT (R138). -/
theorem trnFaults_eq (code : TrnFault) (b : Blocks) :
    trnFaults code b =
      if b.trn.state = .fault then b
      else
        holdCause .turnerFault (jogWatch (gaxInterlock (raise .cell { b with
          trk := if b.trn.state = .turning then
                   { b.trk with block := b.trk.block.map fun k => { k with orientation := none } } else b.trk,
          trn := { b.trn with state := .fault, fault := some code, record := none, pending := none, resetting := false,
                              carrying := false, gripKept := decide (b.trn.state = .turning), deadline := none,
                              lastTurn := match b.trn.record with
                                | some r => some ⟨r.done, .fault⟩ | none => b.trn.lastTurn } }))) := by
  refine if_ctx_congr Iff.rfl (fun _ => rfl) fun hnot => congrArg (holdCause .turnerFault) ?_
  refine (if_neg hnot).trans (congrArg (fun c => jogWatch (gaxInterlock (raise .cell c))) ?_)
  by_cases hturning : b.trn.state = .turning
  · simp only [if_pos hturning]
    rfl
  · simp only [if_neg hturning]
    rfl

theorem quarterUncovers_eq (b : Blocks) :
    quarterUncovers b =
      if b.inputs.quarter = false then b else restLost { b with inputs := { b.inputs with quarter := false } } := by
  unfold quarterUncovers
  cases b.inputs.quarter <;> rfl

theorem armsUncover_eq (b : Blocks) :
    armsUncover b =
      if b.inputs.armsOpen = false then b else restLost { b with inputs := { b.inputs with armsOpen := false } } := by
  unfold armsUncover
  cases b.inputs.armsOpen <;> rfl

theorem armsDrive_eq (b : Blocks) :
    armsDrive b =
      if b.trn.state = .gripping then .closing
      else if b.trn.state = .turning ∨ (b.trn.state = .fault ∧ b.trn.gripKept = true) then .holding
      else if b.trn.state = .releasing ∧ b.trn.carrying = false then .opening
      else .stopped := by
  unfold armsDrive
  cases hstate : b.trn.state
  case fault => cases b.trn.gripKept <;> rfl
  case releasing => cases b.trn.carrying <;> rfl
  all_goals simp

theorem headRotates_iff {b : Blocks} : headRotates b = true ↔ b.trn.state = .turning ∨ b.trn.carrying = true := by
  simp [headRotates]

/-! ## The lift's requests -/

theorem and_chainOpen (v : Bool) (b : Blocks) :
    (v && decide (b.msu.estop ≠ .chainOk)) = if chainOk b then false else v := by
  by_cases h : b.msu.estop = .chainOk <;> simp [chainOk, h]

/-- A lift that begins to rise leaves its lower limit switch, the chain closed (R151; log 4). -/
theorem liftRaises_iteChain (b : Blocks) :
    liftRaises b = { b with
      lft := { b.lft with state := .raising, deadline := none },
      inputs := { b.inputs with lowerLimit := b.inputs.lowerLimit && decide (b.msu.estop ≠ .chainOk) } } := by
  rw [and_chainOpen]
  cases hchain : chainOk b
  · exact if_neg (by rw [Bool.not_eq_true]; exact hchain)
  · exact if_pos hchain

theorem liftLowers_iteChain (b : Blocks) :
    liftLowers b = { b with
      lft := { b.lft with state := .lowering, deadline := none },
      inputs := { b.inputs with topLimit := b.inputs.topLimit && decide (b.msu.estop ≠ .chainOk) } } := by
  rw [and_chainOpen]
  cases hchain : chainOk b
  · exact if_neg (by rw [Bool.not_eq_true]; exact hchain)
  · exact if_pos hchain

theorem liftLowerRequest_eq (b : Blocks) :
    liftLowerRequest b =
      if b.msu.mode = .standby then answer .refusedMode .nothing b
      else if b.lft.state = .parting then answer .busy .nothing b
      else if b.lft.state = .fault then answer .refusedState .nothing b
      else if b.lft.state = .lowered ∨ b.lft.state = .lowering then answer .ok .nothing b
      else answer .accepted .nothing (liftLowers b) := by
  refine if_congr Iff.rfl rfl ?_
  cases b.lft.state <;> simp

theorem pauseRepeat_eq (b : Blocks) :
    pauseRepeat b = { b with jog :=
      if b.lft.feedPaused = true ∧ b.jog.state = .receiving ∧ 0 < b.jog.retries then
        { b.jog with repeatWaiting := true } else b.jog } := by
  simp only [pauseRepeat]
  split <;> rfl

theorem isSome_iff_ne_none {α : Type} (x : Option α) : x.isSome = true ↔ x ≠ none := Option.isSome_iff_ne_none

/-! ## Measurements -/

theorem min_counterTop (count : Nat) : min Config.counterTop count = if 65535 < count then 65535 else count := by
  have hlimit : min 65535 count = if 65535 < count then 65535 else count := by split_ifs <;> omega
  exact hlimit

theorem paperPresent_iff {n baseline depth : Nat} :
    paperPresent n baseline depth = true ↔ baseline ≠ 0 ∧ n * 100 ≤ baseline * (100 - depth) := by
  simp [paperPresent]

/-- The measurement kept with its judgement (R144). -/
theorem keepCount_eq (n : Nat) (j : Judgement) (b : Blocks) :
    keepCount n j b = { b with lft := { b.lft with latest := some n, judgement := j } } := rfl

theorem lftFault_eq (code : LftFault) (b : Blocks) :
    lftFault code b = raise .feed { b with lft := { b.lft with
      state := .fault, fault := some (b.lft.fault.getD code),
      sensorFaultPending := decide (code = .chainOpened) && b.lft.sensorFaultPending, withdrawing := false,
      resetting := false, deadline := none } } := rfl

/-- A measurement by the state it meets (R144, R147, R148). -/
theorem levelMeasured_eq (count : Nat) (b : Blocks) :
    levelMeasured count b =
      (let n := if 65535 < count then 65535 else count
       let kept (j : Judgement) : Blocks := { b with lft := { b.lft with latest := some n, judgement := j } }
       if b.lft.state = .lowered then b
       else if b.lft.state = .lowering ∨ b.lft.state = .fault then kept .notJudged
       else if n < 16 then
         if b.lft.state = .parting then
           { kept .faultCount with lft := { (kept .faultCount).lft with sensorFaultPending := true } }
         else lftFault .levelSensor (kept .faultCount)
       else if b.lft.baseline ≠ 0 ∧ n * 100 ≤ b.lft.baseline * (100 - b.lft.depth) then
         if b.lft.state = .raising ∨ b.lft.state = .atLevel then
           { kept .present with lft := { (kept .present).lft with
               state := .atLevel, paperAtTop := b.lft.paperAtTop || b.inputs.topLimit } }
         else kept .present
       else if b.lft.state = .raising then
         let tracked := { kept .absent with lft := { (kept .absent).lft with baseline := trackedBaseline b.lft.baseline n } }
         if b.inputs.topLimit = true ∧ b.lft.paperAtTop = false then
           raise .feed { tracked with lft := { tracked.lft with state := .empty, paperAtTop := false } }
         else tracked
       else if b.lft.state = .atLevel then liftRaises (kept .absent)
       else kept .absent) := by
  rw [levelMeasured, min_counterTop]
  dsimp only
  generalize (if 65535 < count then 65535 else count) = n
  simp only [← paperPresent_iff, keepCount_eq]
  cases b.lft.state <;> rfl

/-- A step of one eighth towards a count never takes the baseline below 0 (R145). -/
theorem tdiv_eighth_ge (b n : Nat) : 0 ≤ (b : Int) + Int.tdiv ((n : Int) - b) 8 := by
  rcases le_total (b : Int) n with h | h
  · have hstep : 0 ≤ Int.tdiv ((n : Int) - b) 8 := Int.tdiv_nonneg (by omega) (by omega)
    omega
  · have hstep : Int.tdiv ((b : Int) - n) 8 ≤ (b : Int) - n := by
      rw [Int.tdiv_eq_ediv_of_nonneg (by omega)]
      omega
    have hneg : (n : Int) - b = -((b : Int) - n) := by omega
    rw [hneg, Int.neg_tdiv]
    omega

theorem trackedBaseline_eq {b n : Nat} (h : b ≠ 0) : (trackedBaseline b n : Int) = b + Int.tdiv ((n : Int) - b) 8 := by
  rw [trackedBaseline, if_neg h, Int.toNat_of_nonneg (tdiv_eighth_ge b n)]

/-! ## The lift's events -/

/-- What a parting needs (R149). -/
theorem partRefusal_isNone_iff {b : Blocks} :
    (partRefusal b).isNone = true ↔ (b.seq.state = .running ∨ b.seq.state = .held) ∧ b.lft.feedPaused = false
      ∧ b.jog.state = .empty ∧ b.lft.partedOff < b.seq.run.lot ∧ b.msu.estop = .chainOk ∧ b.inputs.bladeHome = true
      ∧ b.inputs.pusherHome = true := by
  rw [partRefusal_eq]
  split_ifs with h1 h2 h3 h4 h5 h6
  · simp [h1]
  · simp [h2]
  · simp [h3]
  · simp [h4]
  · simp [h5]
  · rcases h6 with h6 | h6 <;> simp [h6]
  · simp only [not_and_or, not_or, Bool.not_eq_true, Bool.not_eq_false, not_le, not_not] at h1 h2 h3 h4 h5 h6
    exact ⟨fun _ => ⟨h1, h2, h3, h4, h5, h6⟩, fun _ => rfl⟩

theorem tryParting_eq (b : Blocks) :
    tryParting b =
      if b.lft.state = .atLevel ∧ (b.seq.state = .running ∨ b.seq.state = .held) ∧ b.lft.feedPaused = false
          ∧ b.jog.state = .empty ∧ b.lft.partedOff < b.seq.run.lot ∧ b.msu.estop = .chainOk ∧ b.inputs.bladeHome = true
          ∧ b.inputs.pusherHome = true then
        { b with inputs := { b.inputs with bladeHome := false, pusherHome := false },
                 lft := { b.lft with
                   state := .parting, deadline := some (b.clock + 6000), gearReturning := false,
                   bladeDepth := match b.seq.snapshot with | some snap => some snap.height | none => none } }
      else b := by
  refine if_congr (and_congr_right fun _ => partRefusal_isNone_iff) ?_ rfl
  unfold partingBegins
  cases b.seq.snapshot <;> rfl

/-- The entry sensor's covering touches JOG alone, and where it is EMPTY (R157). -/
theorem entryEvent_true_eq (b : Blocks) :
    entryEvent true b =
      if b.jog.state = .empty then
        { b with jog := { b.jog with state := .receiving, retries := 0, repeatWaiting := false } }
      else b := by
  simp only [entryEvent, ne_eq, ite_not, if_true]
  rfl

theorem entryEvent_false_eq (b : Blocks) :
    entryEvent false b = if b.jog.state = .empty then jogFault .strayPortion b else b := by
  simp only [entryEvent, ne_eq, ite_not, Bool.false_eq_true, if_false]

theorem jog_partingEnds (b : Blocks) : (partingEnds b).jog = b.jog := by
  simp only [partingEnds, liftRaises_iteChain, lftFault_eq]
  split <;> rfl

theorem entryCovers_eq (b : Blocks) :
    entryCovers b =
      (let covered := { b with inputs := { b.inputs with entry := true } }
       if b.lft.state = .parting then
         let parted := { covered with lft := { b.lft with
           partedOff := b.lft.partedOff + 1, gearReturning := true, deadline := none } }
         let lifted := if b.lft.sensorFaultPending then lftFault .levelSensor parted else liftRaises parted
         if b.jog.state = .empty then
           { lifted with jog := { b.jog with state := .receiving, retries := 0, repeatWaiting := false } }
         else lifted
       else if b.jog.state = .empty then jogFault .strayPortion covered
       else covered) := by
  refine if_congr Iff.rfl ((entryEvent_true_eq _).trans ?_) (entryEvent_false_eq _)
  rw [jog_partingEnds]
  rfl

/-- The gear home ends its way back, and a reset's withdrawal (R150, R154). -/
theorem gearHomes_eq (b : Blocks) :
    gearHomes b =
      (let home := { b with inputs := { b.inputs with bladeHome := true, pusherHome := true },
                            lft := { b.lft with gearReturning := false } }
       if b.lft.withdrawing = false then home
       else
         let drawn := { home with lft := { home.lft with withdrawing := false, deadline := none } }
         if b.lft.height = none ∨ b.lft.baseline = 0 then
           if b.inputs.lowerLimit then raise .feed { drawn with lft := { drawn.lft with state := .lowered, height := some 0 } }
           else liftLowers { drawn with lft := { drawn.lft with resetting := true } }
         else raise .feed (liftRaises drawn)) := by
  have harrives : gearArrives (setInputs (fun i => { i with bladeHome := true, pusherHome := true }) b) =
      { b with inputs := { b.inputs with bladeHome := true, pusherHome := true },
               lft := { b.lft with gearReturning := false } } := if_pos rfl
  rw [gearHomes, harrives]
  cases b.lft.withdrawing
  · rfl
  · refine (if_pos rfl).trans (Eq.trans ?_ (if_neg (by simp)).symm)
    exact if_congr (or_congr_left (by rw [Option.isNone_iff_eq_none])) rfl rfl

theorem liftDrive_eq (b : Blocks) :
    liftDrive b = if b.msu.estop ≠ .chainOk then .stopped
      else if b.lft.state = .raising then .ahead else if b.lft.state = .lowering then .back else .stopped := by
  refine if_congr (by rw [Bool.not_eq_true', chainOk_eq_false_iff]) rfl ?_
  cases b.lft.state <;> rfl

theorem gearDrive_eq (b : Blocks) :
    gearDrive b = if b.msu.estop ≠ .chainOk then .stopped
      else if b.lft.state = .parting then .ahead
      else if b.lft.withdrawing = true ∨ b.lft.gearReturning = true then .back else .stopped :=
  if_congr (by rw [Bool.not_eq_true', chainOk_eq_false_iff]) rfl (if_congr Iff.rfl rfl (if_congr (by simp) rfl rfl))

end Sys2Proof.Machine

open Sys2Proof Sys2Proof.Machine

/-- Settles O12: each unit's rest by its own state; a stop and a grip go on whatever SEQ then does (`calm_ckuLeft`). -/
theorem leavingSetupRestsHandWork : Obligations.LeavingSetupRestsHandWork := by
  intro b
  obtain ⟨hinputs, hseq, hcku, htrn, hclock, -⟩ := gaxModeRest_keeps b
  refine ⟨fun hstate hstops hflight hasker => ?moving, fun hstate hstops hsettles => ?homing,
    fun hrun hstops hwork => ?settled, fun hstate hmanual => ?opened, fun hstate hmanual hreturn => ?gap,
    fun hstate hmanual => ?releasing, fun hstate hmanual => ?stroking, fun hstate hdown hmanual => ?clampDown,
    fun c hstate hup hcycle hasker hreturn => ?clampUp, fun hreturn hstate => ?knifeReturn, fun hstate hasker => ?gripping,
    fun hrun hstate hasker => ?turning, fun hhoming hflight hmanual hreturn hasker => ?nothing⟩
  case moving =>
    have hrest : gaxModeRest b = gaxDecelerate b := by
      rw [gaxModeRest, if_pos (.inr ⟨hflight, hasker⟩), gaxStop_of_moving hstate, hstops]
      rfl
    exact (gax_leaveSetup_of_decelerating hrest (moveInFlight_of_map_voided (b := b) rfl)).2
  case homing =>
    have hrest : gaxModeRest b = gaxDecelerate b := by
      rw [gaxModeRest, if_pos (.inl hstate), gaxStop_of_homing hstate, hstops, hsettles]
      rfl
    exact gax_leaveSetup_of_decelerating hrest (moveInFlight_of_map_voided (b := b) rfl)
  case settled =>
    have hrest : gaxModeRest b = gaxStopped b := by
      rcases hwork with ⟨hstate, hflight, hasker⟩ | ⟨hstate, hsettles⟩
      · rw [gaxModeRest, if_pos (.inr ⟨hflight, hasker⟩), gaxStop_of_settling hstate]
      · rw [gaxModeRest, if_pos (.inl hstate), gaxStop_of_homing hstate, hstops, hsettles]
        rfl
    obtain ⟨hgaxKept, -, hflagKept⟩ := ckuLeft_of_not_running hrun
    obtain ⟨hgax, -, hlnk⟩ := trnModeRest_keeps (ckuLeft b)
    have hstopped := gaxStopped_eq b
    rw [if_neg (by simp [hstops])] at hstopped
    have hall : (leaveSetup b).gax = (gaxStopped b).gax := by rw [leaveSetup_eq, hgax, hgaxKept, hrest]
    have hvoid : moveInFlight (leaveSetup b) = false :=
      moveInFlight_of_map_voided (b := b) (by rw [hall, hstopped]; rfl)
    refine ⟨?_, ?_, hvoid, ?_⟩
    · rw [hall, hstopped]
      rfl
    · rw [hall, hstopped]
      rfl
    · rw [leaveSetup_eq, hlnk, hflagKept, hrest, hstopped]
      rfl
  case opened =>
    obtain ⟨-, hckuLeft, hlnkLeft⟩ := trnModeRest_keeps (ckuLeft b)
    have hrest : ckuRest (gaxModeRest b) =
        manualEnds false (flapClose (setCku (fun c => { c with cycle := none }) (gaxModeRest b))) := by
      have hopen : (gaxModeRest b).cku.state = .open_ := by rw [hcku, hstate]
      simp only [ckuRest, hopen, (manualCycle_congr hcku).trans hmanual, if_true]
    rw [leaveSetup_eq, hckuLeft, hlnkLeft, ckuLeft_of_manual hmanual, hrest]
    refine ⟨?_, ?_, rfl, rfl⟩
    · exact (cku_state_flapClose _).trans ((congrArg Cku.state hcku).trans hstate)
    · exact congrArg Cku.cycle (cku_flapClose _)
  case gap =>
    have hgap : (gaxModeRest b).cku.state = .gap ∨ (gaxModeRest b).cku.state = .returning := by
      rw [hcku]
      exact hstate
    rw [leaveSetup_eq, (trnModeRest_keeps _).2.1, ckuLeft_of_manual hmanual, ckuRest_of_gap hgap, hcku, hreturn]
    simp only [Bool.false_eq_true, if_false, askRest, cku_setCku, hcku]
  case releasing =>
    have hrest : ckuRest (gaxModeRest b) = flapClose (askRest (gaxModeRest b)) := by
      simp only [ckuRest, hcku, hstate]
    rw [leaveSetup_eq, (trnModeRest_keeps _).2.1, ckuLeft_of_manual hmanual, hrest, cku_flapClose]
    simp only [askRest, cku_setCku, hcku]
    exact ⟨hstate, trivial, trivial, trivial⟩
  case stroking =>
    have hrest : ckuRest (gaxModeRest b) = reverse .rest (askRest (gaxModeRest b)) := by
      simp only [ckuRest, hcku, hstate]
    rw [leaveSetup_eq, (trnModeRest_keeps _).2.1, ckuLeft_of_manual hmanual, hrest]
    refine ⟨rfl, rfl, congrArg some hclock, ?_, ?_⟩
    · show some ((gaxModeRest b).clock + (gaxModeRest b).cku.knife.G) = _
      rw [hclock, hcku]
    · show ((gaxModeRest b).cku.cycle.map _).map _ = _
      rw [hcku, Option.map_map]
      rfl
  case clampDown =>
    have hclamp : (gaxModeRest b).cku.state = .clamping ∨ (gaxModeRest b).cku.state = .clamped := by
      rw [hcku]
      exact hstate
    have hisDown : (askRest (gaxModeRest b)).inputs.upperStop = false := (congrArg Inputs.upperStop hinputs).trans hdown
    rw [leaveSetup_eq, (trnModeRest_keeps _).2.1, ckuLeft_of_manual hmanual, ckuRest_of_clamping hclamp, cku_flapClose,
      ckuRelease_of_down hisDown]
    exact ⟨rfl, rfl, congrArg (fun n => some (n + 1500)) hclock⟩
  case clampUp =>
    have hmanual : manualCycle b = true := by rw [manualCycle_of_cycle hcycle, hasker]; rfl
    have hclamp : (gaxModeRest b).cku.state = .clamping ∨ (gaxModeRest b).cku.state = .clamped := by
      rw [hcku]
      exact hstate
    have hisUp : (askRest (gaxModeRest b)).inputs.upperStop = true := (congrArg Inputs.upperStop hinputs).trans hup
    obtain ⟨-, hckuLeft, hlnkLeft⟩ := trnModeRest_keeps (ckuLeft b)
    have hrest := atRest_ckuOpened (askRest (gaxModeRest b))
    have hasked : (askRest (gaxModeRest b)).cku.cycle = some { c with restAsked := true } := by
      rw [askRest, cku_setCku, hcku]
      exact congrArg (Option.map _) hcycle
    have hout := ckuOpened_of_manual hasked hasker (by rw [askRest, cku_setCku, hcku]; exact hreturn)
    rw [leaveSetup_eq, hckuLeft, hlnkLeft, ckuLeft_of_manual hmanual, ckuRest_of_clamping hclamp, cku_flapClose,
      lnk_flapClose, ckuRelease_of_up hisUp]
    exact ⟨hrest.state, hrest.valves, hrest.cycle, hout.1, hout.2⟩
  case knifeReturn =>
    have hgap : (gaxModeRest b).cku.state = .gap ∨ (gaxModeRest b).cku.state = .returning := by
      rw [hcku]
      exact hstate
    have hreturns : (gaxModeRest b).cku.knifeReturn = true := by rw [hcku, hreturn]
    have hrest : ckuLeft b = knifeReturnStops (gaxModeRest b) := by
      rw [ckuLeft, ckuModeRest, if_pos (.inr hreturns), ckuRest_of_gap hgap, if_pos hreturns]
      exact reportOpened_of_ne nofun
    rw [leaveSetup_eq, (trnModeRest_keeps _).2.1, hrest]
    exact ⟨rfl, rfl, rfl, rfl⟩
  case gripping =>
    have hcalm := calm_ckuLeft_self b
    obtain ⟨hgrips, hterminal⟩ := hcalm.gripping hstate hasker
    have hclockKept : (ckuLeft b).clock = b.clock := congrArg (fun p => p.2.2) hcalm.sensed
    have hrecord := congrArg Trn.record (hcalm.trn hstate hasker)
    dsimp only at hrecord
    have hrest : trnModeRest (ckuLeft b) = trnRelease (turnAskRest (ckuLeft b)) := by
      rw [trnModeRest, if_pos hterminal]
      simp only [turnToRest, hgrips]
    rw [leaveSetup_eq, hrest]
    refine ⟨rfl, congrArg (fun n => some (n + 800)) hclockKept, ?_⟩
    simp only [trnRelease, turnAskRest, setTrn, hrecord, hclockKept, Option.map_map]
    rfl
  case turning =>
    obtain ⟨-, htrnKept, -⟩ := ckuLeft_of_not_running hrun
    have hterminal : turnAsker (ckuLeft b) = some .terminal := by rw [turnAsker, htrnKept]; exact hasker
    have hmoves : (ckuLeft b).trn.state = .turning ∨ (ckuLeft b).trn.state = .releasing := by rw [htrnKept]; exact hstate
    rw [leaveSetup_eq, trnModeRest, if_pos hterminal, turnToRest_of_asked hmoves]
    simp only [turnAskRest, setTrn, htrnKept]
  case nothing =>
    have hgax : gaxModeRest b = b := by rw [gaxModeRest, if_neg (by simp [hhoming, hflight])]
    have hleft : ckuLeft b = b := by
      rw [ckuLeft, hgax, ckuModeRest_of_not hmanual hreturn]
      exact if_neg fun hall => hall.1 hall.2.1
    rw [leaveSetup_eq, hleft, trnModeRest, if_neg hasker]

/-- Settles O42: each switch by CKU's state, the interlock stop by the gauge's. -/
theorem creepAndInterlocks : Obligations.CreepAndInterlocks := by
  exact ⟨fun s => next_act_congr s tdcUncovered_eq, fun s => next_act_congr s upperStopUncovered_eq,
    fun b => ⟨gaxInterlock_of_moving, gaxInterlock_of_settling, gaxInterlock_of_homing, gaxInterlock_of_still⟩⟩

/-- Settles O43: one equation per switch, and the 600 ms. -/
theorem flapMovesEnd : Obligations.FlapMovesEnd := by
  exact ⟨fun s => rfl, fun s => next_act_congr s flapCloses_eq, fun s => next_act_congr s flapTimeout_eq, fun b => rfl,
    fun b => rfl, flapDrive_eq⟩

/-- Settles O44: each request by its order, the release at TDC by the clamp's upper stop. -/
theorem knifeRequestsJudged : Obligations.KnifeRequestsJudged := by
  refine ⟨fun s h => (run_asRequest h).trans (next_act_congr s fun b => ?handReturn), fun b hdown => ckuRelease_of_down hdown,
    fun b hup hreturn hresets => ?opened, fun k w g s h => (run_asRequest h).trans (next_act_congr s fun b => ?changed)⟩
  case handReturn =>
    have hstate : b.cku.state ≠ .knifeReturnNeeded ∨ chainOk b = false
        ∨ ¬ (b.inputs.leftHeld = true ∧ b.inputs.rightHeld = true)
        ↔ b.cku.state ≠ .knifeReturnNeeded ∨ b.msu.estop ≠ .chainOk ∨ b.inputs.leftHeld = false
          ∨ b.inputs.rightHeld = false := by
      rw [chainOk_eq_false_iff, not_and_or, Bool.not_eq_true, Bool.not_eq_true]
    refine if_congr Iff.rfl rfl (if_congr hstate rfl ?_)
    rw [knifeReturnTaken_eq, gapEnd_eq]
    split <;> rfl
  case opened =>
    rw [ckuRelease_of_up hup, ckuOpened_eq, if_neg (by simp [hresets]), ckuUp_of_knifeReturn hreturn, hresets]
  case changed =>
    have hstate : ¬ (b.cku.state = .open_ ∨ b.cku.state = .fault) ∨ b.inputs.tdc = false
        ↔ (b.cku.state ≠ .open_ ∧ b.cku.state ≠ .fault) ∨ b.inputs.tdc = false := by rw [not_or]
    refine if_congr ?_ rfl (if_congr Iff.rfl rfl (if_congr hstate rfl ?_))
    · rw [Bool.not_eq_true', ← Bool.not_eq_true, knifeArgsOk_iff]
    · rw [knifeChangedTaken_eq]

/-- Settles O45: TURN_MANUAL by its order, SEQ's turn by the state of the turner. -/
theorem turnBegins : Obligations.TurnBegins := by
  exact ⟨fun q s h => (run_asRequest h).trans (next_act_congr s fun b => turnManualRequest_eq q b),
    fun s => next_act_congr s fun b => by
      show pendingTurnBegins b = _
      unfold pendingTurnBegins
      cases b.trn.pending <;> rfl,
    fun b => turnConditions_iff, fun b => envelopeMet_iff, fun s => rfl, fun q b => askTurn_eq q b⟩

/-- Settles O46: TRN's part is `quarterJudged`, SEQ's by the quarters it has left. -/
theorem quarterCompletes : Obligations.QuarterCompletes := by
  refine ⟨fun s hstill => ?still, fun s r hstate hrecord hnot => next_act_of_eq ?byHand,
    fun s r hstate hrecord hasker hjob hphase hmore => next_act_of_eq ?more,
    fun s r k hstate hrecord hasker hjob hphase hlast hblock => next_act_of_eq ?last⟩
  case still => exact congrArg (fun b => Host.Outcome.next { s with blocks := b }) (quarterCompletion_of_still hstill)
  case byHand =>
    have htold : (if r.asker = .seq then seqQuarter (quarterCounted r s.blocks) else quarterCounted r s.blocks)
        = quarterCounted r s.blocks := by
      by_cases hasker : r.asker = .seq
      · exact (if_pos hasker).trans (seqQuarter_of_not (hnot.resolve_left (by simp [hasker])))
      · exact if_neg hasker
    rw [quarterCompletion_of_turning hstate hrecord, htold]
    refine (if_neg fun hall => ?_).trans (judgeTurn_quarterCounted hstate s.blocks.seq)
    exact Bool.false_ne_true ((turnStepDone_of_phase rfl).symm.trans hall.2)
  case more =>
    have htold := seqQuarter_of_more (b := quarterCounted r s.blocks) hjob hphase hmore
    refine (quarterCompletion_of_told hstate hrecord hasker htold).trans (if_neg fun hdone => ?_)
    exact Bool.false_ne_true ((turnStepDone_of_phase rfl).symm.trans hdone)
  case last =>
    have hturned : (quarterCounted r s.blocks).trk.block = some k.quarter :=
      congrArg (Option.map Block.quarter) hblock
    have htold := seqQuarter_of_last (b := quarterCounted r s.blocks) hjob hphase hlast hturned
    refine (quarterCompletion_of_told hstate hrecord hasker htold).trans (if_congr ?_ ?_ ?_)
    · rw [turnStepDone_of_none hphase]
      · cases hstack : (quarterCounted r s.blocks).seq.stack <;> rfl
      · cases hstack : (quarterCounted r s.blocks).seq.stack <;> rfl
    · rfl
    · rfl

/-- Settles O47: each time and switch by the state in which it counts. -/
theorem turnerFaultsAndParks : Obligations.TurnerFaultsAndParks := by
  unfold Obligations.TurnerFaultsAndParks
  intro late parked
  have hlate : ∀ b : Blocks, clockAt b.trn.deadline b = late b := fun b => clockAt_eq_match b.trn.deadline b
  refine ⟨fun s => next_act_congr s fun b => ?grip, fun s => next_act_congr s fun b => ?turn,
    fun s => next_act_congr s fun b => ?release, fun s => next_act_congr s fun b => ?arms,
    fun s => next_act_congr s fun b => ?covered, fun s => next_act_congr s fun b => ?uncovered,
    fun s => next_act_congr s fun b => ?armsOff, trnFaults_eq, armsDrive_eq, fun b => headRotates_iff⟩
  case grip => exact if_congr Iff.rfl (congrArg (trnFaults .gripTimeout) (hlate b)) rfl
  case turn => exact if_congr Iff.rfl (congrArg (trnFaults .turnTimeout) (hlate b)) rfl
  case release => exact if_congr Iff.rfl (congrArg (trnFaults .releaseTimeout) (hlate b)) rfl
  case arms => rfl
  case covered => rfl
  case uncovered => exact quarterUncovers_eq b
  case armsOff => exact armsUncover_eq b

/-- Settles O48: each request by its order. -/
theorem liftRequestsJudged : Obligations.LiftRequestsJudged := by
  refine ⟨fun s h => (run_asRequest h).trans (next_act_congr s fun b => ?lower),
    fun s h => (run_asRequest h).trans (next_act_congr s fun b => ?raises),
    fun s h => (run_asRequest h).trans (next_act_congr s fun b => ?pause),
    fun s h => (run_asRequest h).trans (next_act_congr s fun b => ?resume),
    fun w d s h => (run_asRequest h).trans (next_act_congr s fun b => ?baseline)⟩
  case lower => rw [liftLowerRequest_eq, liftLowers_iteChain]
  case raises =>
    rw [liftRaiseRequest, liftRaises_iteChain]
    refine if_congr Iff.rfl rfl (if_congr (by rw [not_or]) rfl (if_congr (isSome_iff_ne_none _) rfl rfl))
  case pause =>
    rw [feedPauseRequest, pauseRepeat_eq]
    refine congrArg (answer .ok .nothing) (if_congr Iff.rfl rfl ?_)
    exact congrArg (fun j => raise .feed { b with lft := { b.lft with feedPaused := true }, jog := j })
      (if_congr ⟨fun h => h.2, fun h => ⟨rfl, h⟩⟩ rfl rfl)
  case resume =>
    unfold feedResumeRequest
    cases b.lft.feedPaused <;> rfl
  case baseline =>
    have hargument : ¬ (256 ≤ w ∧ w ≤ 4095 ∧ 5 ≤ d ∧ d ≤ 40) ↔ w < 256 ∨ 4095 < w ∨ d < 5 ∨ 40 < d := by omega
    exact if_congr hargument rfl (if_congr Iff.rfl rfl (if_congr (isSome_iff_ne_none _) rfl
      (if_congr (by rw [not_or]) rfl rfl)))

/-- Settles O49: a measurement by the state it meets; the tracked baseline stays at 0 or above. -/
theorem levelMeasured : Obligations.LevelMeasured := by
  refine ⟨fun count s => next_act_congr s fun b => levelMeasured_eq count b, fun b n hb => ?tracked,
    fun count s => next_act_congr s fun b => ?baseline, fun code b => rfl⟩
  case tracked => exact trackedBaseline_eq hb
  case baseline =>
    show baselineMeasured count b = _
    unfold baselineMeasured
    rw [min_counterTop]
    cases b.lft.baselinePending <;> rfl

/-- Settles O50: one equation per event; a parting by the refusals of R149. -/
theorem liftEvents : Obligations.LiftEvents := by
  unfold Obligations.LiftEvents
  intro late
  have hlate : ∀ b : Blocks, clockAt b.lft.deadline b = late b := fun b => clockAt_eq_match b.lft.deadline b
  refine ⟨fun s => rfl, fun s => rfl, fun s => next_act_congr s fun b => ?parts, fun s => next_act_congr s fun b => ?entry,
    liftRaises_iteChain, fun s => next_act_congr s fun b => ?partTime, fun s => next_act_congr s fun b => ?gear,
    fun s => next_act_congr s fun b => ?gearTime, fun b => ⟨?lift, ?gearMoves, rfl⟩⟩
  case parts => exact tryParting_eq b
  case entry => exact entryCovers_eq b
  case partTime => exact if_congr Iff.rfl (congrArg (lftFault .partTimeout) (hlate b)) rfl
  case gear => exact gearHomes_eq b
  case gearTime => exact if_congr Iff.rfl (congrArg (lftFault .partTimeout) (hlate b)) rfl
  case lift => exact liftDrive_eq b
  case gearMoves => exact gearDrive_eq b

end

section
/-! SUPPORT. The Jogger's rounds (chapter 09), the staged transfer, and the Job Library's
records, index, reads and writes (chapter 11). -/

set_option Elab.async false

namespace Sys2Proof.Machine

open Sys2Proof

/-! ## A jog begins -/

theorem jogConditions_iff {b : Blocks} {snap : Snapshot} (h : b.seq.snapshot = some snap) :
    jogConditions b = true ↔ b.inputs.pusherHome = true ∧ b.inputs.carriageHome = true ∧ b.msu.estop = .chainOk
      ∧ b.jog.repeatWaiting = false := by
  simp [jogConditions, chainOk, h, and_assoc]

/-- A jog begins in RECEIVING where R157 allows it, with the figures of the snapshot (R157, R158). -/
theorem tryJog_eq (b : Blocks) :
    tryJog b =
      match b.seq.snapshot with
      | none => b
      | some snap =>
        if b.jog.state = .receiving ∧ b.inputs.pusherHome = true ∧ b.inputs.carriageHome = true ∧ b.msu.estop = .chainOk
            ∧ b.jog.repeatWaiting = false then
          { b with jog := { b.jog with
              state := .jogging,
              record := some { jogTime := snap.stock.jogTime, period := snap.stock.jogPeriod, duty := snap.stock.jogDuty,
                               gap := snap.stock.jogGap,
                               onTime := (snap.stock.jogPeriod / 2 - snap.stock.jogGap) * snap.stock.jogDuty / 100,
                               start := b.clock, periods := 0 },
              deadline := some (b.clock +
                (snap.stock.jogTime * 100 + snap.stock.jogPeriod - 1) / snap.stock.jogPeriod * snap.stock.jogPeriod) } }
        else b := by
  unfold tryJog
  cases hsnap : b.seq.snapshot with
  | none => rfl
  | some snap => exact if_congr (and_congr_right fun _ => jogConditions_iff hsnap) rfl rfl

/-- A jog tried touches JOG alone, and of it the state, the record and the time. -/
theorem tryJog_keeps (b : Blocks) : (tryJog b).inputs = b.inputs ∧ (tryJog b).seq = b.seq ∧ (tryJog b).trk = b.trk
    ∧ (tryJog b).lft = b.lft ∧ (tryJog b).gax = b.gax ∧ (tryJog b).cku = b.cku ∧ (tryJog b).trn = b.trn := by
  simp only [tryJog]
  repeat' split
  all_goals exact ⟨rfl, rfl, rfl, rfl, rfl, rfl, rfl⟩

theorem jog_tryJog (b : Blocks) : (tryJog b).jog.retries = b.jog.retries
    ∧ (tryJog b).jog.repeatWaiting = b.jog.repeatWaiting ∧ (tryJog b).jog.lastCheck = b.jog.lastCheck
    ∧ (tryJog b = b ∨ (tryJog b).jog.state = .jogging) := by
  simp only [tryJog]
  split
  · exact ⟨rfl, rfl, rfl, .inl rfl⟩
  · split
    · exact ⟨rfl, rfl, rfl, .inr rfl⟩
    · exact ⟨rfl, rfl, rfl, .inl rfl⟩

/-! ## The end of a jog -/

/-- The block at the end of a jog, with its stop edges read, its periods kept and its check recorded (R159, R160). -/
def jogChecked (front side : Bool) (b : Blocks) : Blocks :=
  { b with
    clock := match b.jog.deadline with | some d => max b.clock d | none => b.clock,
    inputs := { b.inputs with frontStop := front, sideStop := side },
    jog := { b.jog with
      record := b.jog.record.map fun r => { r with periods := jogPeriods r.jogTime r.period },
      lastCheck := some ⟨front, side⟩, deadline := none } }

theorem jogEnds_eq {front side : Bool} {b : Blocks} (h : b.jog.state = .jogging) :
    jogEnds front side b =
      let checked := jogChecked front side b
      if front = true ∧ side = true then { checked with jog := { checked.jog with state := .aligned } }
      else checkFailed checked := by
  rw [jogEnds, if_pos h, clockAt_eq]
  rfl

theorem checkFailed_of_retry {b : Blocks} (h : b.jog.retries < 2) :
    checkFailed b = tryJog { b with jog := { b.jog with
      state := .receiving, retries := b.jog.retries + 1, repeatWaiting := b.lft.feedPaused, deadline := none } } := if_pos h

theorem checkFailed_of_third {b : Blocks} (h : ¬ b.jog.retries < 2) : checkFailed b = jogFault .jogMisaligned b := if_neg h

/-- JOG's fault touches JOG and its flag alone; in FAULT it touches nothing (R164). -/
theorem jogFault_keeps (code : JogFault) (b : Blocks) : (jogFault code b).inputs = b.inputs
    ∧ (jogFault code b).seq = b.seq ∧ (jogFault code b).trk = b.trk ∧ (jogFault code b).lft = b.lft
    ∧ (jogFault code b).gax = b.gax ∧ (jogFault code b).cku = b.cku ∧ (jogFault code b).trn = b.trn
    ∧ (jogFault code b).jog.lastCheck = b.jog.lastCheck := by
  simp only [jogFault]
  split <;> exact ⟨rfl, rfl, rfl, rfl, rfl, rfl, rfl, rfl⟩

theorem jogFault_of_not_fault {code : JogFault} {b : Blocks} (h : b.jog.state ≠ .fault) :
    (jogFault code b).jog.state = .fault ∧ (jogFault code b).jog.fault = some code := by
  rw [jogFault, if_neg h]
  exact ⟨rfl, rfl⟩

/-! ## The coils -/

theorem coilOn_iff {half : Nat} {r : JogRecord} {now : Ms} :
    coilOn half r now = true ↔
      half + r.gap ≤ (now - r.start) % r.period ∧ (now - r.start) % r.period < half + r.gap + r.onTime := by
  simp [coilOn]

/-- With its duty and gap in range the time of one coil ends before its half does (R158). -/
theorem onTime_le {half gap duty : Nat} (hduty : duty ≤ 100) : (half - gap) * duty / 100 ≤ half - gap :=
  Nat.div_le_of_le_mul (by rw [Nat.mul_comm 100]; exact Nat.mul_le_mul_left _ hduty)

/-- No time lies in both halves' on-times (R158). -/
theorem coils_apart {t half gap on : Nat} (hgap : gap ≤ half) (hon : on ≤ half - gap) :
    ¬ ((0 + gap ≤ t ∧ t < 0 + gap + on) ∧ (half + gap ≤ t ∧ t < half + gap + on)) := by omega

theorem stopCovered_eq (edge : StopEdge) (b : Blocks) :
    stopCovered edge b = match edge with | .front => b.inputs.frontStop | .side => b.inputs.sideStop := by
  cases edge <;> rfl

/-- A stop edge uncovers (R160). -/
theorem stopUncovers_eq (edge : StopEdge) (b : Blocks) :
    stopUncovers edge b =
      (let off := { b with inputs := { b.inputs with frontStop := decide (edge = .side) && b.inputs.frontStop,
                                                     sideStop := decide (edge = .front) && b.inputs.sideStop } }
       if stopCovered edge b = false then b
       else if b.jog.state = .aligned then
         checkFailed { off with jog := { b.jog with lastCheck := some ⟨off.inputs.frontStop, off.inputs.sideStop⟩ } }
       else off) := by
  refine if_congr (by simp) rfl ?_
  cases edge <;> rfl

theorem entryUncovers_eq (b : Blocks) :
    entryUncovers b =
      (let off := { b with inputs := { b.inputs with entry := false } }
       if b.inputs.entry = false then b
       else if b.jog.state = .receiving ∨ b.jog.state = .jogging ∨ b.jog.state = .aligned then jogFault .portionLost off
       else off) := by
  refine if_congr (by simp) rfl ?_
  cases b.jog.state <;> rfl

/-! ## A transfer begins -/

theorem tableNotReady_eq_none_iff {b : Blocks} {snap : Snapshot} (h : b.seq.snapshot = some snap) :
    tableNotReady b = none ↔ b.trk.block = none ∧ b.trk.unknown = false ∧ loadedL snap ≤ 1150000 := by
  simp only [tableNotReady, h, Config.travelRear]
  split_ifs with hblock hunknown hover
  · simp [Option.isSome_iff_ne_none.mp hblock]
  · simp [hunknown]
  · simp only [false_iff, not_and, not_le]
    exact fun _ _ => hover
  · simp only [Option.isSome_iff_ne_none, not_not, Bool.not_eq_true, not_lt] at hblock hunknown hover
    exact iff_of_true rfl ⟨hblock, hunknown, hover⟩

/-- What a transfer needs (R53, R162). -/
theorem transferRefusal_isNone_iff {b : Blocks} {snap : Snapshot} (h : b.seq.snapshot = some snap) :
    (transferRefusal b).isNone = true ↔ b.trk.block = none ∧ b.trk.unknown = false ∧ loadedL snap ≤ 1150000
      ∧ b.seq.state = .running ∧ b.seq.run.wait = .portion ∧ gaxStandsAt snap.loadPosition b = true
      ∧ b.inputs.upperStop = true ∧ b.trn.state = .parked ∧ b.msu.estop = .chainOk := by
  have hload : gaugeAtLoad b = gaxStandsAt snap.loadPosition b := by simp only [gaugeAtLoad, loadPosition, h, Option.map_some]
  have htable : (b.trk.block = none ∧ b.trk.unknown = false ∧ loadedL snap ≤ 1150000 ∧ b.seq.state = .running
      ∧ b.seq.run.wait = .portion ∧ gaxStandsAt snap.loadPosition b = true ∧ b.inputs.upperStop = true
      ∧ b.trn.state = .parked ∧ b.msu.estop = .chainOk) ↔ tableNotReady b = none ∧ b.seq.state = .running
      ∧ b.seq.run.wait = .portion ∧ gaxStandsAt snap.loadPosition b = true ∧ b.inputs.upperStop = true
      ∧ b.trn.state = .parked ∧ b.msu.estop = .chainOk := by
    simp only [tableNotReady_eq_none_iff h, and_assoc]
  rw [htable, transferRefusal_eq, hload]
  split_ifs with h1 h2 h3 h4 h5 h6
  · simp [h1]
  · rcases h2 with h2 | h2 <;> simp [h2]
  · simp [h3]
  · simp [h4]
  · simp [h5]
  · simp [h6]
  · simp only [not_or, not_not, Bool.not_eq_false] at h1 h2 h3 h4 h5 h6
    exact iff_of_true rfl ⟨h1, h2.1, h2.2, h3, h4, h5, h6⟩

theorem returnRuns_iff {b : Blocks} :
    returnRuns b = true ↔ b.jog.suspended = none ∧ b.jog.deadline ≠ none ∧ (b.jog.resetting = true
      ∨ (b.jog.carriageReturning = true ∧ (b.jog.state = .empty ∨ b.jog.state = .receiving))) := by
  simp [returnRuns, Option.isSome_iff_ne_none, and_assoc]

theorem jogWatch_eq (b : Blocks) :
    jogWatch b =
      if b.jog.state = .transferring ∧ (b.gax.state ≠ .standstill ∨ b.inputs.upperStop = false ∨ b.trn.state ≠ .parked)
      then jogFault .interlockLost b else b := by
  refine if_congr (and_congr_right fun _ => ?_) rfl rfl
  rw [not_and_or, not_and_or, Bool.not_eq_true]

theorem carriageDrive_eq (b : Blocks) :
    carriageDrive b =
      if b.msu.estop ≠ .chainOk then .stopped
      else if b.jog.state = .transferring then .ahead
      else if (b.jog.carriageReturning = true ∨ b.jog.resetting = true) ∧ b.jog.deadline ≠ none then .back
      else .stopped := by
  refine if_congr (by rw [Bool.not_eq_true', chainOk_eq_false_iff]) rfl (if_congr Iff.rfl rfl (if_congr ?_ rfl rfl))
  simp [Option.isSome_iff_ne_none]

/-! ## The tests of a library request (R181) -/

section
variable {f : Blocks → Blocks} {b : Blocks}

theorem libRequest_of_bad {fields lockable closable busy : Bool} (h : fields = false) :
    libRequest fields lockable closable busy f b = answer .badArgument .nothing b := by
  simp only [libRequest, libJudge, h, Bool.not_false, if_true]

/-- A request that the lock key and a closed library bar, and COMPACTING does not. -/
theorem libRequest_staging {fields : Bool} (h : fields = true) :
    libRequest fields true true false f b =
      if b.inputs.locked then answer .locked .nothing b
      else if b.lib.state = .closed then answer .libraryClosed .nothing b
      else f b := by
  by_cases hlocked : b.inputs.locked = true
  · simp [libRequest, libJudge, h, hlocked]
  · by_cases hclosed : b.lib.state = .closed <;> simp [libRequest, libJudge, h, hlocked, hclosed]

/-- A write: the lock key, a closed library and COMPACTING bar it. -/
theorem libRequest_write {fields : Bool} (h : fields = true) :
    libRequest fields true true true f b =
      if b.inputs.locked then answer .locked .nothing b
      else if b.lib.state = .closed then answer .libraryClosed .nothing b
      else if b.lib.state = .compacting then answer .busy .nothing b
      else f b := by
  by_cases hlocked : b.inputs.locked = true
  · simp [libRequest, libJudge, h, hlocked]
  · by_cases hclosed : b.lib.state = .closed
    · simp [libRequest, libJudge, h, hlocked, hclosed]
    · by_cases hcompacting : b.lib.state = .compacting <;>
        simp [libRequest, libJudge, h, hlocked, hcompacting, hclosed]

/-- A read: a closed library bars it alone. -/
theorem libRequest_read {fields : Bool} (h : fields = true) :
    libRequest fields false true false f b =
      if b.lib.state = .closed then answer .libraryClosed .nothing b else f b := by
  by_cases hclosed : b.lib.state = .closed <;> simp [libRequest, libJudge, h, hclosed]

end

/-! ## Kinds and keys -/

/-- The kinds a staging and a JOB_READ take (R182, R187). -/
theorem programKey_eq_some_iff {kind key : Nat} {k : RecKind} :
    programKey kind key = some k ↔
      (kind = 1 ∧ k = .job ∧ 1 ≤ key ∧ key ≤ 999) ∨ (kind = 2 ∧ k = .sub ∧ key ≤ 31) := by
  rcases kind with _ | _ | _ | _ | _ | _ | n <;> cases k <;> simp [programKey, kindOf, keyInRange]

theorem programKey_eq_none_iff {kind key : Nat} :
    programKey kind key = none ↔ ¬ ((kind = 1 ∧ 1 ≤ key ∧ key ≤ 999) ∨ (kind = 2 ∧ key ≤ 31)) := by
  rw [Option.eq_none_iff_forall_ne_some]
  constructor
  · rintro h (⟨hkind, hkey⟩ | ⟨hkind, hkey⟩)
    · exact h _ (programKey_eq_some_iff.mpr (.inl ⟨hkind, rfl, hkey⟩))
    · exact h _ (programKey_eq_some_iff.mpr (.inr ⟨hkind, rfl, hkey⟩))
  · intro h k hk
    rcases programKey_eq_some_iff.mp hk with ⟨hkind, -, hkey⟩ | ⟨hkind, -, hkey⟩
    · exact h (.inl ⟨hkind, hkey⟩)
    · exact h (.inr ⟨hkind, hkey⟩)

/-- The kind staged is that of its number (R182). -/
theorem programKey_of_ok {kind key : Nat} (h : (kind = 1 ∧ 1 ≤ key ∧ key ≤ 999) ∨ (kind = 2 ∧ key ≤ 31)) :
    programKey kind key = some (if kind = 1 then .job else .sub) := by
  rw [programKey_eq_some_iff]
  rcases h with ⟨rfl, hkey⟩ | ⟨rfl, hkey⟩
  · exact .inl ⟨rfl, rfl, hkey⟩
  · exact .inr ⟨rfl, rfl, hkey⟩

/-! ## A staged transfer -/

section
variable {kind key length : Nat} {b : Blocks}

theorem jobBeginRequest_of_bad
    (h : ¬ (((kind = 1 ∧ 1 ≤ key ∧ key ≤ 999) ∨ (kind = 2 ∧ key ≤ 31)) ∧ 1 ≤ length ∧ length ≤ 2048)) :
    jobBeginRequest kind key length b = answer .badArgument .nothing b := by
  unfold jobBeginRequest
  cases hkey : programKey kind key with
  | none => rfl
  | some k =>
    refine libRequest_of_bad ?_
    have hok : (kind = 1 ∧ 1 ≤ key ∧ key ≤ 999) ∨ (kind = 2 ∧ key ≤ 31) := by
      by_contra hnot
      rw [programKey_eq_none_iff.mpr hnot] at hkey
      exact nomatch hkey
    have hlength : ¬ (1 ≤ length ∧ length ≤ 2048) := fun hlen => h ⟨hok, hlen⟩
    simpa [Bool.and_eq_false_iff] using hlength

theorem jobBeginRequest_of_ok (h : (kind = 1 ∧ 1 ≤ key ∧ key ≤ 999) ∨ (kind = 2 ∧ key ≤ 31)) (hfirst : 1 ≤ length)
    (hlast : length ≤ 2048) :
    jobBeginRequest kind key length b =
      if b.inputs.locked then answer .locked .nothing b
      else if b.lib.state = .closed then answer .libraryClosed .nothing b
      else stagingBegins (if kind = 1 then .job else .sub) key length b := by
  simp only [jobBeginRequest, programKey_of_ok h]
  exact libRequest_staging (by simp [hfirst, hlast])

end

/-! ## The sections by rising order number (R177) -/

/-- A begun section comes before another when its order number is not above the other's. -/
abbrev ByOrder (x y : Nat × Nat) : Prop := x.1 ≤ y.1

theorem insertByOrder_eq (x : Nat × Nat) (l : List (Nat × Nat)) : insertByOrder x l = l.orderedInsert ByOrder x := by
  induction l with
  | nil => rfl
  | cons y rest ih => simp only [insertByOrder, List.orderedInsert, ih]

/-- `begunSections` is the library's insertion sort. -/
theorem begunSections_eq (flash : List Section) :
    begunSections flash =
      (flash.zipIdx.filterMap fun p => p.1.order.map fun n => (n, p.2)).insertionSort ByOrder := by
  unfold begunSections
  generalize (flash.zipIdx.filterMap fun p => p.1.order.map fun n => (n, p.2)) = l
  induction l with
  | nil => rfl
  | cons x rest ih => rw [List.foldr_cons, ih, insertByOrder_eq]; rfl

theorem mem_begunSections {flash : List Section} {n i : Nat} :
    (n, i) ∈ begunSections flash ↔ ∃ slots, flash[i]? = some (.begun n slots) := by
  rw [begunSections_eq, List.mem_insertionSort, List.mem_filterMap]
  constructor
  · rintro ⟨⟨c, j⟩, hmem, horder⟩
    cases c with
    | begun m slots =>
      obtain ⟨rfl, rfl⟩ : m = n ∧ j = i := by simpa [Section.order] using horder
      exact ⟨slots, List.mem_zipIdx_iff_getElem?.mp hmem⟩
    | erased => simp [Section.order] at horder
    | bad => simp [Section.order] at horder
  · rintro ⟨slots, hat⟩
    exact ⟨(.begun n slots, i), List.mem_zipIdx_iff_getElem?.mpr hat, rfl⟩

theorem begunSections_sorted (flash : List Section) : (begunSections flash).Pairwise ByOrder := by
  rw [begunSections_eq]
  have : Std.Total ByOrder := ⟨fun x y => Nat.le_total x.1 y.1⟩
  have : IsTrans _ ByOrder := ⟨fun x y z => Nat.le_trans⟩
  exact List.pairwise_insertionSort ..

theorem slotsAt_of_begun {flash : List Section} {i n : Nat} {slots : List Slot} (h : flash[i]? = some (.begun n slots)) :
    slotsAt flash i = slots := by
  simp [slotsAt, h, Section.slots]

theorem begun_of_slotsAt {flash : List Section} {i : Nat} (h : slotsAt flash i ≠ []) :
    ∃ n, flash[i]? = some (.begun n (slotsAt flash i)) := by
  cases hc : flash[i]? with
  | none => simp [slotsAt, hc] at h
  | some c =>
    cases c with
    | begun n slots => exact ⟨n, by simp [slotsAt, hc, Section.slots]⟩
    | erased => simp [slotsAt, hc, Section.slots] at h
    | bad => simp [slotsAt, hc, Section.slots] at h

/-! ## The records of the scan (R179) -/

/-- A record of the scan lies at its place. -/
theorem sectionRecords_place {sect : Nat} {slots : List Slot} {first : Nat} {p : Place × Rec}
    (h : p ∈ sectionRecords sect first slots) :
    p.1.sect = sect ∧ first ≤ p.1.pos ∧ slots[p.1.pos - first]? = some (.valid p.2) := by
  induction slots generalizing first with
  | nil => simp [sectionRecords] at h
  | cons x rest ih =>
    have later (hrest : p ∈ sectionRecords sect (first + 1) rest) :
        p.1.sect = sect ∧ first ≤ p.1.pos ∧ (x :: rest)[p.1.pos - first]? = some (.valid p.2) := by
      obtain ⟨hsect, hpos, hat⟩ := ih hrest
      refine ⟨hsect, by omega, ?_⟩
      rw [show p.1.pos - first = (p.1.pos - (first + 1)) + 1 by omega, List.getElem?_cons_succ, hat]
    cases x with
    | valid r =>
      rcases List.mem_cons.mp h with rfl | hrest
      · simp
      · exact later hrest
    | damaged n => exact later h
    | torn => simp [sectionRecords] at h

theorem mem_allRecords {flash : List Section} {p : Place × Rec} :
    p ∈ allRecords flash ↔ p ∈ sectionRecords p.1.sect 0 (slotsAt flash p.1.sect) := by
  simp only [allRecords, List.mem_flatMap]
  constructor
  · rintro ⟨x, -, hmem⟩
    rwa [(sectionRecords_place hmem).1]
  · intro hmem
    have hslots : slotsAt flash p.1.sect ≠ [] := by
      intro hnil
      simp [hnil, sectionRecords] at hmem
    obtain ⟨n, hat⟩ := begun_of_slotsAt hslots
    exact ⟨(n, p.1.sect), mem_begunSections.mpr ⟨_, hat⟩, hmem⟩

/-- The record at a scanned record's place is that record. -/
theorem recordAt_of_mem {l : Lib} {p : Place × Rec} (h : p ∈ allRecords l.flash) : recordAt l p.1 = some p.2 := by
  obtain ⟨-, -, hat⟩ := sectionRecords_place (mem_allRecords.mp h)
  rw [Nat.sub_zero] at hat
  simp [recordAt, hat]

/-! ## The record of highest sequence number (R178) -/

/-- Of two records that count, the one of the higher sequence number, of equal ones the later read (log 17). -/
def higher (counts : Rec → Bool) (best : Option (Place × Rec)) (p : Place × Rec) : Option (Place × Rec) :=
  if counts p.2 then
    match best with
    | some q => if q.2.seq ≤ p.2.seq then some p else some q
    | none => some p
  else best

/-- The record of highest sequence number among those that count. -/
def highest (counts : Rec → Bool) (records : List (Place × Rec)) : Option (Place × Rec) :=
  records.foldl (higher counts) none

section
variable {counts : Rec → Bool}

theorem foldl_higher_none {records : List (Place × Rec)} (h : ∀ p ∈ records, counts p.2 = false)
    (best : Option (Place × Rec)) : records.foldl (higher counts) best = best := by
  induction records with
  | nil => rfl
  | cons p rest ih =>
    have hp : higher counts best p = best := by simp [higher, h p]
    rw [List.foldl_cons, hp, ih fun q hq => h q (List.mem_cons_of_mem _ hq)]

theorem highest_of_none {records : List (Place × Rec)} (h : ∀ p ∈ records, counts p.2 = false) :
    highest counts records = none :=
  foldl_higher_none h none

theorem foldl_higher_some {records : List (Place × Rec)} {q : Place × Rec} (hq : counts q.2 = true) :
    ∃ p, records.foldl (higher counts) (some q) = some p ∧ (p = q ∨ p ∈ records) ∧ counts p.2 = true
      ∧ q.2.seq ≤ p.2.seq ∧ ∀ r ∈ records, counts r.2 = true → r.2.seq ≤ p.2.seq := by
  induction records generalizing q with
  | nil => exact ⟨q, rfl, .inl rfl, hq, le_rfl, by simp⟩
  | cons x rest ih =>
    by_cases hx : counts x.2 = true ∧ q.2.seq ≤ x.2.seq
    · obtain ⟨p, hfold, hfrom, hcounts, hle, hall⟩ := ih hx.1
      refine ⟨p, by simpa [higher, hx] using hfold, .inr ?_, hcounts, hx.2.trans hle, ?_⟩
      · rcases hfrom with rfl | hmem
        · exact List.mem_cons_self
        · exact List.mem_cons_of_mem _ hmem
      · rintro r (_ | ⟨_, hr⟩) hcr
        · exact hle
        · exact hall r hr hcr
    · have hkeep : higher counts (some q) x = some q := by
        by_cases hcx : counts x.2 = true
        · have hbelow : ¬ q.2.seq ≤ x.2.seq := fun hle => hx ⟨hcx, hle⟩
          simp only [higher, hcx, if_true, if_neg hbelow]
        · simp [higher, hcx]
      obtain ⟨p, hfold, hfrom, hcounts, hle, hall⟩ := ih hq
      refine ⟨p, by rw [List.foldl_cons, hkeep, hfold], hfrom.imp_right (List.mem_cons_of_mem _), hcounts, hle, ?_⟩
      rintro r (_ | ⟨_, hr⟩) hcr
      · have hbelow : x.2.seq < q.2.seq := not_le.mp fun hge => hx ⟨hcr, hge⟩
        exact hbelow.le.trans hle
      · exact hall r hr hcr

theorem highest_of_mem {records : List (Place × Rec)} {q : Place × Rec} (hq : q ∈ records) (hcounts : counts q.2 = true) :
    ∃ p ∈ records, highest counts records = some p ∧ counts p.2 = true
      ∧ ∀ r ∈ records, counts r.2 = true → r.2.seq ≤ p.2.seq := by
  induction records with
  | nil => simp at hq
  | cons x rest ih =>
    by_cases hx : counts x.2 = true
    · obtain ⟨p, hfold, hfrom, hcp, hle, hall⟩ := foldl_higher_some (records := rest) hx
      refine ⟨p, ?_, by simpa [highest, higher, hx] using hfold, hcp, ?_⟩
      · rcases hfrom with rfl | hmem
        · exact List.mem_cons_self
        · exact List.mem_cons_of_mem _ hmem
      · rintro r (_ | ⟨_, hr⟩) hcr
        · exact hle
        · exact hall r hr hcr
    · have hrest : q ∈ rest := by
        rcases List.mem_cons.mp hq with rfl | hmem
        · exact absurd hcounts hx
        · exact hmem
      obtain ⟨p, hmem, hhighest, hcp, hall⟩ := ih hrest
      refine ⟨p, List.mem_cons_of_mem _ hmem, by simpa [highest, higher, hx] using hhighest, hcp, ?_⟩
      rintro r (_ | ⟨_, hr⟩) hcr
      · exact absurd hcr hx
      · exact hall r hr hcr

/-- A record that no other of its kind exceeds is the one found, up to a copy of equal content. -/
theorem highest_of_max {records : List (Place × Rec)} {q : Place × Rec} (hq : q ∈ records) (hcounts : counts q.2 = true)
    (hmax : ∀ r ∈ records, counts r.2 = true → r.2.seq < q.2.seq ∨ r.2 = q.2) :
    ∃ p ∈ records, highest counts records = some p ∧ p.2 = q.2 := by
  obtain ⟨p, hp, hhighest, hcp, hall⟩ := highest_of_mem hq hcounts
  refine ⟨p, hp, hhighest, ?_⟩
  rcases hmax p hp hcp with hbelow | hsame
  · have hle := hall q hq hcounts
    omega
  · exact hsame

/-- A record found is one of those read. -/
theorem mem_of_highest {records : List (Place × Rec)} {p : Place × Rec} (h : highest counts records = some p) :
    p ∈ records ∧ counts p.2 = true ∧ ∀ r ∈ records, counts r.2 = true → r.2.seq ≤ p.2.seq := by
  by_cases hnone : ∀ r ∈ records, counts r.2 = false
  · rw [highest_of_none hnone] at h
    exact nomatch h
  · simp only [not_forall, Bool.not_eq_false] at hnone
    obtain ⟨q, hq, hcounts⟩ := hnone
    obtain ⟨p', hp, hhighest, hcp, hall⟩ := highest_of_mem hq hcounts
    obtain rfl : p' = p := Option.some.inj (hhighest.symm.trans h)
    exact ⟨hp, hcp, hall⟩

end

/-! ## The index -/

/-- The index entry of a record. -/
def entryOf (p : Place × Rec) : IndexEntry := ⟨p.2.kind, p.2.key, p.2.seq, p.1⟩

/-- The entry of a kind and key. -/
def indexFind (index : List IndexEntry) (kind : RecKind) (key : Nat) : Option IndexEntry :=
  index.find? fun e => e.kind == kind && e.key == key

/-- A record enters under its own kind and key alone. -/
theorem indexFind_indexInsert (index : List IndexEntry) (p : Place × Rec) (kind : RecKind) (key : Nat) :
    indexFind (indexInsert index p.1 p.2) kind key =
      if p.2.kind = kind ∧ p.2.key = key then
        match indexFind index kind key with
        | some e => if e.seq ≤ p.2.seq then some (entryOf p) else some e
        | none => some (entryOf p)
      else indexFind index kind key := by
  induction index with
  | nil =>
    by_cases h : p.2.kind = kind ∧ p.2.key = key <;> simp [indexFind, indexInsert, entryOf, h]
  | cons x rest ih =>
    by_cases hx : x.kind = p.2.kind ∧ x.key = p.2.key
    · by_cases h : p.2.kind = kind ∧ p.2.key = key
      · by_cases hseq : x.seq ≤ p.2.seq <;> simp [indexFind, indexInsert, entryOf, hx, h, hseq]
      · by_cases hseq : x.seq ≤ p.2.seq <;> simp [indexFind, indexInsert, hx, h, hseq]
    · rw [show indexInsert (x :: rest) p.1 p.2 = x :: indexInsert rest p.1 p.2 by simp [indexInsert, hx]]
      by_cases hfound : x.kind = kind ∧ x.key = key
      · have hother : ¬ (p.2.kind = kind ∧ p.2.key = key) := by
          rintro ⟨rfl, rfl⟩
          exact hx hfound
        simp [indexFind, hfound, hother]
      · have hskip (l : List IndexEntry) : indexFind (x :: l) kind key = indexFind l kind key := by
          simp [indexFind, hfound]
        rw [hskip, hskip, ih]

/-- The records of a kind and key. -/
def ofItem (kind : RecKind) (key : Nat) (r : Rec) : Bool := decide (r.kind = kind ∧ r.key = key)

theorem foldl_indexInsert {kind : RecKind} {key : Nat} (hkind : kind ≠ .corr) {records : List (Place × Rec)}
    {index : List IndexEntry} {best : Option (Place × Rec)} (h : indexFind index kind key = best.map entryOf) :
    indexFind (records.foldl (fun ix p => if p.2.kind = .corr then ix else indexInsert ix p.1 p.2) index) kind key
      = (records.foldl (higher (ofItem kind key)) best).map entryOf := by
  induction records generalizing index best with
  | nil => exact h
  | cons p rest ih =>
    refine ih ?_
    by_cases hcorr : p.2.kind = .corr
    · have hother : ofItem kind key p.2 = false := by
        have hne : ¬ p.2.kind = kind := fun hsame => hkind (hsame.symm.trans hcorr)
        simp [ofItem, hne]
      simp only [hcorr, if_true, higher, hother, Bool.false_eq_true, if_false, h]
    · simp only [if_neg hcorr]
      rw [indexFind_indexInsert, h]
      by_cases hitem : p.2.kind = kind ∧ p.2.key = key
      · have hcounts : ofItem kind key p.2 = true := decide_eq_true hitem
        simp only [if_pos hitem, higher, hcounts, if_true]
        cases best with
        | none => rfl
        | some q =>
          by_cases hseq : q.2.seq ≤ p.2.seq <;> simp [entryOf, hseq]
      · have hcounts : ofItem kind key p.2 = false := decide_eq_false hitem
        simp only [if_neg hitem, higher, hcounts, Bool.false_eq_true, if_false]

/-- The index holds, of each kind and key, the record of highest sequence number (R178). -/
theorem indexFind_buildIndex {kind : RecKind} (key : Nat) (hkind : kind ≠ .corr) (records : List (Place × Rec)) :
    indexFind (buildIndex records) kind key = (highest (ofItem kind key) records).map entryOf :=
  foldl_indexInsert hkind rfl

/-- One record of the fold that finds a point's source. -/
def nearerSource (j : Nat) (best : Option (Nat × Place)) (p : Place × Rec) : Option (Nat × Place) :=
  if p.2.kind = .corr && corrCovers p.2 j then
    match best with
    | some (n, _) => if n ≤ p.2.seq then some (p.2.seq, p.1) else best
    | none => some (p.2.seq, p.1)
  else best

theorem corrSource_eq (records : List (Place × Rec)) (j : Nat) :
    corrSource records j = (records.foldl (nearerSource j) none).map (·.2) := rfl

/-- What the fold keeps of the record found. -/
def sourceOf (p : Place × Rec) : Nat × Place := (p.2.seq, p.1)

theorem foldl_nearerSource {j : Nat} {records : List (Place × Rec)} (hcorr : ∀ p ∈ records, p.2.kind = .corr)
    (best : Option (Place × Rec)) :
    records.foldl (nearerSource j) (best.map sourceOf) = (records.foldl (higher (corrCovers · j)) best).map sourceOf := by
  induction records generalizing best with
  | nil => rfl
  | cons p rest ih =>
    rw [List.foldl_cons, List.foldl_cons, ← ih fun q hq => hcorr q (List.mem_cons_of_mem _ hq)]
    congr 1
    have hkind := hcorr p List.mem_cons_self
    cases hcovers : corrCovers p.2 j with
    | false => simp [nearerSource, higher, hcovers]
    | true =>
      cases best with
      | none => simp [nearerSource, higher, hcovers, hkind, sourceOf]
      | some q => by_cases hseq : q.2.seq ≤ p.2.seq <;> simp [nearerSource, higher, hcovers, hkind, hseq, sourceOf]

/-- The CORR records among those read. -/
def corrRecords (flash : List Section) : List (Place × Rec) := (allRecords flash).filter fun p => p.2.kind == .corr

theorem mem_corrRecords {flash : List Section} {p : Place × Rec} :
    p ∈ corrRecords flash ↔ p ∈ allRecords flash ∧ p.2.kind = .corr := by
  simp [corrRecords]

theorem corrSource_corrRecords (flash : List Section) (j : Nat) :
    corrSource (corrRecords flash) j = (highest (corrCovers · j) (corrRecords flash)).map (·.1) := by
  have hfold := foldl_nearerSource (j := j) (records := corrRecords flash) (fun p hp => (mem_corrRecords.mp hp).2) none
  rw [corrSource_eq, ← Option.map_none (f := sourceOf), hfold, Option.map_map]
  rfl

/-! ## What the reads find (R178) -/

theorem currentRecord_reindex {l : Lib} {kind : RecKind} (key : Nat) (hkind : kind ≠ .corr) :
    currentRecord (reindex l) kind key = (highest (ofItem kind key) (allRecords l.flash)).map (·.2) := by
  have hfind : (reindex l).index.find? (fun e => e.kind == kind && e.key == key)
      = (highest (ofItem kind key) (allRecords l.flash)).map entryOf := indexFind_buildIndex key hkind _
  unfold currentRecord
  rw [hfind]
  cases hhighest : highest (ofItem kind key) (allRecords l.flash) with
  | none => rfl
  | some p => exact recordAt_of_mem (l := reindex l) (mem_of_highest hhighest).1

theorem currentPoint_reindex {l : Lib} {j : Nat} (hj : j < 232) :
    currentPoint (reindex l) j =
      match highest (corrCovers · j) (corrRecords l.flash) with
      | some p => ((decodeCorr p.2.body)[j - p.2.key]?).join
      | none => none := by
  have hsource : ((reindex l).corrIndex[j]?).join = (highest (corrCovers · j) (corrRecords l.flash)).map (·.1) := by
    rw [← corrSource_corrRecords]
    simp [reindex, buildCorrIndex, corrRecords, Config.corrPoints, hj]
  unfold currentPoint
  rw [hsource]
  cases hhighest : highest (corrCovers · j) (corrRecords l.flash) with
  | none => rfl
  | some p =>
    have hat : recordAt (reindex l) p.1 = some p.2 :=
      recordAt_of_mem (l := reindex l) (mem_corrRecords.mp (mem_of_highest hhighest).1).1
    simp only [Option.map_some, hat]

theorem corrCovers_iff {r : Rec} {j : Nat} :
    corrCovers r j = true ↔ r.key ≤ j ∧ j < r.key + (decodeCorr r.body).length := by
  rw [corrCovers, Bool.and_eq_true, decide_eq_true_iff, decide_eq_true_iff]
  rfl

/-! ## The reads (R187) -/

section
variable {kind key offset : Nat} {b : Blocks}

theorem jobReadRequest_of_bad (h : ¬ ((kind = 1 ∧ 1 ≤ key ∧ key ≤ 999) ∨ (kind = 2 ∧ key ≤ 31))) :
    jobReadRequest kind key offset b = answer .badArgument .nothing b := by
  unfold jobReadRequest
  rw [programKey_eq_none_iff.mpr h]

theorem jobReadRequest_of_kind {k : RecKind}
    (h : (kind = 1 ∧ k = .job ∧ 1 ≤ key ∧ key ≤ 999) ∨ (kind = 2 ∧ k = .sub ∧ key ≤ 31)) :
    jobReadRequest kind key offset b =
      if b.lib.state = .closed then answer .libraryClosed .nothing b else readBody k key offset b := by
  unfold jobReadRequest
  rw [programKey_eq_some_iff.mpr h]
  exact libRequest_read rfl

theorem stockReadRequest_eq :
    stockReadRequest key b =
      if key = 0 ∨ 63 < key then answer .badArgument .nothing b
      else if b.lib.state = .closed then answer .libraryClosed .nothing b
      else readStock key b := by
  unfold stockReadRequest
  by_cases hbad : key = 0 ∨ 63 < key
  · rw [if_pos hbad]
    refine libRequest_of_bad ?_
    have hout : 1 ≤ key → 63 < key := by omega
    simpa [keyInRange] using hout
  · rw [if_neg hbad]
    refine libRequest_read ?_
    have hin : 1 ≤ key ∧ key ≤ 63 := by omega
    simp [keyInRange, hin]

theorem corrRangeOk_iff {start count : Nat} :
    corrRangeOk start count = true ↔ ¬ (231 < start ∨ count = 0 ∨ 29 < count ∨ 232 < start + count) := by
  simp only [corrRangeOk, Bool.and_eq_true, decide_eq_true_eq, Config.corrPoints]
  omega

theorem corrReadRequest_eq {start count : Nat} :
    corrReadRequest start count b =
      if 231 < start ∨ count = 0 ∨ 29 < count ∨ 232 < start + count then answer .badArgument .nothing b
      else if b.lib.state = .closed then answer .libraryClosed .nothing b
      else answer .ok (.corrValues ((List.range count).map fun i => currentPoint b.lib (start + i))) b := by
  unfold corrReadRequest
  by_cases hbad : 231 < start ∨ count = 0 ∨ 29 < count ∨ 232 < start + count
  · rw [if_pos hbad]
    exact libRequest_of_bad (Bool.eq_false_iff.mpr fun hok => corrRangeOk_iff.mp hok hbad)
  · rw [if_neg hbad]
    exact libRequest_read (corrRangeOk_iff.mpr hbad)

/-- At most 200 bytes of the current body from the offset. -/
theorem readBody_eq {k : RecKind} :
    readBody k key offset b =
      match currentItem b.lib k key with
      | none => answer .notFound .nothing b
      | some r =>
        if offset < r.body.length then answer .ok (.body r.seq r.body.length ((r.body.drop offset).take 200)) b
        else answer .badArgument .nothing b := by
  unfold readBody
  cases currentItem b.lib k key with
  | none => rfl
  | some r =>
    by_cases hoffset : offset < r.body.length
    · simp only [if_neg (not_le.mpr hoffset), if_pos hoffset]
    · simp only [if_pos (not_lt.mp hoffset), if_neg hoffset]

/-- A body that does not decode is as absent (log 15). -/
theorem readStock_eq :
    readStock key b =
      match (currentItem b.lib .stock key).bind fun r => (decodeStock r.body).map fun f => (f, r.seq) with
      | none => answer .notFound .nothing b
      | some x => answer .ok (.stock x.1 x.2) b := by
  unfold readStock
  cases currentItem b.lib .stock key with
  | none => rfl
  | some r =>
    cases hbody : decodeStock r.body with
    | none => simp only [Option.bind_some, hbody, Option.map_none]
    | some f => simp only [Option.bind_some, hbody, Option.map_some]

end

/-! ## What is current after the scan (R178) -/

section
variable {l : Lib} {kind : RecKind} {key j : Nat}

theorem currentRecord_reindex_of_absent (hkind : kind ≠ .corr)
    (h : ∀ p ∈ allRecords l.flash, ¬ (p.2.kind = kind ∧ p.2.key = key)) : currentRecord (reindex l) kind key = none := by
  rw [currentRecord_reindex key hkind, highest_of_none fun p hp => decide_eq_false (h p hp), Option.map_none]

theorem currentRecord_reindex_of_max (hkind : kind ≠ .corr) {p : Place × Rec} (hp : p ∈ allRecords l.flash)
    (hitem : p.2.kind = kind ∧ p.2.key = key)
    (hmax : ∀ q ∈ allRecords l.flash, q.2.kind = kind ∧ q.2.key = key → q.2.seq < p.2.seq ∨ q.2 = p.2) :
    currentRecord (reindex l) kind key = some p.2 := by
  obtain ⟨q, -, hhighest, hsame⟩ := highest_of_max (counts := ofItem kind key) hp (decide_eq_true hitem)
    fun r hr hcounts => hmax r hr (of_decide_eq_true hcounts)
  rw [currentRecord_reindex key hkind, hhighest, Option.map_some, hsame]

theorem currentPoint_reindex_of_uncovered (hj : j < 232)
    (h : ∀ p ∈ allRecords l.flash, ¬ (p.2.kind = .corr ∧ p.2.key ≤ j ∧ j < p.2.key + (decodeCorr p.2.body).length)) :
    currentPoint (reindex l) j = none := by
  have hnone : ∀ p ∈ corrRecords l.flash, corrCovers p.2 j = false := fun p hp =>
    Bool.eq_false_iff.mpr fun hcovers =>
      h p (mem_corrRecords.mp hp).1 ⟨(mem_corrRecords.mp hp).2, corrCovers_iff.mp hcovers⟩
  rw [currentPoint_reindex hj, highest_of_none hnone]

theorem currentPoint_reindex_of_max (hj : j < 232) {p : Place × Rec} (hp : p ∈ allRecords l.flash)
    (hcovers : p.2.kind = .corr ∧ p.2.key ≤ j ∧ j < p.2.key + (decodeCorr p.2.body).length)
    (hmax : ∀ q ∈ allRecords l.flash,
      q.2.kind = .corr ∧ q.2.key ≤ j ∧ j < q.2.key + (decodeCorr q.2.body).length → q.2.seq < p.2.seq ∨ q.2 = p.2)
    {v : Option Int} (hv : (decodeCorr p.2.body)[j - p.2.key]? = some v) : currentPoint (reindex l) j = v := by
  obtain ⟨q, -, hhighest, hsame⟩ := highest_of_max (counts := (corrCovers · j))
    (mem_corrRecords.mpr ⟨hp, hcovers.1⟩) (corrCovers_iff.mpr hcovers.2)
    fun r hr hcounts => hmax r (mem_corrRecords.mp hr).1 ⟨(mem_corrRecords.mp hr).2, corrCovers_iff.mp hcounts⟩
  rw [currentPoint_reindex hj, hhighest]
  simp only [hsame, hv, Option.join_some]

end

/-! ## Bytes of a figure (R192) -/

theorem beBytes_two (x : Int) :
    beBytes 2 x = [BitVec.ofNat 8 ((x % 65536).toNat / 256), BitVec.ofNat 8 ((x % 65536).toNat)] := by
  simp [beBytes, List.range_succ]

theorem beNat_pair {n : Nat} (h : n < 65536) : beNat [BitVec.ofNat 8 (n / 256), BitVec.ofNat 8 n] = n := by
  simp only [beNat, BitVec.toNat_ofNat, List.length_cons, List.length_nil]
  omega

theorem beNat_beBytes_two {n : Nat} (h : n < 65536) : beNat (beBytes 2 (n : Int)) = n := by
  have hmod : ((n : Int) % 65536).toNat = n := by omega
  rw [beBytes_two, hmod, beNat_pair h]

theorem beInt_beBytes_two {x : Int} (hlow : -32768 ≤ x) (hhigh : x < 32768) : beInt (beBytes 2 x) = x := by
  have hbound : (x % 65536).toNat < 65536 := by omega
  rw [beBytes_two]
  simp only [beInt, beNat_pair hbound, List.length_cons, List.length_nil]
  split_ifs with hsign <;> omega

theorem corrValueBytes_eq (v : Option Int) :
    corrValueBytes v = match v with | none => [0x80, 0x00] | some x => beBytes 2 x := by
  cases v with
  | none => simp only [corrValueBytes, beBytes_two]; rfl
  | some x => rfl

theorem encodeCorr_eq (values : List (Option Int)) :
    encodeCorr values = beBytes 4 values.length
      ++ (values.map fun v => match v with | none => [0x80, 0x00] | some x => beBytes 2 x).flatten := by
  unfold encodeCorr
  rw [List.map_congr_left fun v _ => corrValueBytes_eq v]

/-! ## A stock profile (R3) -/

theorem inRange_iff {f : StockFigures} :
    StockFigures.inRange f = true ↔
      (-200 ≤ f.stretchA ∧ f.stretchA ≤ 200) ∧ (-200 ≤ f.stretchB ∧ f.stretchB ≤ 200) ∧ f.squeeze ≤ 500
        ∧ (50 ≤ f.clampPressure ∧ f.clampPressure ≤ 550) ∧ (10 ≤ f.jogTime ∧ f.jogTime ≤ 120)
        ∧ (20 ≤ f.jogPeriod ∧ f.jogPeriod ≤ 80 ∧ f.jogPeriod % 2 = 0) ∧ (20 ≤ f.jogDuty ∧ f.jogDuty ≤ 80)
        ∧ (1 ≤ f.jogGap ∧ f.jogGap ≤ 5) := by
  simp only [StockFigures.inRange, Bool.and_eq_true, decide_eq_true_eq, beq_iff_eq, and_assoc]

/-- The bytes of figures in range read back as the figures. -/
theorem decodeStock_encode {f : StockFigures} (h : StockFigures.inRange f = true) :
    decodeStock (StockFigures.encode f) = some f := by
  obtain ⟨hA, hB, hsqueeze, hpressure, htime, hperiod, hduty, hgap⟩ := inRange_iff.mp h
  have hread : decodeStock (StockFigures.encode f) = some
      { stretchA := beInt (beBytes 2 f.stretchA), stretchB := beInt (beBytes 2 f.stretchB),
        squeeze := beNat (beBytes 2 f.squeeze), clampPressure := beNat (beBytes 2 f.clampPressure),
        jogTime := beNat (beBytes 2 f.jogTime), jogPeriod := beNat (beBytes 2 f.jogPeriod),
        jogDuty := beNat (beBytes 2 f.jogDuty), jogGap := beNat (beBytes 2 f.jogGap) } := by
    simp only [StockFigures.encode, beBytes_two, List.cons_append, List.nil_append, decodeStock]
  rw [hread, beInt_beBytes_two (by omega) (by omega), beInt_beBytes_two (by omega) (by omega),
    beNat_beBytes_two (by omega), beNat_beBytes_two (by omega), beNat_beBytes_two (by omega),
    beNat_beBytes_two (by omega), beNat_beBytes_two (by omega), beNat_beBytes_two (by omega)]

/-! ## The requests that write (R184) -/

/-- Tests 2 to 4 of R181 for a write. -/
def writeOpen (f : Blocks → Blocks) (b : Blocks) : Blocks :=
  if b.inputs.locked then answer .locked .nothing b
  else if b.lib.state = .closed then answer .libraryClosed .nothing b
  else if b.lib.state = .compacting then answer .busy .nothing b
  else f b

theorem libRequest_writeOpen {fields : Bool} {f : Blocks → Blocks} {b : Blocks} (h : fields = true) :
    libRequest fields true true true f b = writeOpen f b := libRequest_write h

theorem writeOpen_congr {f g : Blocks → Blocks} (h : ∀ b, f b = g b) (b : Blocks) : writeOpen f b = writeOpen g b := by
  rw [funext h]

section
variable {kind key : Nat} {b : Blocks}

theorem stockWriteRequest_of_ok {f : StockFigures} (h : StockFigures.inRange f = true) (hfirst : 1 ≤ key)
    (hlast : key ≤ 63) :
    stockWriteRequest key f b =
      writeOpen (fun b => answerWrite (placeRecord .stock key (StockFigures.encode f) b)) b :=
  libRequest_writeOpen (by simp [keyInRange, h, hfirst, hlast])

theorem stockWriteRequest_of_bad {f : StockFigures} (h : StockFigures.inRange f = false ∨ key = 0 ∨ 63 < key) :
    stockWriteRequest key f b = answer .badArgument .nothing b := by
  refine libRequest_of_bad ?_
  rcases h with hrange | hzero | hlast
  · simp [hrange]
  · simp [keyInRange, hzero]
  · simp [keyInRange, hlast]

/-- The kinds a JOB_DELETE takes (R184). -/
theorem deleteKey_eq_some_iff {k : RecKind} :
    deleteKey kind key = some k ↔
      (kind = 1 ∧ k = .job ∧ 1 ≤ key ∧ key ≤ 999) ∨ (kind = 2 ∧ k = .sub ∧ key ≤ 31)
        ∨ (kind = 3 ∧ k = .stock ∧ 1 ≤ key ∧ key ≤ 63) := by
  rcases kind with _ | _ | _ | _ | _ | _ | n <;> cases k <;> simp [deleteKey, kindOf, keyInRange]

theorem deleteKey_eq_none_of {kind key : Nat}
    (h : ¬ ((kind = 1 ∧ 1 ≤ key ∧ key ≤ 999) ∨ (kind = 2 ∧ key ≤ 31) ∨ (kind = 3 ∧ 1 ≤ key ∧ key ≤ 63))) :
    deleteKey kind key = none := by
  rw [Option.eq_none_iff_forall_ne_some]
  intro k hk
  rcases deleteKey_eq_some_iff.mp hk with ⟨hkind, -, hkey⟩ | ⟨hkind, -, hkey⟩ | ⟨hkind, -, hkey⟩
  · exact h (.inl ⟨hkind, hkey⟩)
  · exact h (.inr (.inl ⟨hkind, hkey⟩))
  · exact h (.inr (.inr ⟨hkind, hkey⟩))

theorem jobDeleteRequest_of_kind {k : RecKind}
    (h : (kind = 1 ∧ k = .job ∧ 1 ≤ key ∧ key ≤ 999) ∨ (kind = 2 ∧ k = .sub ∧ key ≤ 31)
      ∨ (kind = 3 ∧ k = .stock ∧ 1 ≤ key ∧ key ≤ 63)) :
    jobDeleteRequest kind key b = writeOpen (deleteItem k key) b := by
  unfold jobDeleteRequest
  rw [deleteKey_eq_some_iff.mpr h]
  exact libRequest_writeOpen rfl

theorem jobDeleteRequest_of_bad
    (h : ¬ ((kind = 1 ∧ 1 ≤ key ∧ key ≤ 999) ∨ (kind = 2 ∧ key ≤ 31) ∨ (kind = 3 ∧ 1 ≤ key ∧ key ≤ 63))) :
    jobDeleteRequest kind key b = answer .badArgument .nothing b := by
  unfold jobDeleteRequest
  rw [deleteKey_eq_none_of h]

end

/-! ## CORR_WRITE (R184) -/

theorem firstDifference_eq_none_iff {old new : List (Option Int)} (hlength : old.length = new.length) :
    firstDifference old new = none ↔ old = new := by
  induction old generalizing new with
  | nil => cases new with
    | nil => simp [firstDifference]
    | cons y ys => simp at hlength
  | cons x xs ih => cases new with
    | nil => simp at hlength
    | cons y ys =>
      have hrest := ih (Nat.succ.inj hlength)
      by_cases hsame : x = y <;> simp [firstDifference, hsame, hrest]

theorem firstDifference_eq_some_iff {old new : List (Option Int)} (hlength : old.length = new.length) {i : Nat} :
    firstDifference old new = some i ↔ i < old.length ∧ old[i]? ≠ new[i]? ∧ ∀ k < i, old[k]? = new[k]? := by
  induction old generalizing new i with
  | nil => simp [firstDifference]
  | cons x xs ih => cases new with
    | nil => simp at hlength
    | cons y ys =>
      have hrest := fun j => ih (Nat.succ.inj hlength) (i := j)
      by_cases hsame : x = y
      · subst hsame
        cases i with
        | zero => simp [firstDifference]
        | succ j =>
          have hbefore : (∀ k < j + 1, (x :: xs)[k]? = (x :: ys)[k]?) ↔ ∀ k < j, xs[k]? = ys[k]? :=
            ⟨fun h k hk => h (k + 1) (by omega), fun h k hk => by
              cases k with
              | zero => rfl
              | succ k => exact h k (by omega)⟩
          rw [hbefore]
          simpa [firstDifference] using hrest j
      · cases i with
        | zero => simp [firstDifference, hsame]
        | succ j =>
          have hfirst : ¬ ∀ k < j + 1, (x :: xs)[k]? = (y :: ys)[k]? := fun h => hsame (by simpa using h 0 (by omega))
          simp only [hfirst, and_false, iff_false]
          simp [firstDifference, hsame]

theorem corrValueOk_all_iff {values : List (Option Int)} :
    values.all corrValueOk = true ↔ ∀ v : Int, some v ∈ values → -250 ≤ v ∧ v ≤ 250 := by
  rw [List.all_eq_true]
  constructor
  · intro h v hv
    simpa [corrValueOk] using h _ hv
  · intro h v hv
    cases v with
    | none => rfl
    | some x => simpa [corrValueOk] using h x hv

theorem gaxTable_eq (table : List (Option Int)) (b : Blocks) :
    gaxTable table b = if b.gax.table = table then b else raise .gauge { b with gax := { b.gax with table := table } } := by
  unfold gaxTable
  by_cases hsame : b.gax.table = table
  · subst hsame
    simp [raiseIf, setGax]
  · have hdiff : (b.gax.table != table) = true := by simpa using hsame
    rw [hdiff, if_neg hsame]
    rfl

section
variable {start count : Nat} {values : List (Option Int)} {b : Blocks}

theorem corrWriteRequest_of_bad
    (h : count = 0 ∨ 29 < count ∨ 232 < start + count ∨ values.length ≠ count
      ∨ ∃ v : Int, some v ∈ values ∧ (v < -250 ∨ 250 < v)) :
    corrWriteRequest start count values b = answer .badArgument .nothing b := by
  refine libRequest_of_bad (Bool.eq_false_iff.mpr fun hok => ?_)
  simp only [Bool.and_eq_true, beq_iff_eq, corrRangeOk_iff, corrValueOk_all_iff] at hok
  obtain ⟨⟨hrange, hlength⟩, hvalues⟩ := hok
  rcases h with hzero | hmany | hend | hother | ⟨v, hmem, hout⟩
  · exact hrange (.inr (.inl hzero))
  · exact hrange (.inr (.inr (.inl hmany)))
  · exact hrange (.inr (.inr (.inr hend)))
  · exact hother hlength
  · have hin := hvalues v hmem
    omega

theorem corrWriteRequest_of_ok (hlength : values.length = count) (hfirst : 1 ≤ count) (hlast : count ≤ 29)
    (hend : start + count ≤ 232) (hvalues : ∀ v : Int, some v ∈ values → -250 ≤ v ∧ v ≤ 250) :
    corrWriteRequest start count values b = writeOpen (writeCorrections start values) b := by
  refine libRequest_writeOpen ?_
  simp only [Bool.and_eq_true, beq_iff_eq, corrRangeOk_iff, corrValueOk_all_iff]
  exact ⟨⟨by omega, hlength⟩, hvalues⟩

theorem putPoints_drop {table : List (Option Int)} {i : Nat} (hi : i < values.length) :
    putPoints table (start + i) (values.drop i)
      = table.take (start + i) ++ values.drop i ++ table.drop (start + values.length) := by
  have hend : start + i + (values.drop i).length = start + values.length := by
    rw [List.length_drop]
    omega
  rw [putPoints, hend]

theorem writeCorrections_eq (hlength : values.length = count) :
    writeCorrections start values b =
      match firstDifference ((List.range count).map fun i => currentPoint b.lib (start + i)) values with
      | none => answer .unchanged .nothing b
      | some i =>
        match programNext .corr (start + i) (encodeCorr (values.drop i)) b with
        | (c, .ok) =>
          answer .ok (.corrWritten (start + i) (count - i))
            (gaxTable (c.gax.table.take (start + i) ++ values.drop i ++ c.gax.table.drop (start + count)) c)
        | (c, st) => answer st .nothing c := by
  subst hlength
  unfold writeCorrections
  rw [show currentRange start values.length b.lib
    = (List.range values.length).map fun i => currentPoint b.lib (start + i) from rfl]
  cases hfirst : firstDifference ((List.range values.length).map fun i => currentPoint b.lib (start + i)) values with
  | none => rfl
  | some i =>
    have hi : i < values.length := by
      have hin := ((firstDifference_eq_some_iff (by simp)).mp hfirst).1
      simpa using hin
    simp only [putPoints_drop hi, List.length_drop]
    obtain ⟨c, st⟩ := programNext .corr (start + i) (encodeCorr (values.drop i)) b
    cases st <;> rfl

end

end Sys2Proof.Machine

open Sys2Proof Sys2Proof.Machine

/-- Settles O51: one equation per event, along the jogger's states. -/
theorem jogEvents : Obligations.JogEvents := by
  refine ⟨fun s => next_act_congr s fun b => ?begins, fun b => ?failed, fun front side s hnot => ?still,
    fun front side s hjogging => ⟨s.act (jogEnds front side), rfl, rfl, ?ends⟩, fun edge s => next_act_congr s fun b => ?edge,
    fun s => next_act_congr s entryUncovers_eq, fun r now hgap hduty hon => ?apart, fun r now => ⟨?coilA, coilOn_iff⟩,
    fun b => ⟨?airBed, fun hnot => ?coilsOff, fun r hstate hrecord => ?coilsOn⟩⟩
  case begins => exact if_congr Iff.rfl rfl (tryJog_eq b)
  case failed => exact if_congr Iff.rfl (tryJog_eq _) rfl
  case still => exact congrArg (fun b => Host.Outcome.next { s with blocks := b }) (if_neg hnot)
  case ends =>
    rw [blocks_act, jogEnds_eq hjogging]
    generalize hchecked : jogChecked front side s.blocks = c
    have hkept : c.inputs = { s.blocks.inputs with frontStop := front, sideStop := side } ∧ c.seq = s.blocks.seq
        ∧ c.trk = s.blocks.trk ∧ c.lft = s.blocks.lft ∧ c.gax = s.blocks.gax ∧ c.cku = s.blocks.cku
        ∧ c.trn = s.blocks.trn ∧ c.jog.lastCheck = some ⟨front, side⟩ ∧ c.jog.retries = s.blocks.jog.retries := by
      rw [← hchecked]
      exact ⟨rfl, rfl, rfl, rfl, rfl, rfl, rfl, rfl, rfl⟩
    obtain ⟨hinputs, hseq, htrk, hlft, hgax, hcku, htrn, hlast, hretries⟩ := hkept
    have hrecord : c.jog.record =
        s.blocks.jog.record.map fun r => { r with periods := (r.jogTime * 100 + r.period - 1) / r.period } := by
      rw [← hchecked]
      rfl
    have hstate : c.jog.state = .jogging := by
      rw [← hchecked]
      exact hjogging
    rw [← hinputs, ← hlast, ← hrecord, ← hretries, ← hlft, ← hseq, ← htrk, ← hgax, ← hcku, ← htrn]
    dsimp only
    by_cases hboth : front = true ∧ side = true
    · rw [if_pos hboth]
      have hone : ¬ (front = false ∨ side = false) := by simp [hboth.1, hboth.2]
      exact ⟨rfl, rfl, fun _ => rfl, fun _ _ => ⟨rfl, rfl⟩, fun h => absurd h hone, fun h => absurd h hone, rfl, rfl, rfl,
        rfl, rfl, rfl⟩
    · rw [if_neg hboth]
      have hnot : front = true → side = true → False := fun hfront hside => hboth ⟨hfront, hside⟩
      by_cases hretry : c.jog.retries < 2
      · rw [checkFailed_of_retry hretry]
        obtain ⟨hi, hq, ht, hl, hg, hk, hn⟩ := tryJog_keeps { c with jog := { c.jog with
          state := .receiving, retries := c.jog.retries + 1, repeatWaiting := c.lft.feedPaused, deadline := none } }
        obtain ⟨hr, hw, hc, hs⟩ := jog_tryJog { c with jog := { c.jog with
          state := .receiving, retries := c.jog.retries + 1, repeatWaiting := c.lft.feedPaused, deadline := none } }
        refine ⟨hi, hc, fun hor => ?_, fun hfront hside => (hnot hfront hside).elim, fun _ _ => ⟨hr, ?_, hw⟩,
          fun _ hmore => absurd hretry hmore.not_gt, hq, ht, hl, hg, hk, hn⟩
        · rcases hs with hs | hs
          · rw [hs]
          · simp [hs] at hor
        · rcases hs with hs | hs
          · rw [hs]
            exact .inl rfl
          · exact .inr hs
      · rw [checkFailed_of_third hretry]
        obtain ⟨hi, hq, ht, hl, hg, hk, hn, hc⟩ := jogFault_keeps .jogMisaligned c
        obtain ⟨hfault, hcode⟩ := jogFault_of_not_fault (code := .jogMisaligned) (b := c) (by simp [hstate])
        refine ⟨hi, hc, fun hor => ?_, fun hfront hside => (hnot hfront hside).elim, fun _ hless => absurd hless hretry,
          fun _ _ => ⟨hfault, hcode⟩, hq, ht, hl, hg, hk, hn⟩
        simp [hfault] at hor
  case edge => exact (stopUncovers_eq edge b).trans (if_congr (by rw [stopCovered_eq] <;> exact Iff.rfl) rfl rfl)
  case apart =>
    rw [coilAOn, coilBOn, coilOn_iff, coilOn_iff]
    exact coils_apart hgap (hon ▸ onTime_le hduty)
  case coilA =>
    rw [coilAOn, coilOn_iff, Nat.zero_add]
  case airBed => simp [airBedOpen]
  case coilsOff =>
    unfold coils
    split
    case h_1 hstate _ => exact absurd hstate hnot
    case h_2 => rfl
  case coilsOn => simp only [coils, hstate, hrecord]

/-- Settles O52: the transfer's start by its conditions, its end by the state it meets. -/
theorem transferEvents : Obligations.TransferEvents := by
  unfold Obligations.TransferEvents
  intro late
  have hlate : ∀ b : Blocks, clockAt b.jog.deadline b = late b := fun b => clockAt_eq_match b.jog.deadline b
  refine ⟨fun s => next_act_congr s fun b => ?begins, fun s => next_act_congr s fun b => ?timeout, fun s => rfl,
    fun s => next_act_congr s fun b => ?carriage, fun code b => rfl, jogWatch_eq, carriageDrive_eq⟩
  case begins =>
    show tryTransfer b = _
    unfold tryTransfer
    cases hsnap : b.seq.snapshot with
    | none => rfl
    | some snap =>
      exact if_congr (and_congr_right fun _ => and_congr_right fun _ => transferRefusal_isNone_iff hsnap) rfl rfl
  case timeout => exact if_congr Iff.rfl (congrArg (jogFault .transferTimeout) (hlate b)) rfl
  case carriage =>
    refine if_congr returnRuns_iff ?_ rfl
    rw [← hlate, clockAt_eq]
    rfl

/-- Settles O53: each request by the tests of R181, JOB_END by the outcome of its placing. -/
theorem stagedTransferJudged : Obligations.StagedTransferJudged := by
  refine ⟨fun kind key length s h => ⟨fun hbad => (run_asRequest h).trans (next_act_congr s fun b => ?badBegin),
      fun hok hfirst hlast => (run_asRequest h).trans (next_act_congr s fun b => ?begins)⟩,
    fun offset data s h hdata => (run_asRequest h).trans (next_act_congr s fun b => ?part),
    fun offset s h => (run_asRequest h).trans (next_act_congr s fun b => ?badPart),
    fun check s h => (run_asRequest h).trans (next_act_congr s fun b => ?ends), fun s => next_act_congr s fun b => rfl⟩
  case badBegin => exact jobBeginRequest_of_bad hbad
  case begins => exact jobBeginRequest_of_ok hok hfirst hlast
  case part => exact libRequest_staging (by simpa using hdata)
  case badPart => exact libRequest_of_bad rfl
  case ends => exact libRequest_write rfl

/-- Settles O54: the index and a point's source are both the record of highest sequence number (`highest`). -/
theorem libraryReads : Obligations.LibraryReads := by
  refine ⟨fun kind key offset k s h hkind => (run_asRequest h).trans (next_act_congr s fun b => ?body),
    fun kind key offset s h hbad => (run_asRequest h).trans (next_act_congr s fun b => jobReadRequest_of_bad hbad),
    fun key s h => (run_asRequest h).trans (next_act_congr s fun b => ?stock),
    fun start count s h => (run_asRequest h).trans (next_act_congr s fun b => corrReadRequest_eq),
    fun l kind key => rfl,
    fun l kind key hkind => ⟨currentRecord_reindex_of_absent hkind, fun p hp hamong hmax =>
      currentRecord_reindex_of_max hkind hp hamong hmax⟩,
    fun l j hj => ⟨currentPoint_reindex_of_uncovered hj, fun p hp hcovers hmax v hv =>
      currentPoint_reindex_of_max hj hp hcovers hmax hv⟩,
    fun body => rfl⟩
  case body => exact (jobReadRequest_of_kind hkind).trans (congrArg (ite _ _) readBody_eq)
  case stock => exact stockReadRequest_eq.trans (congrArg (ite _ _) (congrArg (ite _ _) readStock_eq))

/-- Settles O55: each write by the tests of R181; figures in range read back from their bytes. -/
theorem libraryWrites : Obligations.LibraryWrites := by
  refine ⟨fun key f s h => ⟨fun hrange hfirst hlast => (run_asRequest h).trans (next_act_congr s fun b => ?stock),
      fun hbad => (run_asRequest h).trans (next_act_congr s fun b => stockWriteRequest_of_bad hbad)⟩,
    fun kind key k s h hkind => (run_asRequest h).trans (next_act_congr s fun b => ?delete),
    fun kind key s h hbad => (run_asRequest h).trans (next_act_congr s fun b => jobDeleteRequest_of_bad hbad),
    fun start count values s h hbad => (run_asRequest h).trans (next_act_congr s fun b => corrWriteRequest_of_bad hbad),
    fun start count values s h hlength hfirst hlast hend hvalues =>
      (run_asRequest h).trans (next_act_congr s fun b => ?corr),
    gaxTable_eq, fun f => ⟨inRange_iff, rfl, decodeStock_encode⟩, encodeCorr_eq,
    fun old new hlength => ⟨firstDifference_eq_none_iff hlength, fun i => firstDifference_eq_some_iff hlength⟩⟩
  case stock => exact stockWriteRequest_of_ok hrange hfirst hlast
  case delete => exact jobDeleteRequest_of_kind hkind
  case corr =>
    exact (corrWriteRequest_of_ok hlength hfirst hlast hend hvalues).trans
      (writeOpen_congr (fun b => writeCorrections_eq hlength) b)

end

section
/-! SUPPORT. The Job Library's placing, compaction and erase (chapter 11), and the Line Link (chapter 12). -/

set_option Elab.async false

namespace Sys2Proof.Machine

open Sys2Proof

/-! ## The open and the next erased section (R177) -/

section
variable {flash : List Section} {i : Nat}

theorem openSection_eq_some (h : openSection flash = some i) :
    ∃ (n : Nat) (slots : List Slot), flash[i]? = some (.begun n slots) ∧ highestOrder flash = n
      ∧ ∀ (j m : Nat) (more : List Slot), flash[j]? = some (Section.begun m more) → m ≤ n := by
  obtain ⟨⟨n, _⟩, hlast, rfl⟩ := Option.map_eq_some_iff.mp h
  obtain ⟨slots, hat⟩ := mem_begunSections.mp (List.mem_of_getLast? hlast)
  refine ⟨n, slots, hat, by simp [highestOrder, hlast], fun j m more hj => ?_⟩
  obtain ⟨init, hsplit⟩ := List.getLast?_eq_some_iff.mp hlast
  have hmem := mem_begunSections.mpr ⟨more, hj⟩
  have hsorted := begunSections_sorted flash
  rw [hsplit] at hmem hsorted
  rcases List.mem_append.mp hmem with hin | hin
  · exact (List.pairwise_append.mp hsorted).2.2 _ hin _ List.mem_cons_self
  · exact (congrArg Prod.fst (List.mem_singleton.mp hin)).le

theorem openSection_eq_none (h : openSection flash = none) :
    highestOrder flash = 0 ∧ ∀ (j m : Nat) (more : List Slot), flash[j]? ≠ some (Section.begun m more) := by
  have hlast : (begunSections flash).getLast? = none := Option.map_eq_none_iff.mp h
  refine ⟨by simp [highestOrder, hlast], fun j m more hj => ?_⟩
  have hmem := mem_begunSections.mpr ⟨more, hj⟩
  rw [List.getLast?_eq_none_iff.mp hlast] at hmem
  exact nomatch hmem

/-- The section from which the next erased one is sought. -/
def seekFrom (flash : List Section) : Nat := match openSection flash with | some i => i + 1 | none => 0

theorem erasedAt_iff : ((flash[i]?.map Section.isErased).getD false) = true ↔ flash[i]? = some .erased := by
  cases hc : flash[i]? with
  | none => simp
  | some c => cases c <;> simp [Section.isErased]

theorem nextErased_eq (flash : List Section) :
    nextErased flash = ((List.range 96).find? fun k => decide (flash[(seekFrom flash + k) % 96]? = some .erased)).map
      fun k => (seekFrom flash + k) % 96 := by
  have hseek : nextErased flash = ((List.range 96).map fun k => (seekFrom flash + k) % 96).find? fun i =>
    (flash[i]?.map Section.isErased).getD false := (rfl)
  rw [hseek, List.find?_map]
  congr 2
  funext k
  exact Bool.eq_iff_iff.mpr (erasedAt_iff.trans decide_eq_true_iff.symm)

theorem nextErased_eq_some (h : nextErased flash = some i) :
    ∃ k < 96, i = (seekFrom flash + k) % 96 ∧ flash[i]? = some .erased
      ∧ ∀ m < k, flash[(seekFrom flash + m) % 96]? ≠ some .erased := by
  rw [nextErased_eq] at h
  obtain ⟨k, hfind, rfl⟩ := Option.map_eq_some_iff.mp h
  obtain ⟨hat, hmem, hbefore⟩ := List.find?_range_eq_some.mp hfind
  exact ⟨k, List.mem_range.mp hmem, rfl, of_decide_eq_true hat, fun m hm => by simpa using hbefore m hm⟩

theorem nextErased_eq_none (h : nextErased flash = none) (hi : i < 96) : flash[i]? ≠ some .erased := by
  rw [nextErased_eq, Option.map_eq_none_iff, List.find?_eq_none] at h
  have hreach : (seekFrom flash + (i + 96 - seekFrom flash % 96) % 96) % 96 = i := by omega
  have hat := h ((i + 96 - seekFrom flash % 96) % 96) (List.mem_range.mpr (by omega))
  rwa [hreach, decide_eq_true_iff] at hat

end

/-! ## A library that closes (R186) -/

theorem libClose_eq (why : LibFailure) (b : Blocks) :
    libClose why b =
      let closed : Blocks := raise .library { b with lib := { b.lib with
        state := .closed, work := none, staging := none, failure := some why, deadline := none, lastEvent := some .closed } }
      if b.cku.storeDeferred = true then
        raise .knife { closed with cku := { b.cku with storeDeferred := false, unstored := true } }
      else closed := (rfl)

/-! ## Programming and beginning (R177, R180) -/

/-- A free value is spent and the flash stands as it was left. -/
def leftWith (left : List Section) (b : Blocks) : Blocks :=
  { b with freeIndex := b.freeIndex + 1, lib := { b.lib with flash := left } }

/-- What a failed programming can leave of a record (log 14). -/
def LeavesOf (flash : List Section) (i : Nat) (r : Rec) (left : List Section) : Prop :=
  left = flash ∨ ∃ x : Slot, (x = .valid r ∨ x = .torn ∨ x = .damaged (12 + (r.body.length + 3) / 4 * 4))
    ∧ left = appendSlot flash i x

section
variable {i : Nat} {r : Rec} {b : Blocks}

theorem programRecord_of_ok (h : b.inputs.programFails = false) :
    programRecord i r b = ({ b with lib := reindex { b.lib with flash := appendSlot b.lib.flash i (.valid r) } }, .done) := by
  simp only [programRecord, h, Bool.false_eq_true, if_false, setLib]

theorem programRecord_of_fails (h : b.inputs.programFails = true) :
    ∃ left, LeavesOf b.lib.flash i r left ∧ programRecord i r b = (libClose .program (leftWith left b), .failed) := by
  refine ⟨match failedSlot r (Config.failedProgram b.freeIndex) with
    | some x => appendSlot b.lib.flash i x | none => b.lib.flash, ?_, ?_⟩
  · cases Config.failedProgram b.freeIndex with
    | nothing => exact .inl rfl
    | damaged => exact .inr ⟨_, .inr (.inr rfl), rfl⟩
    | torn => exact .inr ⟨_, .inr (.inl rfl), rfl⟩
    | whole => exact .inr ⟨_, .inl rfl, rfl⟩
  · simp only [programRecord, h, if_true, setLib, nextFree, leftWith] <;> rfl

theorem beginSection_of_none (h : nextErased b.lib.flash = none ∨ 4294967295 ≤ highestOrder b.lib.flash) :
    beginSection b = (libClose .beginSection b, none) := by
  unfold beginSection
  cases hnext : nextErased b.lib.flash with
  | none => rfl
  | some i =>
    have hpast : Config.maxOrder < highestOrder b.lib.flash + 1 := by
      rcases h with hnone | hhigh
      · rw [hnone] at hnext
        exact nomatch hnext
      · exact Nat.lt_succ_of_le hhigh
    simp only [if_pos hpast]

theorem maxOrder_not_lt {n : Nat} (h : n < 4294967295) : ¬ Config.maxOrder < n + 1 := by
  simp only [Config.maxOrder]
  omega

theorem beginSection_of_fails (hnext : nextErased b.lib.flash = some i) (horder : highestOrder b.lib.flash < 4294967295)
    (hfails : b.inputs.beginFails = true) :
    ∃ c : Section, (c = .erased ∨ c = .bad ∨ c = .begun (highestOrder b.lib.flash + 1) [])
      ∧ beginSection b = (libClose .beginSection (leftWith (b.lib.flash.set i c) b), none) := by
  refine ⟨failedSection (highestOrder b.lib.flash + 1) (Config.failedBegin b.freeIndex), ?_, ?_⟩
  · cases Config.failedBegin b.freeIndex with
    | erased => exact .inl rfl
    | bad => exact .inr (.inl rfl)
    | begun => exact .inr (.inr rfl)
  · simp only [beginSection, hnext, if_neg (maxOrder_not_lt horder), hfails, if_true, setLib, nextFree, leftWith]

theorem beginSection_of_ok (hnext : nextErased b.lib.flash = some i) (horder : highestOrder b.lib.flash < 4294967295)
    (hok : b.inputs.beginFails = false) :
    beginSection b = ({ b with lib := { b.lib with
      flash := b.lib.flash.set i (.begun (highestOrder b.lib.flash + 1) []) } }, some i) := by
  simp only [beginSection, hnext, if_neg (maxOrder_not_lt horder), hok, Bool.false_eq_true, if_false, setLib]

end

/-! ## A record with the next sequence number (R180) -/

/-- The reply to a programming: the sequence number is taken, or the library has closed. -/
def programmed (p : Blocks × Placed) : Blocks × Status :=
  match p.2 with
  | .done => (setLib (fun l => { l with nextSeq := l.nextSeq + 1 }) p.1, .ok)
  | .failed => (p.1, .libraryClosed)

/-- LIBRARY_FULL leaves everything as it was, but for the event and its notice. -/
def libraryFull (b : Blocks) : Blocks × Status :=
  (raise .library { b with lib := { b.lib with lastEvent := some .libraryFull } }, .libraryFull)

section
variable {kind : RecKind} {key : Nat} {body : List Byte} {b : Blocks}

theorem programNext_of_spent (h : 4294967295 < b.lib.nextSeq) : programNext kind key body b = libraryFull b := by
  have hspent : Config.maxOrder < b.lib.nextSeq := h
  simp only [programNext, if_pos hspent, libEvent, setLib, libraryFull]

theorem programNext_of_fits {i : Nat} (hseq : b.lib.nextSeq ≤ 4294967295) (hopen : openSection b.lib.flash = some i)
    (hfits : 12 + (body.length + 3) / 4 * 4 ≤ 2032 - usedRoom (slotsAt b.lib.flash i)) :
    programNext kind key body b = programmed (programRecord i ⟨kind, key, b.lib.nextSeq, body⟩ b) := by
  have hroom : roomLeft b.lib = 2032 - usedRoom (slotsAt b.lib.flash i) := by
    simp only [roomLeft, hopen, Config.sectionRoom]
  have hsmall : recordSize body.length ≤ roomLeft b.lib := hroom ▸ hfits
  have hunspent : ¬ Config.maxOrder < b.lib.nextSeq := not_lt.mpr hseq
  simp only [programNext, if_neg hunspent, hopen, if_pos hsmall, programmed] <;> rfl

/-- With no room in the open section the next erased section is begun. -/
theorem programNext_of_no_room (hseq : b.lib.nextSeq ≤ 4294967295)
    (hroom : ∀ i, openSection b.lib.flash = some i →
      2032 - usedRoom (slotsAt b.lib.flash i) < 12 + (body.length + 3) / 4 * 4) :
    programNext kind key body b =
      if erasedCount b.lib.flash < 2 then libraryFull b
      else match beginSection b with
        | (c, some i) => programmed (programRecord i ⟨kind, key, b.lib.nextSeq, body⟩ c)
        | (c, none) => (c, .libraryClosed) := by
  have hunspent : ¬ Config.maxOrder < b.lib.nextSeq := not_lt.mpr hseq
  cases hopen : openSection b.lib.flash with
  | none => simp only [programNext, if_neg hunspent, hopen, libEvent, setLib, libraryFull, programmed] <;> rfl
  | some i =>
    have hleft : roomLeft b.lib = 2032 - usedRoom (slotsAt b.lib.flash i) := by
      simp only [roomLeft, hopen, Config.sectionRoom]
    have hlarge : ¬ recordSize body.length ≤ roomLeft b.lib := by
      rw [hleft]
      exact not_le.mpr (hroom i hopen)
    simp only [programNext, if_neg hunspent, hopen, if_neg hlarge, libEvent, setLib, libraryFull, programmed] <;> rfl

end

/-! ## The outcomes of a placing (R180) -/

section
variable {kind : RecKind} {key : Nat} {body : List Byte} {b : Blocks}

theorem placeRecord_of_same {r : Rec} (h : currentRecord b.lib kind key = some r) (hbody : r.body = body) :
    placeRecord kind key body b = (b, .unchanged) := by
  simp only [placeRecord, h, if_pos hbody]

theorem placeRecord_of_other (h : ∀ r, currentRecord b.lib kind key = some r → r.body ≠ body) :
    placeRecord kind key body b = programNext kind key body b := by
  unfold placeRecord
  cases hcurrent : currentRecord b.lib kind key with
  | none => rfl
  | some r => simp only [if_neg (h r hcurrent)]

theorem programmed_of_ok {i : Nat} {r : Rec} (h : b.inputs.programFails = false) :
    programmed (programRecord i r b) = ({ b with lib := { reindex { b.lib with
      flash := appendSlot b.lib.flash i (.valid r) } with nextSeq := b.lib.nextSeq + 1 } }, .ok) := by
  rw [programRecord_of_ok h]
  rfl

theorem programmed_of_fails {i : Nat} {r : Rec} (h : b.inputs.programFails = true) :
    ∃ left, LeavesOf b.lib.flash i r left
      ∧ programmed (programRecord i r b) = (libClose .program (leftWith left b), .libraryClosed) := by
  obtain ⟨left, hleaves, hfailed⟩ := programRecord_of_fails (i := i) (r := r) h
  exact ⟨left, hleaves, by rw [hfailed]; rfl⟩

section
variable (hseq : b.lib.nextSeq ≤ 4294967295)
  (hroom : ∀ i, openSection b.lib.flash = some i →
    2032 - usedRoom (slotsAt b.lib.flash i) < 12 + (body.length + 3) / 4 * 4)
include hseq hroom

theorem programNext_of_full (herased : erasedCount b.lib.flash < 2) : programNext kind key body b = libraryFull b := by
  rw [programNext_of_no_room hseq hroom, if_pos herased]

/-- Where no section can be begun the library closes. -/
theorem programNext_of_begin_fails (herased : 2 ≤ erasedCount b.lib.flash) {c : Blocks} (h : beginSection b = (c, none)) :
    programNext kind key body b = (c, .libraryClosed) := by
  rw [programNext_of_no_room hseq hroom, if_neg (not_lt.mpr herased), h]

/-- The record goes into the section begun. -/
theorem programNext_of_begun (herased : 2 ≤ erasedCount b.lib.flash) {i : Nat} (hnext : nextErased b.lib.flash = some i)
    (horder : highestOrder b.lib.flash < 4294967295) (hok : b.inputs.beginFails = false) :
    programNext kind key body b = programmed (programRecord i ⟨kind, key, b.lib.nextSeq, body⟩ { b with lib := { b.lib with
      flash := b.lib.flash.set i (.begun (highestOrder b.lib.flash + 1) []) } }) := by
  rw [programNext_of_no_room hseq hroom, if_neg (not_lt.mpr herased), beginSection_of_ok hnext horder hok]

end

end

/-! ## What a library operation leaves unchanged -/

/-- The block but for LIB, CKU's marks of the knife's store, the pending flags and the count of free values. -/
def besides (b : Blocks) : Blocks :=
  { b with lib := Lib.atReset, cku := { b.cku with storeDeferred := false, unstored := false, lastStored := 0 },
           lnk := linkCore b, freeIndex := 0 }

/-- A library operation changes no more than that, and defers no store of CKU. -/
structure LibraryOnly (b c : Blocks) : Prop where
  same : besides c = besides b
  undeferred : b.cku.storeDeferred = false → c.cku.storeDeferred = false

theorem LibraryOnly.refl (b : Blocks) : LibraryOnly b b := ⟨rfl, id⟩

theorem LibraryOnly.trans {b c d : Blocks} (h : LibraryOnly b c) (h' : LibraryOnly c d) : LibraryOnly b d :=
  ⟨h'.same.trans h.same, h'.undeferred ∘ h.undeferred⟩

theorem LibraryOnly.lib (l : Lib) (b : Blocks) : LibraryOnly b { b with lib := l } := ⟨rfl, id⟩

theorem LibraryOnly.libraryFlag (b : Blocks) : LibraryOnly b (raise .library b) := ⟨rfl, id⟩

theorem LibraryOnly.left (left : List Section) (b : Blocks) : LibraryOnly b (leftWith left b) := ⟨rfl, id⟩

theorem LibraryOnly.closed (why : LibFailure) (b : Blocks) : LibraryOnly b (libClose why b) := by
  rw [libClose_eq]
  dsimp only
  split_ifs with hdeferred
  · exact ⟨rfl, fun _ => rfl⟩
  · exact ⟨rfl, id⟩

theorem LibraryOnly.full (b : Blocks) : LibraryOnly b (libraryFull b).1 := ⟨rfl, id⟩

theorem libraryOnly_programRecord (i : Nat) (r : Rec) (b : Blocks) : LibraryOnly b (programRecord i r b).1 := by
  cases hfails : b.inputs.programFails with
  | false =>
    rw [programRecord_of_ok hfails]
    exact .lib _ b
  | true =>
    obtain ⟨left, -, hfailed⟩ := programRecord_of_fails (i := i) (r := r) hfails
    rw [hfailed]
    exact (LibraryOnly.left left b).trans (.closed _ _)

theorem libraryOnly_beginSection (b : Blocks) : LibraryOnly b (beginSection b).1 := by
  by_cases hnone : nextErased b.lib.flash = none ∨ 4294967295 ≤ highestOrder b.lib.flash
  · rw [beginSection_of_none hnone]
    exact .closed _ b
  · obtain ⟨hsome, horder⟩ := not_or.mp hnone
    obtain ⟨i, hnext⟩ := Option.ne_none_iff_exists'.mp hsome
    cases hfails : b.inputs.beginFails with
    | false =>
      rw [beginSection_of_ok hnext (not_le.mp horder) hfails]
      exact .lib _ b
    | true =>
      obtain ⟨c, -, hbegin⟩ := beginSection_of_fails hnext (not_le.mp horder) hfails
      rw [hbegin]
      exact (LibraryOnly.left _ b).trans (.closed _ _)

theorem libraryOnly_programmed (i : Nat) (r : Rec) (b : Blocks) : LibraryOnly b (programmed (programRecord i r b)).1 := by
  have hprogram := libraryOnly_programRecord i r b
  generalize programRecord i r b = p at hprogram ⊢
  obtain ⟨c, placed⟩ := p
  cases placed with
  | done => exact hprogram.trans (.lib _ _)
  | failed => exact hprogram

theorem libraryOnly_programNext (kind : RecKind) (key : Nat) (body : List Byte) (b : Blocks) :
    LibraryOnly b (programNext kind key body b).1 := by
  by_cases hspent : 4294967295 < b.lib.nextSeq
  · rw [programNext_of_spent hspent]
    exact .full b
  by_cases hfits : ∃ i, openSection b.lib.flash = some i
      ∧ 12 + (body.length + 3) / 4 * 4 ≤ 2032 - usedRoom (slotsAt b.lib.flash i)
  · obtain ⟨i, hopen, hroom⟩ := hfits
    rw [programNext_of_fits (not_lt.mp hspent) hopen hroom]
    exact libraryOnly_programmed i _ b
  · have hroom : ∀ i, openSection b.lib.flash = some i →
        2032 - usedRoom (slotsAt b.lib.flash i) < 12 + (body.length + 3) / 4 * 4 :=
      fun i hopen => not_le.mp fun hle => hfits ⟨i, hopen, hle⟩
    rw [programNext_of_no_room (not_lt.mp hspent) hroom]
    have hbegin := libraryOnly_beginSection b
    split_ifs with hfull
    · exact .full b
    · generalize beginSection b = p at hbegin ⊢
      obtain ⟨c, next⟩ := p
      cases next with
      | none => exact hbegin
      | some i => exact hbegin.trans (libraryOnly_programmed i _ c)

theorem libraryOnly_placeRecord (kind : RecKind) (key : Nat) (body : List Byte) (b : Blocks) :
    LibraryOnly b (placeRecord kind key body b).1 := by
  rcases placeRecord_cases kind key body b with ⟨-, hsame⟩ | hnext
  · rw [hsame]
    exact .refl b
  · rw [hnext]
    exact libraryOnly_programNext kind key body b

/-! ## CKU's store (R128) -/

theorem ckuStore_eq (b : Blocks) :
    ckuStore b = match b.lib.state with
      | .compacting => { b with cku := { b.cku with storeDeferred := true } }
      | .closed => raise .knife { b with cku := { b.cku with unstored := true } }
      | .opened =>
        match placeRecord .knife 0 b.cku.knife.encode b with
        | (c, .ok) => { c with cku := { c.cku with unstored := false, lastStored := c.cku.knife.C } }
        | (c, .unchanged) => { c with cku := { c.cku with unstored := false, lastStored := c.cku.knife.C } }
        | (c, _) => raise .knife { c with cku := { c.cku with unstored := true } } := by
  unfold ckuStore
  cases b.lib.state with
  | compacting => rfl
  | closed => rfl
  | opened =>
    obtain ⟨c, st⟩ := placeRecord .knife 0 b.cku.knife.encode b
    cases st <;> rfl

/-- A store that LIB takes in is LIB's alone. -/
theorem libraryOnly_ckuStore {b : Blocks} (h : b.lib.state ≠ .compacting) : LibraryOnly b (ckuStore b) := by
  rw [ckuStore_eq]
  cases hstate : b.lib.state with
  | compacting => exact absurd hstate h
  | closed => exact ⟨rfl, id⟩
  | opened =>
    have hplace := libraryOnly_placeRecord .knife 0 b.cku.knife.encode b
    generalize placeRecord .knife 0 b.cku.knife.encode b = p at hplace ⊢
    obtain ⟨c, st⟩ := p
    refine hplace.trans ?_
    cases st <;> exact ⟨rfl, id⟩

/-! ## Copying and compaction (R185) -/

/-- The destination after a programming: none where the library has closed. -/
def copied (i : Nat) (p : Blocks × Placed) : Blocks × Option Nat :=
  match p.2 with
  | .done => (p.1, some i)
  | .failed => (p.1, none)

section
variable {r : Rec} {dest : Option Nat} {i : Nat} {b : Blocks}

theorem copyRecord_of_fits (h : 12 + (r.body.length + 3) / 4 * 4 ≤ 2032 - usedRoom (slotsAt b.lib.flash i)) :
    copyRecord r (some i) b = copied i (programRecord i r b) := by
  have hfits : decide (recordSize r.body.length ≤ Config.sectionRoom - usedRoom (slotsAt b.lib.flash i)) = true :=
    decide_eq_true h
  simp only [copyRecord, hfits, if_true]
  obtain ⟨c, placed⟩ := programRecord i r b
  cases placed <;> rfl

theorem copyRecord_of_no_room
    (h : ∀ j, dest = some j → 2032 - usedRoom (slotsAt b.lib.flash j) < 12 + (r.body.length + 3) / 4 * 4) :
    copyRecord r dest b = match beginSection b with
      | (c, some i) => copied i (programRecord i r c)
      | (c, none) => (c, none) := by
  have hfits : (match dest with
      | some i => decide (recordSize r.body.length ≤ Config.sectionRoom - usedRoom (slotsAt b.lib.flash i))
      | none => false) = false := by
    cases dest with
    | none => rfl
    | some j => exact decide_eq_false (not_le.mpr (h j rfl))
  unfold copyRecord
  obtain ⟨c, next⟩ := beginSection b
  cases dest with
  | none =>
    cases next with
    | none => rfl
    | some i =>
      simp only [copied, Bool.false_eq_true, if_false]
      obtain ⟨d, placed⟩ := programRecord i r c
      cases placed <;> rfl
  | some j =>
    simp only [hfits, Bool.false_eq_true, if_false]
    cases next with
    | none => rfl
    | some i =>
      simp only [copied]
      obtain ⟨d, placed⟩ := programRecord i r c
      cases placed <;> rfl

theorem libraryOnly_copied (i : Nat) (r : Rec) (b : Blocks) : LibraryOnly b (copied i (programRecord i r b)).1 := by
  have hprogram := libraryOnly_programRecord i r b
  generalize programRecord i r b = p at hprogram ⊢
  obtain ⟨c, placed⟩ := p
  cases placed <;> exact hprogram

end

/-! ## What the library's work leaves unchanged -/

theorem libraryOnly_copyRecord (r : Rec) (dest : Option Nat) (b : Blocks) : LibraryOnly b (copyRecord r dest b).1 := by
  by_cases hfits : ∃ i, dest = some i ∧ 12 + (r.body.length + 3) / 4 * 4 ≤ 2032 - usedRoom (slotsAt b.lib.flash i)
  · obtain ⟨i, rfl, hroom⟩ := hfits
    rw [copyRecord_of_fits hroom]
    exact libraryOnly_copied i r b
  · have hroom : ∀ i, dest = some i → 2032 - usedRoom (slotsAt b.lib.flash i) < 12 + (r.body.length + 3) / 4 * 4 :=
      fun i hdest => not_le.mp fun hle => hfits ⟨i, hdest, hle⟩
    rw [copyRecord_of_no_room hroom]
    have hbegin := libraryOnly_beginSection b
    generalize beginSection b = p at hbegin ⊢
    obtain ⟨c, next⟩ := p
    cases next with
    | none => exact hbegin
    | some i => exact hbegin.trans (libraryOnly_copied i r c)

section
variable {p : Place × Rec} {rest : List (Place × Rec)} {dest : Option Nat} {b : Blocks}

theorem copyLive_of_dead (h : isLive b.lib p = false) : copyLive (p :: rest) dest b = copyLive rest dest b := by
  rw [copyLive, h, if_neg Bool.false_ne_true]

theorem copyLive_of_live (h : isLive b.lib p = true) :
    copyLive (p :: rest) dest b =
      match copyRecord p.2 dest b with
      | (c, some i) => copyLive rest (some i) c
      | (c, none) => (c, none) := by
  rw [copyLive, if_pos h] <;> rfl

end

theorem libraryOnly_copyLive (records : List (Place × Rec)) (dest : Option Nat) (b : Blocks) :
    LibraryOnly b (copyLive records dest b).1 := by
  induction records generalizing dest b with
  | nil => exact .refl b
  | cons p rest ih =>
    cases hlive : isLive b.lib p with
    | false =>
      rw [copyLive_of_dead hlive]
      exact ih dest b
    | true =>
      rw [copyLive_of_live hlive]
      have hcopy := libraryOnly_copyRecord p.2 dest b
      generalize copyRecord p.2 dest b = q at hcopy ⊢
      obtain ⟨c, next⟩ := q
      cases next with
      | none => exact hcopy
      | some i => exact hcopy.trans (ih (some i) c)

/-- The block but for what LIB and the end of its start-up change: GAX's table, CKU's record and its marks, and MSU's phase
besides. -/
def outside (b : Blocks) : Blocks :=
  let kept := besides b
  { kept with gax := { kept.gax with table := [] }, msu := { kept.msu with phase := .ended },
              cku := { kept.cku with knife := KnifeRecord.default, wearCap := false } }

theorem outside_of_libraryOnly {b c : Blocks} (h : LibraryOnly b c) : outside c = outside b := by
  simp only [outside, h.same]

theorem outside_libReady (b : Blocks) : outside (libReady b) = outside b := by
  unfold libReady
  split_ifs <;> rfl

theorem outside_takeSource (src : Nat) (rest : List Nat) (dest : Option Nat) (copied total : Nat) (b : Blocks) :
    outside (takeSource src rest dest copied total b) = outside b := by
  have hcopied := libraryOnly_copyLive (sectionRecords src 0 (slotsAt b.lib.flash src)) dest b
  unfold takeSource
  generalize copyLive (sectionRecords src 0 (slotsAt b.lib.flash src)) dest b = p at hcopied ⊢
  obtain ⟨c, dest'⟩ := p
  refine Eq.trans ?_ (outside_of_libraryOnly hcopied)
  dsimp only
  split_ifs
  · exact outside_libReady c
  · rfl

theorem outside_endCompaction (b : Blocks) : outside (endCompaction b) = outside b := outside_libReady _

theorem outside_beginCompaction (b : Blocks) : outside (beginCompaction b) = outside b := by
  unfold beginCompaction
  cases compactionSources b.lib.flash with
  | nil => exact outside_endCompaction _
  | cons src rest => exact outside_takeSource _ _ _ _ _ _

theorem outside_afterSpent (powerOn : Bool) (b : Blocks) : outside (afterSpent powerOn b) = outside b := by
  unfold afterSpent
  dsimp only
  split_ifs
  · exact outside_beginCompaction _
  · exact outside_libReady _

theorem outside_eraseSpent (powerOn : Bool) (b : Blocks) : outside (eraseSpent powerOn b) = outside b := by
  unfold eraseSpent
  cases nextSpent b.lib with
  | none => exact outside_afterSpent powerOn b
  | some i => rfl

theorem outside_gaxTable (table : List (Option Int)) (b : Blocks) : outside (gaxTable table b) = outside b := by
  rw [gaxTable_eq]
  split_ifs <;> rfl

theorem lib_gaxTable (table : List (Option Int)) (b : Blocks) : (gaxTable table b).lib = b.lib := by
  rw [gaxTable_eq]
  split_ifs <;> rfl

theorem outside_endEraseAll (b : Blocks) : outside (endEraseAll b) = outside b := by
  unfold endEraseAll
  refine (outside_of_libraryOnly (libraryOnly_ckuStore ?_)).trans (outside_gaxTable _ _)
  rw [lib_setCku, lib_gaxTable]
  exact nofun

theorem outside_sectionErased (w : LibWork) (b : Blocks) : outside (sectionErased w b) = outside b := by
  cases w with
  | spent i powerOn => exact outside_eraseSpent _ _
  | compact i rest dest copied total => cases rest with
    | nil => exact outside_endCompaction _
    | cons src rest => exact outside_takeSource _ _ _ _ _ _
  | eraseAll i =>
    unfold sectionErased
    dsimp only
    split_ifs
    · exact outside_endEraseAll _
    · rfl

/-- What a failed or interrupted erase leaves of its section (log 14, log 31). -/
def afterErase (b : Blocks) (c : Section) : Section := failedEraseOf c (Config.failedErase b.freeIndex)

theorem spoilSection_eq (i : Nat) (b : Blocks) :
    spoilSection i b = leftWith (b.lib.flash.modify i (afterErase b)) b := rfl

theorem libraryOnly_eraseFailed (w : LibWork) (b : Blocks) : LibraryOnly b (eraseFailed w b) := by
  unfold eraseFailed
  rw [spoilSection_eq]
  exact ((LibraryOnly.left _ b).trans (.lib _ _)).trans (.closed .erase _)

theorem outside_eraseDone (w : LibWork) (b : Blocks) : outside (eraseDone w b) = outside b := by
  unfold eraseDone
  split_ifs
  · exact (outside_libReady _).trans (outside_of_libraryOnly (libraryOnly_eraseFailed w b))
  · exact outside_sectionErased w b

/-- The clock stands through the library's work. -/
theorem clock_eraseDone (w : LibWork) (b : Blocks) : (eraseDone w b).clock = b.clock :=
  (congrArg Blocks.clock (outside_eraseDone w b) : (outside (eraseDone w b)).clock = (outside b).clock)

/-! ## The sources of a compaction (R185) -/

theorem mem_begunNumbers {flash : List Section} {i : Nat} :
    i ∈ (begunSections flash).map (·.2) ↔ ∃ n slots, flash[i]? = some (.begun n slots) := by
  rw [List.mem_map]
  constructor
  · rintro ⟨⟨n, j⟩, hmem, rfl⟩
    obtain ⟨slots, hat⟩ := mem_begunSections.mp hmem
    exact ⟨n, slots, hat⟩
  · rintro ⟨n, slots, hat⟩
    exact ⟨(n, i), mem_begunSections.mpr ⟨slots, hat⟩, rfl⟩

/-- The bad sections, by rising section number. -/
theorem badSources_eq (flash : List Section) :
    (flash.zipIdx.filterMap fun p => if p.1.isBad then some p.2 else none)
      = (List.range flash.length).filter fun i => decide (flash[i]? = some .bad) := by
  induction flash using List.reverseRecOn with
  | nil => rfl
  | append_singleton l c ih =>
    have hbefore : (List.range l.length).filter (fun i => decide ((l ++ [c])[i]? = some .bad))
        = (List.range l.length).filter fun i => decide (l[i]? = some .bad) :=
      List.filter_congr fun i hi => by rw [List.getElem?_append_left (List.mem_range.mp hi)]
    have hlast : (if c.isBad then some l.length else none).toList
        = [l.length].filter fun i => decide ((l ++ [c])[i]? = some .bad) := by
      cases c <;> simp [Section.isBad]
    rw [List.zipIdx_append, List.filterMap_append, ih, List.length_append, List.length_singleton, List.range_succ,
      List.filter_append, hbefore, ← hlast]
    cases c <;> simp [Section.isBad]

theorem compactionSources_eq (flash : List Section) :
    compactionSources flash =
      ((List.range flash.length).filter fun i => decide (flash[i]? = some .bad)) ++ (begunSections flash).map (·.2) := by
  rw [compactionSources, badSources_eq]

theorem mem_compactionSources {flash : List Section} {i : Nat} :
    i ∈ compactionSources flash ↔ flash[i]? = some .bad ∨ ∃ n slots, flash[i]? = some (.begun n slots) := by
  rw [compactionSources_eq, List.mem_append, mem_begunNumbers, List.mem_filter, List.mem_range, decide_eq_true_iff]
  refine or_congr (and_iff_right_of_imp fun hbad => ?_) Iff.rfl
  exact (List.getElem?_eq_some_iff.mp hbad).1

theorem begunSections_distinct (flash : List Section) : (begunSections flash).Pairwise fun x y => x.2 ≠ y.2 := by
  rw [begunSections_eq]
  refine ((List.perm_insertionSort _ _).pairwise_iff fun h => h.symm).mpr ?_
  have hzip : flash.zipIdx.Pairwise fun x y => x.2 ≠ y.2 := List.pairwise_map.mp (List.nodup_zipIdx_map_snd flash)
  refine List.pairwise_filterMap.mpr (hzip.imp ?_)
  intro x y hne n hn m hm
  obtain ⟨_, -, rfl⟩ := Option.map_eq_some_iff.mp hn
  obtain ⟨_, -, rfl⟩ := Option.map_eq_some_iff.mp hm
  exact hne

theorem compactionSources_order (flash : List Section) : ∃ begun : List Nat,
    compactionSources flash = ((List.range flash.length).filter fun i => decide (flash[i]? = some .bad)) ++ begun
      ∧ begun.Nodup ∧ (∀ i ∈ begun, flash[i]? ≠ some .bad)
      ∧ begun.Pairwise fun i j => ∀ (n m : Nat) (xs ys : List Slot),
          flash[i]? = some (.begun n xs) → flash[j]? = some (.begun m ys) → n ≤ m := by
  refine ⟨(begunSections flash).map (·.2), compactionSources_eq flash,
    List.pairwise_map.mpr (begunSections_distinct flash), fun i hi hbad => ?_, ?_⟩
  · obtain ⟨n, slots, hat⟩ := mem_begunNumbers.mp hi
    rw [hat] at hbad
    exact nomatch hbad
  · refine List.pairwise_map.mpr ((begunSections_sorted flash).imp_of_mem ?_)
    rintro ⟨n', i⟩ ⟨m', j⟩ hi hj hle n m xs ys hn hm
    obtain ⟨_, hn'⟩ := mem_begunSections.mp hi
    obtain ⟨_, hm'⟩ := mem_begunSections.mp hj
    obtain ⟨rfl, -⟩ : n = n' ∧ _ := by simpa using hn.symm.trans hn'
    obtain ⟨rfl, -⟩ : m = m' ∧ _ := by simpa using hm.symm.trans hm'
    exact hle

/-! ## Live records (R185) -/

theorem liesElsewhere_iff {flash : List Section} {sect : Nat} {r : Rec} :
    liesElsewhere flash sect r = true ↔ ∃ q ∈ allRecords flash, q.1.sect ≠ sect ∧ q.2.kind = r.kind ∧ q.2.key = r.key := by
  simp [liesElsewhere, and_assoc]

theorem isLive_iff {l : Lib} {p : Place × Rec} :
    isLive l p = true ↔
      (p.2.kind = .corr ∧ some p.1 ∈ l.corrIndex)
        ∨ (p.2.kind ≠ .corr ∧ ∃ e, (l.index.find? fun e => e.kind == p.2.kind && e.key == p.2.key) = some e
          ∧ e.place = p.1 ∧ (p.2.body ≠ [] ∨ ∃ q ∈ allRecords l.flash,
              q.1.sect ≠ p.1.sect ∧ q.2.kind = p.2.kind ∧ q.2.key = p.2.key)) := by
  unfold isLive
  by_cases hcorr : p.2.kind = .corr
  · simp [hcorr]
  · rw [if_neg hcorr, ← liesElsewhere_iff]
    cases l.index.find? fun e => e.kind == p.2.kind && e.key == p.2.key with
    | none => simp [hcorr]
    | some e => simp [hcorr]

/-! ## An empty library -/

theorem allRecords_of_erased {flash : List Section} (h : ∀ c ∈ flash, c = Section.erased) : allRecords flash = [] := by
  have hnone : begunSections flash = [] := by
    rw [List.eq_nil_iff_forall_not_mem]
    rintro ⟨n, i⟩ hmem
    obtain ⟨slots, hat⟩ := mem_begunSections.mp hmem
    exact nomatch h _ (List.mem_of_getElem? hat)
  simp [allRecords, hnone]

theorem reindex_of_erased {l : Lib} (h : ∀ c ∈ l.flash, c = Section.erased) :
    (reindex l).index = [] ∧ (reindex l).corrIndex = List.replicate 232 none := by
  unfold reindex
  rw [allRecords_of_erased h]
  exact ⟨rfl, List.map_const' ..⟩

/-! ## The knife's record (log 15) -/

theorem beBytes_four (x : Int) :
    beBytes 4 x = [BitVec.ofNat 8 ((x % 4294967296).toNat / 16777216), BitVec.ofNat 8 ((x % 4294967296).toNat / 65536),
      BitVec.ofNat 8 ((x % 4294967296).toNat / 256), BitVec.ofNat 8 ((x % 4294967296).toNat)] := by
  simp [beBytes, List.range_succ]

theorem beNat_beBytes_four {n : Nat} (h : n < 4294967296) : beNat (beBytes 4 (n : Int)) = n := by
  have hmod : ((n : Int) % 4294967296).toNat = n := by omega
  rw [beBytes_four, hmod]
  simp only [beNat, BitVec.toNat_ofNat, List.length_cons, List.length_nil]
  omega

theorem decodeKnife_encode {r : KnifeRecord} (hlow : -300 ≤ r.k) (hhigh : r.k ≤ 300) (hw : r.w ≤ 20) (hC : r.C ≤ 16777215)
    (hG : r.G ≤ 15) : decodeKnife r.encode = some r := by
  have hread : decodeKnife r.encode = some
      { k := beInt (beBytes 2 r.k), w := beNat (beBytes 2 r.w), C := beNat (beBytes 4 r.C), G := beNat (beBytes 2 r.G) } := by
    simp only [KnifeRecord.encode, beBytes_two, beBytes_four, List.cons_append, List.nil_append, decodeKnife]
  rw [hread, beInt_beBytes_two (by omega) (by omega), beNat_beBytes_two (by omega), beNat_beBytes_four (by omega),
    beNat_beBytes_two (by omega)]

/-! ## LIB_COMPACT and LIB_ERASE -/

/-- Tests 2 to 4 of R181 for the library's own work; a LIB_ERASE is taken in a closed library too. -/
theorem libRequest_work {closedToo : Bool} {f : Blocks → Blocks} {b : Blocks} :
    libRequest true true (!closedToo) true f b =
      if b.inputs.locked then answer .locked .nothing b
      else if b.lib.state = .closed ∧ closedToo = false then answer .libraryClosed .nothing b
      else if b.lib.state = .compacting then answer .busy .nothing b
      else f b := by
  by_cases hlocked : b.inputs.locked = true
  · simp [libRequest, libJudge, hlocked]
  · cases closedToo with
    | false =>
      rw [show (!false) = true from rfl, libRequest_write rfl]
      simp
    | true =>
      by_cases hcompacting : b.lib.state = .compacting <;> simp [libRequest, libJudge, hlocked, hcompacting]

/-! ## The end of an erase -/

section
variable {w : LibWork} {d : Ms} {b : Blocks}

/-- The 40 ms of the erase have passed. -/
theorem sectionEraseDone_of_work (hwork : b.lib.work = some w) (hdeadline : b.lib.deadline = some d) :
    sectionEraseDone b = eraseDone w { b with clock := max b.clock d } := by
  simp only [sectionEraseDone, hwork, hdeadline, Option.isSome_some, if_true, clockAt]

theorem sectionEraseDone_of_none (h : b.lib.work = none ∨ b.lib.deadline = none) : sectionEraseDone b = b := by
  unfold sectionEraseDone
  cases hwork : b.lib.work with
  | none => rfl
  | some w =>
    rcases h with hnone | hnone
    · exact absurd hnone (by simp [hwork])
    · simp [hnone]

theorem sectionEraseDone_of_ok (hwork : b.lib.work = some w) (hdeadline : b.lib.deadline = some d)
    (hok : b.inputs.eraseFails = false) : sectionEraseDone b = sectionErased w { b with clock := max b.clock d } := by
  rw [sectionEraseDone_of_work hwork hdeadline, eraseDone, hok, if_neg Bool.false_ne_true]

theorem sectionEraseDone_of_fails (hwork : b.lib.work = some w) (hdeadline : b.lib.deadline = some d)
    (hfails : b.inputs.eraseFails = true) :
    sectionEraseDone b = libReady (eraseFailed w { b with clock := max b.clock d }) := by
  rw [sectionEraseDone_of_work hwork hdeadline, eraseDone, if_pos hfails]

end

theorem libReady_of_not_waiting {b : Blocks} (h : b.msu.phase ≠ .waitLibrary) : libReady b = b := by
  rw [libReady, if_neg h]

theorem lib_libReady (b : Blocks) : (libReady b).lib = b.lib := by
  unfold libReady
  split_ifs <;> rfl

theorem lnk_libReady (b : Blocks) : (libReady b).lnk = b.lnk := by
  unfold libReady
  split_ifs <;> rfl

/-- LIB is CLOSED with the failure named, its staging discarded and notice LIBRARY raised. -/
theorem libClose_closed (why : LibFailure) (b : Blocks) :
    (libClose why b).lib.state = .closed ∧ (libClose why b).lib.failure = some why ∧ (libClose why b).lib.staging = none
      ∧ (libClose why b).lnk.flags.library = true := by
  rw [libClose_eq]
  dsimp only
  split_ifs <;> exact ⟨rfl, rfl, rfl, rfl⟩

theorem eraseFailed_closed (w : LibWork) (b : Blocks) :
    (eraseFailed w b).lib.state = .closed ∧ (eraseFailed w b).lib.failure = some .erase
      ∧ (eraseFailed w b).lib.staging = none ∧ (eraseFailed w b).lnk.flags.library = true :=
  libClose_closed .erase _

/-- The last section of a LIB_ERASE. -/
theorem sectionErased_last (b : Blocks) :
    sectionErased (.eraseAll 95) b =
      endEraseAll { b with lib := { reindex { b.lib with flash := b.lib.flash.set 95 .erased } with deadline := none } } := by
  unfold sectionErased
  exact if_pos rfl

theorem sectionErased_next {i : Nat} (hi : i + 1 < 96) (b : Blocks) :
    sectionErased (.eraseAll i) b = { b with lib := { reindex { b.lib with flash := b.lib.flash.set i .erased } with
      work := some (.eraseAll (i + 1)), deadline := some (b.clock + 40) } } := by
  unfold sectionErased
  exact if_neg (show ¬ i + 1 = 96 by omega)

/-- LIB open and empty, the staging's 10 s begun again, and the next sequence number 1. -/
def eraseAllOpened (b : Blocks) : Blocks :=
  { b with lib := { b.lib with
    state := .opened, work := none, nextSeq := 1, damaged := 0, failure := none, deadline := none,
    staging := b.lib.staging.map fun g => { g with since := b.clock } } }

/-- The end of a LIB_ERASE before CKU stores: GAX's table is all INVALID. -/
def eraseAllTold (b : Blocks) : Blocks :=
  { gaxTable allInvalid (eraseAllOpened b) with cku := { b.cku with storeDeferred := false } }

theorem cku_gaxTable (table : List (Option Int)) (b : Blocks) : (gaxTable table b).cku = b.cku := by
  rw [gaxTable_eq]
  split_ifs <;> rfl

theorem table_gaxTable (table : List (Option Int)) (b : Blocks) : (gaxTable table b).gax.table = table := by
  rw [gaxTable_eq]
  split_ifs with hsame
  · exact hsame
  · rfl

theorem endEraseAll_eq (b : Blocks) : endEraseAll b = libEvent .eraseEnded (ckuStore (eraseAllTold b)) := by
  have htold : setCku (fun c => { c with storeDeferred := false }) (gaxTable allInvalid (eraseAllOpened b))
      = eraseAllTold b := by
    simp only [setCku, eraseAllTold, cku_gaxTable]
    rfl
  rw [← htold]
  rfl

theorem eraseAllTold_eq (b : Blocks) :
    eraseAllTold b =
      let fresh : Blocks := { eraseAllOpened b with gax := { b.gax with table := allInvalid } }
      let told : Blocks := if b.gax.table = allInvalid then fresh else raise .gauge fresh
      { told with cku := { b.cku with storeDeferred := false } } := by
  unfold eraseAllTold
  rw [gaxTable_eq]
  dsimp only
  by_cases hsame : b.gax.table = allInvalid
  · have hsame' : (eraseAllOpened b).gax.table = allInvalid := hsame
    rw [if_pos hsame', if_pos hsame, ← hsame]
    rfl
  · have hsame' : ¬ (eraseAllOpened b).gax.table = allInvalid := hsame
    rw [if_neg hsame', if_neg hsame]
    rfl

/-- At the end of a LIB_ERASE GAX's table is all INVALID and CKU's store is made. -/
theorem endEraseAll_done (b : Blocks) :
    (endEraseAll b).gax.table = allInvalid ∧ (endEraseAll b).lnk.flags.library = true
      ∧ (endEraseAll b).cku.storeDeferred = false := by
  have hstore : LibraryOnly (eraseAllTold b) (ckuStore (eraseAllTold b)) := by
    refine libraryOnly_ckuStore ?_
    rw [show (eraseAllTold b).lib = (gaxTable allInvalid (eraseAllOpened b)).lib from rfl, lib_gaxTable]
    exact nofun
  have hgax : (ckuStore (eraseAllTold b)).gax = (eraseAllTold b).gax :=
    (congrArg Blocks.gax hstore.same : (besides (ckuStore (eraseAllTold b))).gax = (besides (eraseAllTold b)).gax)
  rw [endEraseAll_eq]
  refine ⟨?_, rfl, hstore.undeferred rfl⟩
  rw [show (libEvent .eraseEnded (ckuStore (eraseAllTold b))).gax = (ckuStore (eraseAllTold b)).gax from rfl, hgax]
  exact table_gaxTable _ _

/-! ## The copying -/

section
variable {r : Rec} {i : Nat} {b : Blocks}

theorem copied_of_ok (h : b.inputs.programFails = false) :
    copied i (programRecord i r b)
      = ({ b with lib := reindex { b.lib with flash := appendSlot b.lib.flash i (.valid r) } }, some i) := by
  rw [programRecord_of_ok h]
  rfl

theorem copied_of_fails (h : b.inputs.programFails = true) :
    ∃ left, LeavesOf b.lib.flash i r left
      ∧ copied i (programRecord i r b) = (libClose .program (leftWith left b), none) := by
  obtain ⟨left, hleaves, hfailed⟩ := programRecord_of_fails (i := i) (r := r) h
  exact ⟨left, hleaves, by rw [hfailed]; rfl⟩

end

theorem takeSource_eq (src : Nat) (rest : List Nat) (dest : Option Nat) (already total : Nat) (b : Blocks) :
    takeSource src rest dest already total b =
      let copied := copyLive (sectionRecords src 0 (slotsAt b.lib.flash src)) dest b
      if copied.1.lib.state = .closed then libReady copied.1
      else { copied.1 with lib := { copied.1.lib with
        work := some (.compact src rest copied.2 already total), deadline := some (copied.1.clock + 40) } } := (rfl)

/-! ## Figures as bytes, high byte first (R192) -/

/-- The low bytes of a natural number, high byte first. -/
def natBytes (len n : Nat) : List Byte := (List.range len).map fun i => BitVec.ofNat 8 (n / 256 ^ (len - 1 - i))

theorem beBytes_eq_natBytes (len : Nat) (x : Int) : beBytes len x = natBytes len (x % 256 ^ len).toNat := rfl

theorem natBytes_succ (len n : Nat) : natBytes (len + 1) n = BitVec.ofNat 8 (n / 256 ^ len) :: natBytes len n := by
  unfold natBytes
  rw [List.range_succ_eq_map, List.map_cons, List.map_map]
  refine congrArg₂ List.cons (by simp) (List.map_congr_left fun i _ => ?_)
  simp only [Function.comp_apply]
  rw [show len + 1 - 1 - (i + 1) = len - 1 - i by omega]

theorem length_natBytes (len n : Nat) : (natBytes len n).length = len := by simp [natBytes]

theorem beNat_natBytes (len n : Nat) : beNat (natBytes len n) = n % 256 ^ len := by
  induction len with
  | zero => simp [natBytes, beNat, Nat.mod_one]
  | succ len ih =>
    rw [natBytes_succ, beNat, length_natBytes, ih, BitVec.toNat_ofNat, Nat.mod_pow_succ (b := 256)]
    ring

theorem length_beBytes (len : Nat) (x : Int) : (beBytes len x).length = len := length_natBytes len _

theorem beNat_beBytes {len : Nat} {x : Int} (hlow : 0 ≤ x) (hhigh : x < 256 ^ len) : (beNat (beBytes len x) : Int) = x := by
  rw [beBytes_eq_natBytes, Int.emod_eq_of_lt hlow hhigh, beNat_natBytes, Nat.mod_eq_of_lt]
  · exact Int.toNat_of_nonneg hlow
  · zify
    rwa [Int.toNat_of_nonneg hlow]

theorem beInt_beBytes {len : Nat} {x : Int} (hlen : 0 < len) (hlow : -(2 ^ (8 * len - 1)) ≤ x) (hhigh : x < 2 ^ (8 * len - 1)) :
    beInt (beBytes len x) = x := by
  have hpow : (256 : Int) ^ len = 2 * 2 ^ (8 * len - 1) := by
    rw [← pow_succ', show 8 * len - 1 + 1 = 8 * len by omega, pow_mul]
    norm_num
  have hpow' : (2 : Int) ^ (8 * len) = 256 ^ len := by
    rw [pow_mul]
    norm_num
  have hnat : (beNat (beBytes len x) : Int) = x % 256 ^ len := by
    have hmod : beBytes len x = beBytes len (x % 256 ^ len) := by
      rw [beBytes_eq_natBytes, beBytes_eq_natBytes, Int.emod_emod_of_dvd _ (dvd_refl _)]
    rw [hmod]
    exact beNat_beBytes (Int.emod_nonneg _ (by positivity)) (Int.emod_lt_of_pos _ (by positivity))
  have hhalf : (beNat (beBytes len x) < 2 ^ (8 * len - 1)) ↔ x % 256 ^ len < 2 ^ (8 * len - 1) := by
    rw [← hnat]
    exact_mod_cast Iff.rfl
  unfold beInt
  dsimp only
  rw [length_beBytes]
  simp only [hhalf, hnat, hpow']
  have hpos : (0 : Int) < 2 ^ (8 * len - 1) := by positivity
  rcases le_or_gt 0 x with hsign | hsign
  · rw [Int.emod_eq_of_lt hsign (by omega), if_pos hhigh]
  · have hwrap : x % 256 ^ len = x + 256 ^ len := by
      rw [← Int.add_emod_right, Int.emod_eq_of_lt (by omega) (by omega)]
    rw [hwrap, if_neg (by omega)]
    omega

/-- The two check bytes of a frame (R195). -/
theorem beBytes_crc (c : BitVec 16) : beBytes 2 c.toNat = [(c >>> 8).setWidth 8, c.setWidth 8] := by
  have hbound := c.isLt
  have hmod : ((c.toNat : Int) % 65536).toNat = c.toNat := by omega
  rw [beBytes_two, hmod]
  refine congrArg₂ List.cons (BitVec.eq_of_toNat_eq ?_) (congrArg₂ List.cons (BitVec.eq_of_toNat_eq ?_) rfl)
  · simp [Nat.shiftRight_eq_div_pow]
  · simp

theorem frameBytes_eq (kind : Nat) (tag : Byte) (body : List Byte) :
    frameBytes kind tag body =
      let covered : List Byte := BitVec.ofNat 8 body.length :: BitVec.ofNat 8 kind :: tag :: body
      0x7E :: covered ++ [((crc16 covered) >>> 8).setWidth 8, (crc16 covered).setWidth 8] := by
  unfold frameBytes
  dsimp only
  rw [beBytes_crc]

/-! ## The points without a value (R106) -/

theorem length_filter_none (l : List (Option Int)) :
    (l.filter (· == none)).length = ((List.range l.length).filter fun i => decide (l[i]? = some none)).length := by
  induction l using List.reverseRecOn with
  | nil => rfl
  | append_singleton l c ih =>
    have hbefore : (List.range l.length).filter (fun i => decide ((l ++ [c])[i]? = some none))
        = (List.range l.length).filter fun i => decide (l[i]? = some none) :=
      List.filter_congr fun i hi => by rw [List.getElem?_append_left (List.mem_range.mp hi)]
    rw [List.filter_append, List.length_append, ih, List.length_append, List.length_singleton, List.range_succ,
      List.filter_append, List.length_append, hbefore]
    cases c <;> simp

theorem filter_range_points :
    (List.range 232).filter (fun j => decide (4 ≤ j ∧ j ≤ 230)) = (List.range 227).map (4 + ·) := by
  have hinside : (List.range 227).filter ((fun j => decide (4 ≤ j ∧ j ≤ 230)) ∘ (4 + ·)) = List.range 227 :=
    List.filter_eq_self.mpr fun i hi => by
      have hlast := List.mem_range.mp hi
      simp only [Function.comp_apply, decide_eq_true_eq]
      omega
  rw [show (232 : Nat) = 4 + (227 + 1) from rfl, List.range_add, List.range_succ (n := 227), List.map_append,
    List.filter_append, List.filter_append, List.filter_map, hinside]
  have hbelow : ∀ a < 4, 4 ≤ a → 230 < a := by omega
  simpa using hbelow

theorem invalidPoints_eq {table : List (Option Int)} (h : table.length = 232) :
    invalidPoints table = ((List.range 232).filter fun j => decide (4 ≤ j ∧ j ≤ 230 ∧ table[j]? = some none)).length := by
  have hlength : ((table.drop 4).take 227).length = 227 := by simp [h]
  have hat : ∀ i ∈ List.range 227, decide (((table.drop 4).take 227)[i]? = some none) = decide (table[4 + i]? = some none) :=
    fun i hi => by rw [List.getElem?_take_of_lt (List.mem_range.mp hi), List.getElem?_drop]
  have hsplit : (fun j => decide (4 ≤ j ∧ j ≤ 230 ∧ table[j]? = some none))
      = fun j => decide (table[j]? = some none) && decide (4 ≤ j ∧ j ≤ 230) := by
    funext j
    exact Bool.eq_iff_iff.mpr (by simp only [Bool.and_eq_true, decide_eq_true_eq]; tauto)
  unfold invalidPoints
  rw [length_filter_none, hlength, List.filter_congr hat, hsplit, ← List.filter_filter, filter_range_points, List.filter_map,
    List.length_map]
  rfl

/-! ## The transmitter's choice (R191) -/

theorem find?_cons_ite {α : Type} (p : α → Bool) (x : α) (l : List α) :
    (x :: l).find? p = if p x then some x else l.find? p := by
  cases h : p x <;> simp [h]

/-- The pending kind of lowest number. -/
theorem nextNotice_eq (f : Flags) :
    nextNotice f =
      if f.cell then some .cell else if f.sequence then some .sequence else if f.hold then some .hold
      else if f.front then some .front else if f.feed then some .feed else if f.gauge then some .gauge
      else if f.knife then some .knife else if f.library then some .library else none := by
  simp only [nextNotice, noticeKinds, find?_cons_ite, List.find?_nil, Flags.get] <;> rfl

/-! ## The transmitter -/

theorem frameSentDone_eq (b : Blocks) :
    frameSentDone b = match b.lnk.tx with
      | none => b
      | some (.queueFull _) => { b with lnk := { b.lnk with
          tx := none, counters := { b.lnk.counters with replies := min 65535 (b.lnk.counters.replies + 1) } } }
      | some (.notice _ _) => { b with lnk := { b.lnk with
          tx := none, counters := { b.lnk.counters with notices := min 65535 (b.lnk.counters.notices + 1) } } }
      | some (.reply _ _ _) =>
        if b.lnk.restartReply then { b with lnk := Lnk.atReset }
        else { b with lnk := { b.lnk with
          tx := none, queue := b.lnk.queue.tail,
          counters := { b.lnk.counters with replies := min 65535 (b.lnk.counters.replies + 1) } } } := by
  unfold frameSentDone
  cases b.lnk.tx with
  | none => rfl
  | some frame => cases frame <;> rfl

/-- A reply to the request at the head goes before a notice. -/
theorem transmitNext_eq (b : Blocks) :
    transmitNext b =
      if b.lnk.tx ≠ none then b
      else
        match b.lnk.refusals, b.lnk.queue with
        | r :: rest, _ => { b with lnk := { b.lnk with refusals := rest, tx := some (.queueFull r) } }
        | [], ⟨tag, body, some a⟩ :: _ => { b with lnk := { b.lnk with tx := some (.reply tag (body.headD 0) a) } }
        | [], _ =>
          match nextNotice b.lnk.flags with
          | none => b
          | some k => { b with lnk := { b.lnk with
              flags := b.lnk.flags.set k false, tx := some (.notice b.lnk.noticeNumber (noticeSnapshot k b)),
              noticeNumber := (b.lnk.noticeNumber + 1) % 256 } } := by
  unfold transmitNext
  cases b.lnk.tx with
  | some frame => rfl
  | none =>
    rw [if_neg (not_not_intro rfl)]
    cases b.lnk.refusals with
    | cons r rest => rfl
    | nil =>
      cases b.lnk.queue with
      | nil => cases nextNotice b.lnk.flags <;> rfl
      | cons r rest =>
        obtain ⟨tag, body, reply⟩ := r
        cases reply with
        | some a => rfl
        | none => cases nextNotice b.lnk.flags <;> rfl

theorem noticeSnapshot_gauge (b : Blocks) :
    noticeSnapshot .gauge b = .gauge b.gax.state b.gax.fault b.gax.referenced b.gax.inPosition b.gax.drive (gaxPosition b)
      (match b.gax.move with | some m => m.uncorrected | none => false)
      (match b.gax.move with | some m => m.clamped | none => false)
      (match b.gax.move with | some m => some m.kind | none => none)
      (match b.gax.move with | some m => m.completed | none => none) (invalidPoints b.gax.table) := by
  unfold noticeSnapshot
  cases b.gax.move <;> rfl

theorem noticeSnapshot_library (b : Blocks) :
    noticeSnapshot .library b = .library b.lib.state
      (b.lib.flash.filter fun c => decide (c = Section.erased)).length
      (b.lib.flash.filter fun c => decide (c ≠ Section.erased)).length b.lib.damaged b.lib.staging.isSome b.lib.lastEvent := by
  unfold noticeSnapshot
  rw [erasedCount_eq, inUseCount_eq]

theorem corrValues_bytes (values : List (Option Int)) :
    (Result.corrValues values).bytes
      = (values.map fun v => match v with | none => [0x80, 0x00] | some x => beBytes 2 x).flatten := by
  rw [Result.bytes, List.map_congr_left fun v _ => corrValueBytes_eq v] <;> rfl

/-! ## The place of the first late byte (R188) -/

/-- The place of the first byte more than 5 ms after the one before. -/
def firstLate (bytes : List RxByte) : Nat := bytes.findIdx fun x => decide (Config.byteGapUs < x.gapUs)

section
variable {bytes more : List RxByte} {x : RxByte}

theorem firstLate_append (h : ∀ y ∈ bytes, y.gapUs ≤ 5000) : firstLate (bytes ++ more) = firstLate more + bytes.length := by
  have hnone : bytes.findIdx (fun x => decide (Config.byteGapUs < x.gapUs)) = bytes.length :=
    List.findIdx_eq_length.mpr fun y hy => decide_eq_false (not_lt.mpr (h y hy))
  unfold firstLate
  rw [List.findIdx_append, hnone, if_neg (lt_irrefl _)]

theorem firstLate_cons_of_late (h : 5000 < x.gapUs) : firstLate (x :: more) = 0 := by
  have hlate : decide (Config.byteGapUs < x.gapUs) = true := decide_eq_true h
  simp only [firstLate, List.findIdx_cons, hlate, cond_true]

theorem firstLate_of_none (h : ∀ y ∈ bytes, y.gapUs ≤ 5000) : firstLate bytes = bytes.length := by
  have happend := firstLate_append (more := []) h
  rwa [List.append_nil, show firstLate [] = 0 from rfl, Nat.zero_add] at happend

end

/-! ## A frame gathered (R188) -/

section
variable {first : RxByte} {rest : List RxByte}

theorem gatherFrame_cons :
    gatherFrame (first :: rest) =
      if firstLate (first :: rest) = 0 then .gap 0
      else if 240 < first.byte.toNat then .length
      else if firstLate (first :: rest) < min (first.byte.toNat + 5) (first :: rest).length then
        .gap (firstLate (first :: rest))
      else if (first :: rest).length < first.byte.toNat + 5 then .more
      else judgeFrame (((first :: rest).take (first.byte.toNat + 5)).map (·.byte)) := (rfl)

theorem gatherFrame_of_late (h : 5000 < first.gapUs) : gatherFrame (first :: rest) = .gap 0 := by
  rw [gatherFrame_cons, if_pos (firstLate_cons_of_late h)]

theorem firstLate_cons_ne_zero (h : first.gapUs ≤ 5000) : firstLate (first :: rest) ≠ 0 := by
  have hcons := firstLate_append (bytes := [first]) (more := rest) (by simpa using h)
  rw [List.singleton_append] at hcons
  simp [hcons]

theorem gatherFrame_of_long (h : first.gapUs ≤ 5000) (hlong : 240 < first.byte.toNat) :
    gatherFrame (first :: rest) = .length := by
  rw [gatherFrame_cons, if_neg (firstLate_cons_ne_zero h), if_pos hlong]

/-- A byte of the frame is late. -/
theorem gatherFrame_of_gap {middle : List RxByte} {late : RxByte} (h : first.gapUs ≤ 5000) (hlength : first.byte.toNat ≤ 240)
    (hmiddle : ∀ y ∈ middle, y.gapUs ≤ 5000) (hinside : middle.length < first.byte.toNat + 4) (hlate : 5000 < late.gapUs) :
    gatherFrame (first :: (middle ++ late :: rest)) = .gap (middle.length + 1) := by
  have hplace : firstLate (first :: (middle ++ late :: rest)) = middle.length + 1 := by
    have happend := firstLate_append (bytes := first :: middle) (more := late :: rest) (by simpa using ⟨h, hmiddle⟩)
    rwa [firstLate_cons_of_late hlate, List.length_cons, Nat.zero_add, List.cons_append] at happend
  have hbefore : middle.length + 1 < min (first.byte.toNat + 5) (first :: (middle ++ late :: rest)).length := by
    simp only [List.length_cons, List.length_append]
    omega
  rw [gatherFrame_cons, hplace, if_neg (Nat.succ_ne_zero _), if_neg (not_lt.mpr hlength), if_pos hbefore]

theorem gatherFrame_of_short (h : ∀ y ∈ first :: rest, y.gapUs ≤ 5000) (hlength : first.byte.toNat ≤ 240)
    (hshort : rest.length < first.byte.toNat + 4) : gatherFrame (first :: rest) = .more := by
  have hplace := firstLate_of_none h
  have hlast : ¬ (first :: rest).length < min (first.byte.toNat + 5) (first :: rest).length := by omega
  have hfew : (first :: rest).length < first.byte.toNat + 5 := by
    rw [List.length_cons]
    omega
  rw [gatherFrame_cons, hplace, if_neg (List.length_pos_of_ne_nil (List.cons_ne_nil _ _)).ne', if_neg (not_lt.mpr hlength),
    if_neg hlast, if_pos hfew]

end

section
variable {length kind tag hi lo : Byte} {body : List Byte} {rest more : List RxByte}

/-- The bytes of a whole frame after its start byte. -/
structure Whole (length kind tag : Byte) (body : List Byte) (hi lo : Byte) (rest : List RxByte) : Prop where
  counted : length.toNat = body.length
  short : body.length ≤ 240
  bytes : rest.map (·.byte) = length :: kind :: tag :: body ++ [hi, lo]
  prompt : ∀ y ∈ rest, y.gapUs ≤ 5000

theorem Whole.length_eq (h : Whole length kind tag body hi lo rest) : rest.length = body.length + 5 := by
  have hcount := congrArg List.length h.bytes
  simpa using hcount

theorem gatherFrame_of_whole (h : Whole length kind tag body hi lo rest) :
    gatherFrame (rest ++ more) = judgeFrame (length :: kind :: tag :: body ++ [hi, lo]) := by
  have hlength := h.length_eq
  cases rest with
  | nil => simp at hlength
  | cons first others =>
    have hfirst : first.byte = length := by
      have hbytes := h.bytes
      rw [List.map_cons, List.cons_append] at hbytes
      exact (List.cons.inj hbytes).1
    have hcount : first.byte.toNat + 5 = (first :: others).length := by
      rw [hfirst, h.counted, hlength]
    have hplace : first.byte.toNat + 5 ≤ firstLate (first :: others ++ more) := by
      rw [firstLate_append h.prompt, hcount]
      omega
    have htake : ((first :: others ++ more).take (first.byte.toNat + 5)).map (·.byte)
        = length :: kind :: tag :: body ++ [hi, lo] := by
      rw [hcount, List.take_left, h.bytes]
    have hshort : first.byte.toNat ≤ 240 := by
      rw [hfirst, h.counted]
      exact h.short
    rw [List.cons_append] at hplace htake ⊢
    rw [gatherFrame_cons, if_neg (by omega), if_neg (not_lt.mpr hshort), if_neg (by omega), htake]
    refine if_neg ?_
    rw [hcount, List.length_cons, List.length_cons, List.length_append]
    omega

/-- A whole frame by its check and its kind. -/
theorem judgeFrame_eq :
    judgeFrame (length :: kind :: tag :: body ++ [hi, lo]) =
      if (crc16 (length :: kind :: tag :: body)).toNat ≠ hi.toNat * 256 + lo.toNat then .check
      else if kind = 1 then .request (body.length + 5) tag body else .otherKind (body.length + 5) := by
  have hlength : (length :: kind :: tag :: body ++ [hi, lo]).length - 2 = (length :: kind :: tag :: body).length := by simp
  have htotal : (length :: kind :: tag :: body ++ [hi, lo]).length = body.length + 5 := by simp
  have hcheck : beNat [hi, lo] = hi.toNat * 256 + lo.toNat := by simp [beNat]
  unfold judgeFrame
  dsimp only
  rw [hlength, List.take_left, List.drop_left, hcheck, htotal]

end

/-! ## The receiver -/

/-- The bytes of a judged frame are passed over. -/
theorem receive_skip (bytes more : List RxByte) (l : Lnk) : receive bytes.length (bytes ++ more) l = receive 0 more l := by
  induction bytes with
  | nil => rfl
  | cons x rest ih =>
    rw [List.length_cons, List.cons_append, receive]
    exact ih

section
variable {x : RxByte} {rest : List RxByte} {l : Lnk}

theorem receive_of_other (h : x.byte ≠ 0x7E) : receive 0 (x :: rest) l = receive 0 rest l := by
  rw [receive, if_pos h]

theorem receive_of_start (h : x.byte = 0x7E) :
    receive 0 (x :: rest) l =
      match gatherFrame rest with
      | .more => { l with gathered := x :: rest }
      | .length => receive 0 rest (dropFrame .length l)
      | .check => receive 0 rest (dropFrame .check l)
      | .gap n => receive n rest (dropFrame .gap l)
      | .otherKind n => receive n rest (dropFrame .kind l)
      | .request n tag body => receive n rest (requestArrives tag body l) := by
  rw [receive, if_neg (not_not_intro h)] <;> rfl

end

theorem receive_nil (k : Nat) (l : Lnk) : receive k [] l = { l with gathered := [] } := by
  cases k <;> rfl

theorem requestArrives_eq (tag : Byte) (body : List Byte) (l : Lnk) :
    requestArrives tag body l =
      if l.queue.length < 4 then
        { l with queue := l.queue ++ [⟨tag, body, none⟩],
                 counters := { l.counters with requests := min 65535 (l.counters.requests + 1) } }
      else if l.refusals.length < 4 then
        { l with refusals := l.refusals ++ [⟨tag, body.headD 0⟩],
                 counters := { l.counters with requests := min 65535 (l.counters.requests + 1) } }
      else dropFrame .overrun l := (rfl)

theorem dropFrame_eq (cause : DropCause) (l : Lnk) :
    dropFrame cause l = { l with counters :=
      let one (n : Nat) : Nat := min 65535 (n + 1)
      let c := { l.counters with dropped := one l.counters.dropped }
      match cause with
      | .length => { c with length := one c.length }
      | .gap => { c with gap := one c.gap }
      | .check => { c with check := one c.check }
      | .kind => { c with kind := one c.kind }
      | .overrun => { c with overrun := one c.overrun } } := by
  cases cause <;> rfl

section
variable {length kind tag hi lo : Byte} {body : List Byte} {x : RxByte} {rest : List RxByte} {l : Lnk}

theorem receive_of_request (h : Whole length 1 tag body hi lo rest) (hstart : x.byte = 0x7E)
    (hcheck : (crc16 (length :: 1 :: tag :: body)).toNat = hi.toNat * 256 + lo.toNat) (more : List RxByte) :
    receive 0 (x :: (rest ++ more)) l = receive 0 more (requestArrives tag body l) := by
  rw [receive_of_start hstart, gatherFrame_of_whole h, judgeFrame_eq, if_neg (not_not_intro hcheck), if_pos rfl, ← h.length_eq]
  exact receive_skip rest more _

theorem receive_of_otherKind (h : Whole length kind tag body hi lo rest) (hstart : x.byte = 0x7E) (hkind : kind ≠ 1)
    (hcheck : (crc16 (length :: kind :: tag :: body)).toNat = hi.toNat * 256 + lo.toNat) (more : List RxByte) :
    receive 0 (x :: (rest ++ more)) l = receive 0 more (dropFrame .kind l) := by
  rw [receive_of_start hstart, gatherFrame_of_whole h, judgeFrame_eq, if_neg (not_not_intro hcheck), if_neg hkind,
    ← h.length_eq]
  exact receive_skip rest more _

theorem receive_of_bad_check (h : Whole length kind tag body hi lo rest) (hstart : x.byte = 0x7E)
    (hcheck : (crc16 (length :: kind :: tag :: body)).toNat ≠ hi.toNat * 256 + lo.toNat) (more : List RxByte) :
    receive 0 (x :: (rest ++ more)) l = receive 0 (rest ++ more) (dropFrame .check l) := by
  rw [receive_of_start hstart, gatherFrame_of_whole h, judgeFrame_eq, if_pos hcheck]

end

/-- A frame of its own, with nothing gathered before it. -/
theorem receive_one_request {length tag hi lo : Byte} {body : List Byte} {bytes : List RxByte} {l : Lnk}
    (hgathered : l.gathered = []) (hcounted : length.toNat = body.length) (hshort : body.length ≤ 240)
    (hbytes : bytes.map (·.byte) = 0x7E :: length :: 1 :: tag :: body ++ [hi, lo]) (hprompt : ∀ y ∈ bytes.tail, y.gapUs ≤ 5000)
    (hcheck : (crc16 (length :: 1 :: tag :: body)).toNat = hi.toNat * 256 + lo.toNat) :
    receive 0 (l.gathered ++ bytes) l = requestArrives tag body l := by
  cases bytes with
  | nil => exact nomatch hbytes
  | cons x rest =>
    obtain ⟨hstart, hrest⟩ := List.cons.inj hbytes
    have hwhole : Whole length 1 tag body hi lo rest := ⟨hcounted, hshort, hrest, hprompt⟩
    have hreceive := receive_of_request (l := l) hwhole hstart hcheck []
    have hkept : (requestArrives tag body l).gathered = [] := by
      rw [requestArrives_eq]
      split_ifs <;> exact hgathered
    rw [hgathered, List.nil_append]
    rw [List.append_nil, receive_nil, ← hkept] at hreceive
    exact hreceive

/-- The two check bytes read as the check. -/
theorem crc_split (c : BitVec 16) : c.toNat = ((c >>> 8).setWidth 8).toNat * 256 + (c.setWidth 8).toNat := by
  have hbound := c.isLt
  simp only [BitVec.toNat_setWidth, BitVec.toNat_ushiftRight, Nat.shiftRight_eq_div_pow]
  omega

/-! ## The codes and the lengths of their arguments (R192) -/

/-- The codes with arguments of a fixed length above one byte. -/
def fixedLengths : List (Nat × Nat) :=
  [(10, 8), (31, 4), (40, 2), (42, 6), (64, 3), (70, 5), (72, 2), (73, 5), (74, 3), (75, 18), (76, 2), (78, 4)]

theorem length_of_decodeStock {figures : List Byte} (h : decodeStock figures ≠ none) : figures.length = 16 := by
  unfold decodeStock at h
  split at h
  · rfl
  · exact absurd rfl h

/-- Arguments of more bytes spell a request only in the length of its code. -/
theorem longRequest_ne_none {code : Nat} {args : List Byte} (h : longRequest code args ≠ none) :
    (code, args.length) ∈ fixedLengths ∨ (code = 71 ∧ 3 ≤ args.length) ∨ (code = 77 ∧ 4 ≤ args.length) := by
  unfold longRequest at h
  split at h
  case h_7 => exact .inr (.inl ⟨rfl, by simp⟩)
  case h_11 n n' figures =>
    have hfigures : figures.length = 16 := length_of_decodeStock fun hnone => h (by rw [hnone]; rfl)
    exact .inl (by simp [fixedLengths, hfigures])
  case h_13 => exact .inr (.inr ⟨rfl, by simp⟩)
  case h_15 => exact absurd rfl h
  all_goals exact .inl (by simp [fixedLengths])

theorem byteRequest_ne_none {n code : Nat} (h : byteRequest n code ≠ none) : code ∈ [1, 4, 21, 24, 50] := by
  unfold byteRequest at h
  split at h
  case h_6 => exact absurd rfl h
  all_goals decide

/-- A body spells a request only in the length of its code (R190). -/
theorem readRequest_ne_none {code : Nat} {args : List Byte} (h : readRequest code args ≠ none) :
    (args = [] ∧ plainRequest code ≠ none) ∨ (args.length = 1 ∧ code ∈ [1, 4, 21, 24, 50])
      ∨ (code, args.length) ∈ fixedLengths ∨ (code = 71 ∧ 3 ≤ args.length) ∨ (code = 77 ∧ 4 ≤ args.length) := by
  match args with
  | [] => exact .inl ⟨rfl, h⟩
  | [x] => exact .inr (.inl ⟨rfl, byteRequest_ne_none h⟩)
  | x :: y :: rest => exact .inr (.inr (longRequest_ne_none h))

/-- The codes of the requests without arguments take none. -/
theorem readRequest_of_plain {code : Nat} {x : Byte} {rest : List Byte} (h : plainRequest code ≠ none) :
    readRequest code (x :: rest) = none := by
  by_contra hsome
  have hcode : code ∉ [1, 4, 21, 24, 50] ++ fixedLengths.map Prod.fst ++ [71, 77] := by
    intro hmem
    have hnone : ∀ c ∈ [1, 4, 21, 24, 50] ++ fixedLengths.map Prod.fst ++ [71, 77], plainRequest c = none := by decide
    exact h (hnone code hmem)
  simp only [List.mem_append, not_or] at hcode
  obtain ⟨⟨hbyte, hfixed⟩, hopen⟩ := hcode
  rcases readRequest_ne_none hsome with ⟨hnil, -⟩ | ⟨-, hmem⟩ | hmem | ⟨rfl, -⟩ | ⟨rfl, -⟩
  · exact List.cons_ne_nil _ _ hnil
  · exact hbyte hmem
  · exact hfixed (List.mem_map_of_mem hmem)
  · exact hopen (by decide)
  · exact hopen (by decide)

theorem readRequest_of_byte {code : Nat} {args : List Byte} (hcode : code ∈ [1, 4, 21, 24, 50]) (hlength : args.length ≠ 1) :
    readRequest code args = none := by
  by_contra hsome
  have hothers : ∀ c ∈ [1, 4, 21, 24, 50], plainRequest c = none ∧ c ∉ fixedLengths.map Prod.fst ∧ c ≠ 71 ∧ c ≠ 77 := by decide
  obtain ⟨hplain, hfixed, hpart, hwrite⟩ := hothers code hcode
  rcases readRequest_ne_none hsome with ⟨-, hne⟩ | ⟨hone, -⟩ | hmem | ⟨h71, -⟩ | ⟨h77, -⟩
  · exact hne hplain
  · exact hlength hone
  · exact hfixed (List.mem_map_of_mem hmem)
  · exact hpart h71
  · exact hwrite h77

theorem readRequest_of_fixed {code n : Nat} {args : List Byte} (hcode : (code, n) ∈ fixedLengths) (hlength : args.length ≠ n) :
    readRequest code args = none := by
  by_contra hsome
  have hothers : ∀ p ∈ fixedLengths, plainRequest p.1 = none ∧ p.1 ∉ [1, 4, 21, 24, 50] ∧ p.1 ≠ 71 ∧ p.1 ≠ 77
      ∧ ∀ q ∈ fixedLengths, q.1 = p.1 → q.2 = p.2 := by decide
  obtain ⟨hplain, hbyte, hpart, hwrite, hunique⟩ := hothers _ hcode
  rcases readRequest_ne_none hsome with ⟨-, hne⟩ | ⟨-, hmem⟩ | hmem | ⟨h71, -⟩ | ⟨h77, -⟩
  · exact hne hplain
  · exact hbyte hmem
  · exact hlength (hunique _ hmem rfl)
  · exact hpart h71
  · exact hwrite h77

theorem readRequest_of_short {code : Nat} {args : List Byte}
    (h : (code = 71 ∧ args.length < 2) ∨ (code = 77 ∧ args.length < 4)) : readRequest code args = none := by
  by_contra hsome
  have hothers : ∀ c ∈ [71, 77], plainRequest c = none ∧ c ∉ [1, 4, 21, 24, 50] ∧ c ∉ fixedLengths.map Prod.fst := by decide
  have hcode : code ∈ [71, 77] := by
    rcases h with ⟨rfl, -⟩ | ⟨rfl, -⟩ <;> decide
  obtain ⟨hplain, hbyte, hfixed⟩ := hothers code hcode
  rcases readRequest_ne_none hsome with ⟨-, hne⟩ | ⟨-, hmem⟩ | hmem | ⟨rfl, hlong⟩ | ⟨rfl, hlong⟩
  · exact hne hplain
  · exact hbyte hmem
  · exact hfixed (List.mem_map_of_mem hmem)
  · omega
  · omega

/-! ## Two bytes -/

theorem beNat_two (a b : Byte) : beNat [a, b] = a.toNat * 256 + b.toNat := by simp [beNat]

theorem beInt_two (a b : Byte) :
    beInt [a, b] = if a.toNat < 128 then (a.toNat * 256 + b.toNat : Int) else (a.toNat * 256 + b.toNat : Int) - 65536 := by
  have hb := b.isLt
  have hsign : (a.toNat * 256 + b.toNat < 2 ^ (8 * [a, b].length - 1)) ↔ a.toNat < 128 := by
    simp only [List.length_cons, List.length_nil]
    omega
  unfold beInt
  dsimp only
  rw [beNat_two]
  have hwrap : (2 : Int) ^ (8 * [a, b].length) = 65536 := by
    simp only [List.length_cons, List.length_nil]
    norm_num
  rw [hwrap]
  exact if_congr hsign (by push_cast; ring) (by push_cast; ring)

/-- INVALID is 8000 hex. -/
theorem corrValueOf_eq (hi lo : Byte) : corrValueOf hi lo = if hi = 0x80 ∧ lo = 0 then none else some (beInt [hi, lo]) := by
  unfold corrValueOf
  refine if_congr ?_ rfl rfl
  have hhi := hi.isLt
  have hlo := lo.isLt
  rw [beNat_two]
  constructor
  · intro h
    have hhigh : hi.toNat = 128 := by omega
    have hlow : lo.toNat = 0 := by omega
    exact ⟨BitVec.eq_of_toNat_eq hhigh, BitVec.eq_of_toNat_eq hlow⟩
  · rintro ⟨rfl, rfl⟩
    rfl

/-! ## Handing on (R190) -/

section
variable {code : Byte} {args : List Byte} {b : Blocks}

theorem handBody_of_unknown (h : code.toNat ∉ requestCodes) :
    handBody (code :: args) b = answer .unknownRequest .nothing b := by
  have hunknown : (!requestCodes.contains code.toNat) = true := by simpa using h
  simp only [handBody, hunknown, if_true]

/-- Past the tests of the code and of start-up. -/
theorem handBody_of_known (h : code.toNat ∈ requestCodes)
    (hphase : ¬ (b.msu.phase ≠ .ended ∧ code.toNat ≠ 5 ∧ code.toNat ≠ 90)) :
    handBody (code :: args) b = match readRequest code.toNat args with
      | none => answer .badArgument .nothing b
      | some c => serve c b := by
  have hknown : (!requestCodes.contains code.toNat) = false := by simpa using h
  simp only [handBody, hknown, Bool.false_eq_true, if_false, if_neg hphase] <;> rfl

theorem handBody_of_starting (h : code.toNat ∈ requestCodes) (hphase : b.msu.phase ≠ .ended) (hcell : code.toNat ≠ 5)
    (hlink : code.toNat ≠ 90) : handBody (code :: args) b = answer .busy .nothing b := by
  have hknown : (!requestCodes.contains code.toNat) = false := by simpa using h
  simp only [handBody, hknown, Bool.false_eq_true, if_false, if_pos (And.intro hphase (And.intro hcell hlink))]

/-- CELL_STATUS and LINK_STATUS are answered in start-up too. -/
theorem handBody_of_status (h : code.toNat = 5 ∨ code.toNat = 90) :
    handBody (code :: args) b = match readRequest code.toNat args with
      | none => answer .badArgument .nothing b
      | some c => serve c b := by
  refine handBody_of_known ?_ fun hstarting => ?_
  · rcases h with h | h <;> rw [h] <;> decide
  · rcases h with h | h
    · exact hstarting.2.1 h
    · exact hstarting.2.2 h

end

theorem mem_requestCodes {code : Nat} :
    code ∈ requestCodes ↔
      (1 ≤ code ∧ code ≤ 5) ∨ (10 ≤ code ∧ code ≤ 17) ∨ (20 ≤ code ∧ code ≤ 24) ∨ (30 ≤ code ∧ code ≤ 32)
        ∨ (40 ≤ code ∧ code ≤ 43) ∨ code = 50 ∨ (60 ≤ code ∧ code ≤ 65) ∨ (70 ≤ code ∧ code ≤ 81) ∨ code = 90 := by
  simp only [requestCodes, List.mem_append, List.mem_cons, List.not_mem_nil, or_false]
  omega

theorem requestHandOn_of_head {tag : Byte} {body : List Byte} {rest : List Request} {b : Blocks}
    (h : b.lnk.queue = ⟨tag, body, none⟩ :: rest) :
    requestHandOn b = replyHead (handBody body b).answer (handBody body b) := by
  simp only [requestHandOn, h]

theorem requestHandOn_of_none {b : Blocks} (h : ∀ tag body rest, b.lnk.queue ≠ ⟨tag, body, none⟩ :: rest) :
    requestHandOn b = b := by
  unfold requestHandOn
  cases hqueue : b.lnk.queue with
  | nil => rfl
  | cons r rest =>
    obtain ⟨tag, body, reply⟩ := r
    cases reply with
    | none => exact absurd hqueue (h tag body rest)
    | some a => rfl

/-- A request as a row of its own is served by its owner, as a frame's is. -/
theorem exec_of_request {c : Instr} (hrequest : c.isRequest = true) (hrestart : c ≠ .restart) (s : State) :
    exec c s = run (serve c) s ∨ exec c s = run (asRequest (serve c)) s := by
  cases c
  case cellStatus => exact .inl rfl
  case linkStatus => exact .inl rfl
  case restart => exact absurd rfl hrestart
  all_goals simp only [Instr.isRequest, reduceCtorEq] at hrequest
  all_goals exact .inr rfl

end Sys2Proof.Machine

open Sys2Proof Sys2Proof.Machine

/-- Settles O56: one equation per branch of R180; the open section is the last of the insertion sort. -/
theorem recordPlaced : Obligations.RecordPlaced := by
  refine ⟨libClose_eq, fun flash i x => rfl, fun kind key body b => ⟨fun r h hbody => placeRecord_of_same h hbody,
    placeRecord_of_other, programNext_of_spent, fun i hseq hopen hok hfits => ?fits, fun hseq hroom =>
      ⟨programNext_of_full hseq hroom, fun i herased hnext horder hbegin hprogram => ?begun,
        fun herased hnone => programNext_of_begin_fails hseq hroom herased (beginSection_of_none hnone),
        fun i herased hnext horder hfails => ?beginFails, fun i herased hnext horder hbegin hfails => ?programFails⟩,
    fun i hseq hopen hfails hfits => ?fails, fun flash => ⟨fun i hnext => ?erasedAt,
      fun hnone i hi => nextErased_eq_none hnone hi, fun i => openSection_eq_some, openSection_eq_none,
      fun i hnext => ?sought⟩⟩⟩
  case fits => exact (programNext_of_fits hseq hopen hfits).trans (programmed_of_ok hok)
  case begun => exact (programNext_of_begun hseq hroom herased hnext horder hbegin).trans (programmed_of_ok hprogram)
  case beginFails =>
    obtain ⟨c, hc, hbegin⟩ := beginSection_of_fails hnext horder hfails
    exact ⟨c, hc, programNext_of_begin_fails hseq hroom herased hbegin⟩
  case programFails =>
    obtain ⟨left, hleaves, hprogram⟩ := programmed_of_fails (i := i) (r := ⟨kind, key, b.lib.nextSeq, body⟩)
      (b := { b with lib := { b.lib with flash := b.lib.flash.set i (.begun (highestOrder b.lib.flash + 1) []) } }) hfails
    exact ⟨left, hleaves, (programNext_of_begun hseq hroom herased hnext horder hbegin).trans hprogram⟩
  case fails =>
    obtain ⟨left, hleaves, hprogram⟩ := programmed_of_fails (i := i) (r := ⟨kind, key, b.lib.nextSeq, body⟩) hfails
    exact ⟨left, hleaves, (programNext_of_fits hseq hopen hfits).trans hprogram⟩
  case erasedAt =>
    obtain ⟨k, -, hi, hat, -⟩ := nextErased_eq_some hnext
    exact ⟨hi ▸ Nat.mod_lt _ (by decide), hat⟩
  case sought =>
    obtain ⟨k, hk, hi, -, hbefore⟩ := nextErased_eq_some hnext
    exact ⟨k, hk, hi, hbefore⟩

/-- Settles O57: one equation per branch; the work changes nothing `outside` the library. -/
theorem compactionAndErase : Obligations.CompactionAndErase := by
  refine ⟨libClose_eq, fun b => libReady_of_not_waiting,
    fun s h => (run_asRequest h).trans (next_act_congr s fun b => libRequest_work (closedToo := false)),
    fun s h => (run_asRequest h).trans (next_act_congr s fun b => libRequest_work (closedToo := true)),
    fun i d s hwork hdeadline hok hi => next_act_of_eq ?next, fun d s hwork hdeadline hok => next_act_of_eq ?last,
    fun l => reindex_of_erased, ckuStore_eq, fun b => ?begins, fun src already total rest dest b => takeSource_eq ..,
    fun flash i => mem_compactionSources, compactionSources_order, fun dest b => rfl,
    fun p rest dest b => ⟨copyLive_of_dead, fun hlive =>
      ⟨fun c i hcopy => (copyLive_of_live hlive).trans (by rw [hcopy]),
        fun c hcopy => (copyLive_of_live hlive).trans (by rw [hcopy])⟩⟩,
    fun l p => isLive_iff, fun r dest i b hprogram => ⟨?fits, ?begun⟩, ?programFails,
    fun r dest b hroom => ⟨?none, ?beginFails, ?begunFails⟩,
    fun src already total dest d s hdeadline hok => ⟨fun hwork => next_act_of_eq (sectionEraseDone_of_ok hwork hdeadline hok),
      fun next rest hwork => next_act_of_eq (sectionEraseDone_of_ok hwork hdeadline hok),
      fun powerOn hwork => next_act_of_eq (sectionEraseDone_of_ok hwork hdeadline hok)⟩,
    fun b => rfl, fun w d s hwork hdeadline hfails => next_act_of_eq (sectionEraseDone_of_fails hwork hdeadline hfails),
    fun i b => ?spoil, fun r => ⟨rfl, decodeKnife_encode⟩, fun w d s hwork hdeadline => ?done,
    fun s h => next_act_of_eq (g := id) (sectionEraseDone_of_none h), fun s => next_act_congr s fun b => ?deferred⟩
  case next => exact (sectionEraseDone_of_ok hwork hdeadline hok).trans (sectionErased_next hi _)
  case last =>
    refine ((sectionEraseDone_of_ok hwork hdeadline hok).trans (sectionErased_last _)).trans ((endEraseAll_eq _).trans ?_)
    rw [eraseAllTold_eq]
    rfl
  case begins =>
    unfold beginCompaction
    cases compactionSources b.lib.flash <;> rfl
  case fits =>
    rintro ⟨rfl, hroom⟩
    exact (copyRecord_of_fits hroom).trans (copied_of_ok hprogram)
  case begun =>
    intro hroom hnext horder hbegin
    rw [copyRecord_of_no_room hroom, beginSection_of_ok hnext horder hbegin]
    exact copied_of_ok hprogram
  case programFails =>
    rintro r dest i b hfails rfl hroom
    obtain ⟨left, hleaves, hcopied⟩ := copied_of_fails (i := i) (r := r) hfails
    exact ⟨left, hleaves, (copyRecord_of_fits hroom).trans hcopied⟩
  case none =>
    intro hnone
    rw [copyRecord_of_no_room hroom, beginSection_of_none hnone]
  case beginFails =>
    intro i hnext horder hfails
    obtain ⟨c, hc, hbegin⟩ := beginSection_of_fails hnext horder hfails
    exact ⟨c, hc, by rw [copyRecord_of_no_room hroom, hbegin] <;> rfl⟩
  case begunFails =>
    intro i hnext horder hbegin hfails
    obtain ⟨left, hleaves, hcopied⟩ := copied_of_fails (i := i) (r := r)
      (b := { b with lib := { b.lib with flash := b.lib.flash.set i (.begun (highestOrder b.lib.flash + 1) []) } }) hfails
    refine ⟨left, hleaves, ?_⟩
    rw [copyRecord_of_no_room hroom, beginSection_of_ok hnext horder hbegin]
    exact hcopied
  case spoil =>
    refine ⟨afterErase b, fun c => ?_, spoilSection_eq i b⟩
    unfold afterErase
    cases Config.failedErase b.freeIndex with
    | unchanged => exact .inl rfl
    | bad => exact .inr (.inl rfl)
    | erased => exact .inr (.inr rfl)
  case done =>
    have hclock : (sectionEraseDone s.blocks).clock = max s.blocks.clock d := by
      rw [sectionEraseDone_of_work hwork hdeadline, clock_eraseDone]
    refine ⟨s.act sectionEraseDone, rfl, rfl, hclock ▸ le_max_left _ _, hclock ▸ le_max_right _ _, fun hfails => ?_,
      fun hok hlast => ?_⟩
    · rw [show (s.act sectionEraseDone).blocks = sectionEraseDone s.blocks from rfl,
        sectionEraseDone_of_fails hwork hdeadline hfails, lib_libReady, lnk_libReady]
      exact eraseFailed_closed _ _
    · rw [show (s.act sectionEraseDone).blocks = sectionEraseDone s.blocks from rfl,
        sectionEraseDone_of_ok (hlast ▸ hwork) hdeadline hok, sectionErased_last]
      exact endEraseAll_done _
  case deferred =>
    unfold deferredStore
    split_ifs <;> rfl

/-- Settles O60: the choice of the next frame by its order; the layouts hold by definition. -/
theorem transmitterSends : Obligations.TransmitterSends := by
  refine ⟨fun s => next_act_congr s fun b => ?next, fun s => next_act_congr s frameSentDone_eq,
    fun b => ⟨rfl, rfl, rfl, rfl, rfl, noticeSnapshot_gauge b, rfl, noticeSnapshot_library b⟩, fun table => invalidPoints_eq,
    fun tag code a n d r => ⟨frameBytes_eq .., frameBytes_eq .., frameBytes_eq ..⟩, fun k b => ?kinds, by decide,
    fun len x => ⟨length_beBytes len x, beNat_beBytes, beInt_beBytes⟩, ?layout, by decide, by decide, by decide⟩
  case next =>
    refine (transmitNext_eq b).trans ?_
    rw [nextNotice_eq] <;> rfl
  case kinds => cases k <;> exact ⟨rfl, rfl⟩
  case layout =>
    exact ⟨fun d => rfl, fun d => rfl, fun h => rfl, fun d => rfl, fun length shown => rfl, fun d => rfl, fun d => rfl,
      fun d => rfl, fun d => rfl, fun d => rfl, ⟨rfl, rfl⟩, fun a => rfl, fun kind key seq f => ⟨rfl, rfl, rfl⟩,
      fun n seq length body => ⟨rfl, rfl, rfl, rfl⟩, fun f seq => rfl, fun target count approach clamped uncorrected => rfl,
      corrValues_bytes, fun mode estop key locked guard cause u => rfl,
      fun state job lot finished l phase wait code => rfl, fun state h => rfl,
      fun length made delivered trims newest clear => rfl,
      fun lift fault height parted retries transferred paused jog jogFault => rfl,
      fun state fault referenced inPosition drive uncorrected clamped position kind completed invalid => rfl,
      fun state fault up tdc cap unstored flap cuts wear outcome => rfl,
      fun state erased inUse damaged staging event => rfl⟩

/-- Settles O58: a frame by the place of its first late byte, its length, its check and its kind. -/
theorem framesReceived : Obligations.FramesReceived := by
  refine ⟨fun bytes s => rfl, ?one,
    fun length tag body hi lo x rest more l hcounted hshort hstart hbytes hprompt hcheck =>
      receive_of_request ⟨hcounted, hshort, hbytes, hprompt⟩ hstart hcheck more,
    fun length kind tag body hi lo x rest more l hcounted hshort hstart hbytes hprompt hcheck =>
      receive_of_bad_check ⟨hcounted, hshort, hbytes, hprompt⟩ hstart hcheck more,
    fun x rest l => receive_of_other, fun x first rest l hstart hgap hlong => ?long, fun x first rest l hstart hlate => ?late,
    fun x first late middle rest l hstart hgap hlength hmiddle hinside hlate => ?gap,
    fun length kind tag body hi lo x rest more l hcounted hshort hkind hstart hbytes hprompt hcheck =>
      receive_of_otherKind ⟨hcounted, hshort, hbytes, hprompt⟩ hstart hkind hcheck more,
    fun x l hstart => ⟨receive_nil 0 l, receive_of_start hstart, fun first rest hlength hshort hprompt => ?short⟩,
    dropFrame_eq⟩
  case one =>
    intro tag body bytes s hgathered hshort covered frame hbytes hprompt
    refine next_act_of_eq ?_
    have hcounted : (BitVec.ofNat 8 body.length).toNat = body.length := by
      rw [BitVec.toNat_ofNat]
      omega
    have hreceive := receive_one_request (l := s.blocks.lnk) hgathered hcounted hshort hbytes hprompt (crc_split _)
    rw [requestArrives_eq] at hreceive
    refine (congrArg (fun l => { s.blocks with lnk := l }) hreceive).trans ?_
    split_ifs <;> rfl
  case long => rw [receive_of_start hstart, gatherFrame_of_long hgap hlong]
  case late => rw [receive_of_start hstart, gatherFrame_of_late hlate]
  case gap =>
    rw [receive_of_start hstart, gatherFrame_of_gap hgap hlength hmiddle hinside hlate]
    exact receive_skip (first :: middle) (late :: rest) _
  case short => rw [receive_of_start hstart, gatherFrame_of_short hprompt hlength hshort]

/-- Settles O59: the codes by the length of their arguments (`readRequest_ne_none`), then the tests of R190. -/
theorem requestHandedOn : Obligations.RequestHandedOn := by
  refine ⟨fun p hp => ?plain, fun x => ⟨rfl, rfl, rfl, rfl, rfl⟩, fun code args => readRequest_of_byte,
    fun a b c d e f g h => ⟨rfl, rfl, rfl, rfl, rfl, rfl, rfl, rfl, rfl, rfl, rfl⟩,
    fun p hp args hlength => readRequest_of_fixed hp hlength, fun a b data => ?part, fun a b figures => ?stock,
    fun a b c d values => rfl, fun code args => readRequest_of_short, fun figures => rfl,
    ⟨rfl, fun hi lo rest => ⟨rfl, congrArg (· :: corrValuesOf rest) (corrValueOf_eq hi lo)⟩⟩, fun b => rfl,
    fun a b => ⟨beNat_two a b, beInt_two a b⟩, fun tag body rest s hqueue => next_act_of_eq (requestHandOn_of_head hqueue),
    fun s hnone => next_act_of_eq (g := id) (requestHandOn_of_none hnone), fun b => rfl, fun code => mem_requestCodes,
    fun code args b => handBody_of_unknown, fun code args b => handBody_of_starting,
    fun b => ⟨handBody_of_status (.inl rfl), handBody_of_status (.inr rfl)⟩,
    fun x rest b => ⟨(handBody_of_status (.inl rfl)).trans ?cell, (handBody_of_status (.inr rfl)).trans ?link⟩,
    fun s => ⟨rfl, rfl⟩, fun code args b hknown hended => handBody_of_known hknown fun hstarting => hstarting.1 hended,
    fun c hrequest hrestart s hstarted => ?request⟩
  case plain =>
    have hcodes : plainRequest p.1 = some p.2 := by
      revert p
      decide
    exact ⟨hcodes, fun x rest => readRequest_of_plain (by rw [hcodes]; exact Option.some_ne_none _)⟩
  case part => cases data <;> rfl
  case stock =>
    rw [show readRequest 75 (a :: b :: figures) = (decodeStock figures).map (.stockWrite (beNat [a, b])) from rfl]
    cases decodeStock figures <;> rfl
  case cell => rw [readRequest_of_plain (by decide)]
  case link => rw [readRequest_of_plain (by decide)]
  case request =>
    rcases exec_of_request hrequest hrestart s with hserved | hserved
    · exact hserved
    · exact hserved.trans (run_asRequest hstarted)

end

section
/-! SUPPORT. JOB_LOAD: the records a job needs, the record checks and the step records (R15, R17, R196), and the load
number (R62). -/

set_option Elab.async false

namespace Sys2Proof.Machine

open Sys2Proof

/-! ## The records a job needs (R15, R17) -/

section
variable {job stock : Nat} {l : Lib}

theorem loadJob_of_missing (h : currentItem l .job job = none) : loadJob job l = missing .job job := by
  simp only [loadJob, h]

theorem loadJob_of_defective {r : Rec} {f : CheckFailure} (h : currentItem l .job job = some r)
    (hf : checkJob job r.body = some f) : loadJob job l = defective .job job f := by
  simp only [loadJob, h, hf]

theorem loadJob_of_sound {r : Rec} (h : currentItem l .job job = some r) (hf : checkJob job r.body = none) :
    loadJob job l = .got r.body := by
  simp only [loadJob, h, hf]

theorem loadStock_of_missing (h : currentItem l .stock stock = none) : loadStock stock l = missing .stock stock := by
  simp only [loadStock, h]

theorem loadStock_of_defective {r : Rec} (h : currentItem l .stock stock = some r)
    (hf : ∀ f, decodeStock r.body = some f → StockFigures.inRange f = false) :
    loadStock stock l = defective .stock stock ⟨.headerRange, none⟩ := by
  simp only [loadStock, h]
  cases hbody : decodeStock r.body with
  | none => rfl
  | some f => simp only [hf f hbody, Bool.false_eq_true, if_false]

theorem loadStock_of_sound {r : Rec} {f : StockFigures} (h : currentItem l .stock stock = some r)
    (hbody : decodeStock r.body = some f) (hf : StockFigures.inRange f = true) : loadStock stock l = .got f := by
  simp only [loadStock, h, hbody, hf, if_true]

theorem gatherJob_of_job_fails {st : Status} {e : Result} (h : loadJob job l = .fails st e) :
    gatherJob job stock l = .fails st e := by
  simp only [gatherJob, h]

theorem gatherJob_of_stock_fails {body : List Byte} {st : Status} {e : Result} (h : loadJob job l = .got body)
    (hs : loadStock stock l = .fails st e) : gatherJob job stock l = .fails st e := by
  simp only [gatherJob, h, hs]

theorem gatherJob_of_subs_fail {body : List Byte} {f : StockFigures} {st : Status} {e : Result}
    (h : loadJob job l = .got body) (hs : loadStock stock l = .got f)
    (hsubs : loadSubs l 33 (calledSubs (stepsOf (body.drop 28)) []) (calledSubs (stepsOf (body.drop 28)) []) = .fails st e) :
    gatherJob job stock l = .fails st e := by
  simp only [gatherJob, h, hs, hsubs]

theorem gatherJob_of_subs {body : List Byte} {f : StockFigures} {subs : List (Nat × List ProgStep)}
    (h : loadJob job l = .got body) (hs : loadStock stock l = .got f)
    (hsubs : loadSubs l 33 (calledSubs (stepsOf (body.drop 28)) []) (calledSubs (stepsOf (body.drop 28)) []) = .got subs) :
    gatherJob job stock l = .got
      { job := job, name := (readHeader body).name.takeWhile (· != 0), depth := (readHeader body).depth,
        width := (readHeader body).width, height := (readHeader body).height, steps := stepsOf (body.drop 28), subs := subs,
        stockNumber := stock, stock := f, loadPosition := loadPositionOf (readHeader body).depth f.stretchA } := by
  simp only [gatherJob, h, hs, hsubs]

end

section
variable {l : Lib} {k n : Nat} {rest listed : List Nat}

theorem loadSubs_of_missing (h : currentItem l .sub n = none) : loadSubs l (k + 1) (n :: rest) listed = missing .sub n := by
  simp only [loadSubs, h]

theorem loadSubs_of_defective {r : Rec} {f : CheckFailure} (h : currentItem l .sub n = some r)
    (hf : checkSub r.body = some f) : loadSubs l (k + 1) (n :: rest) listed = defective .sub n f := by
  simp only [loadSubs, h, hf]

theorem loadSubs_of_sound {r : Rec} (h : currentItem l .sub n = some r) (hf : checkSub r.body = none) :
    loadSubs l (k + 1) (n :: rest) listed =
      match loadSubs l k (rest ++ calledSubs (stepsOf r.body) listed) (listed ++ calledSubs (stepsOf r.body) listed) with
      | .fails st e => .fails st e
      | .got others => .got ((n, stepsOf r.body) :: others) := by
  simp only [loadSubs, h, hf] <;> rfl

end

/-! ## The subprograms called -/

/-- The subprogram a step calls. -/
def calledBy : ProgStep → Option Nat
  | .call n _ _ => some n
  | _ => none

theorem calledSubs_cons (s : ProgStep) (rest : List ProgStep) (seen : List Nat) :
    calledSubs (s :: rest) seen = match calledBy s with
      | none => calledSubs rest seen
      | some n => if n ∈ seen then calledSubs rest seen else n :: calledSubs rest (n :: seen) := by
  cases s with
  | call n count own => simp only [calledSubs, calledBy, List.contains_eq_mem, decide_eq_true_eq]
  | _ => rfl

theorem calledBy_eq_some {s : ProgStep} {n : Nat} : calledBy s = some n ↔ ∃ count own, s = .call n count own := by
  cases s <;> simp [calledBy]

theorem mem_calledSubs {steps : List ProgStep} {listed : List Nat} {n : Nat} :
    n ∈ calledSubs steps listed ↔ n ∉ listed ∧ ∃ s ∈ steps, calledBy s = some n := by
  induction steps generalizing listed with
  | nil => simp [calledSubs]
  | cons s rest ih =>
    rw [calledSubs_cons]
    cases hcalled : calledBy s with
    | none => simp [ih, hcalled]
    | some m =>
      by_cases hm : m ∈ listed
      · have hother : n ∉ listed → m ≠ n := fun hn hmn => hn (hmn ▸ hm)
        simp only [if_pos hm, ih, List.exists_mem_cons_iff, hcalled, Option.some.injEq]
        refine and_congr_right fun hn => ?_
        simp [hother hn]
      · simp only [if_neg hm, List.mem_cons, ih, not_or]
        by_cases hmn : n = m
        · subst hmn
          simp [hm, hcalled]
        · simp [hmn, Ne.symm hmn, hcalled]

theorem nodup_calledSubs (steps : List ProgStep) (listed : List Nat) : (calledSubs steps listed).Nodup := by
  induction steps generalizing listed with
  | nil => exact List.nodup_nil
  | cons s rest ih =>
    rw [calledSubs_cons]
    cases calledBy s with
    | none => exact ih listed
    | some n =>
      dsimp only
      split_ifs
      · exact ih listed
      · refine List.nodup_cons.mpr ⟨fun hmem => ?_, ih _⟩
        exact (mem_calledSubs.mp hmem).1 List.mem_cons_self

theorem calledSubs_sublist (steps : List ProgStep) (listed : List Nat) :
    (calledSubs steps listed).Sublist (steps.filterMap calledBy) := by
  induction steps generalizing listed with
  | nil => exact List.Sublist.refl _
  | cons s rest ih =>
    rw [calledSubs_cons]
    cases hcalled : calledBy s with
    | none =>
      rw [List.filterMap_cons_none hcalled]
      exact ih listed
    | some n =>
      rw [List.filterMap_cons_some hcalled]
      dsimp only
      split_ifs
      · exact (ih listed).cons n
      · exact (ih (n :: listed)).cons_cons n

/-! ## The step records (R196) -/

theorem stepRecords_of_long {body : List Byte} (h : 12 ≤ body.length) :
    stepRecords body = body.take 12 :: stepRecords (body.drop 12) := by
  rcases body with _ | ⟨_, _ | ⟨_, _ | ⟨_, _ | ⟨_, _ | ⟨_, _ | ⟨_, _ | ⟨_, _ | ⟨_, _ | ⟨_, _ | ⟨_, _ | ⟨_, _ | ⟨_,
    rest⟩⟩⟩⟩⟩⟩⟩⟩⟩⟩⟩⟩
  case cons.cons.cons.cons.cons.cons.cons.cons.cons.cons.cons.cons => rfl
  all_goals simp at h

theorem stepRecords_of_short {body : List Byte} (h : body.length < 12) : stepRecords body = [] := by
  unfold stepRecords
  split
  · simp only [List.length_cons] at h
    omega
  · rfl

theorem length_stepRecords (body : List Byte) : (stepRecords body).length = body.length / 12 := by
  induction hn : body.length using Nat.strong_induction_on generalizing body with
  | _ n ih =>
    subst hn
    rcases lt_or_ge body.length 12 with hshort | hlong
    · rw [stepRecords_of_short hshort, Nat.div_eq_of_lt hshort]
      rfl
    · have hrest : (body.drop 12).length = body.length - 12 := List.length_drop
      rw [stepRecords_of_long hlong, List.length_cons, ih _ (by omega) (body.drop 12) hrest]
      omega

theorem getElem?_stepRecords {body : List Byte} {i : Nat} (hi : i < body.length / 12) :
    (stepRecords body)[i]? = some ((body.drop (12 * i)).take 12) := by
  induction i generalizing body with
  | zero =>
    rw [stepRecords_of_long (by omega)]
    rfl
  | succ i ih =>
    have hrest : (body.drop 12).length = body.length - 12 := List.length_drop
    rw [stepRecords_of_long (by omega), List.getElem?_cons_succ, ih (by omega), List.drop_drop,
      show 12 + 12 * i = 12 * (i + 1) by omega]

/-! ## The header (R1, R196) -/

theorem toNat_eq_zero {b : Byte} : b.toNat = 0 ↔ b = 0 :=
  ⟨fun h => BitVec.eq_of_toNat_eq h, fun h => by rw [h]; rfl⟩

theorem toNat_beq_one (b : Byte) : (b.toNat == 1) = decide (b = 1) :=
  Bool.eq_iff_iff.mpr (by
    rw [beq_iff_eq, decide_eq_true_iff]
    exact ⟨fun h => BitVec.eq_of_toNat_eq h, fun h => by rw [h]; rfl⟩)

/-- A name is printable characters, then zero bytes. -/
theorem nameOk_iff (name : List Byte) :
    nameOk name = true ↔ ∃ k ≤ name.length, (∀ i < k, 0x20 ≤ (name.getD i 0).toNat ∧ (name.getD i 0).toNat ≤ 0x7E)
      ∧ ∀ i, k ≤ i → i < name.length → name.getD i 0 = 0 := by
  induction name with
  | nil => simp [nameOk]
  | cons c rest ih =>
    by_cases hzero : c = 0
    · rw [nameOk, if_pos hzero, List.all_eq_true]
      constructor
      · refine fun hall => ⟨0, Nat.zero_le _, by simp, fun i _ hi => ?_⟩
        cases i with
        | zero => exact hzero
        | succ i =>
          have hi' : i < rest.length := Nat.lt_of_succ_lt_succ hi
          rw [List.getD_cons_succ, List.getD_eq_getElem _ _ hi']
          simpa using hall _ (List.getElem_mem hi')
      · rintro ⟨k, -, hprint, hpad⟩ x hx
        have hk : k = 0 := by
          by_contra hk
          have hfirst := (hprint 0 (Nat.pos_of_ne_zero hk)).1
          rw [List.getD_cons_zero, hzero] at hfirst
          exact absurd hfirst (by decide)
        obtain ⟨i, hi, rfl⟩ := List.mem_iff_getElem.mp hx
        have hat := hpad (i + 1) (by omega) (by simpa using hi)
        rw [List.getD_cons_succ, List.getD_eq_getElem _ _ hi] at hat
        simp [hat]
    · rw [nameOk, if_neg hzero, Bool.and_eq_true, ih, Bool.and_eq_true, decide_eq_true_iff, decide_eq_true_iff]
      constructor
      · rintro ⟨hc, k, hk, hprint, hpad⟩
        refine ⟨k + 1, Nat.succ_le_succ hk, fun i hi => ?_, fun i hi hlast => ?_⟩
        · cases i with
          | zero => exact hc
          | succ i => exact hprint i (by omega)
        · cases i with
          | zero => omega
          | succ i => exact hpad i (by omega) (Nat.lt_of_succ_lt_succ hlast)
      · rintro ⟨k, hk, hprint, hpad⟩
        cases k with
        | zero => exact absurd (hpad 0 le_rfl (Nat.succ_pos _)) hzero
        | succ k =>
          exact ⟨hprint 0 (Nat.succ_pos _), k, Nat.le_of_succ_le_succ hk, fun i hi => hprint (i + 1) (by omega),
            fun i hi hlast => hpad (i + 1) (by omega) (Nat.succ_lt_succ hlast)⟩

/-- The name field of a body that holds a header. -/
theorem nameField_iff {body : List Byte} (h : 28 ≤ body.length) :
    nameOk ((body.drop 2).take 16) = true ↔
      ∃ k ≤ 16, (∀ i < k, 0x20 ≤ (body.getD (2 + i) 0).toNat ∧ (body.getD (2 + i) 0).toNat ≤ 0x7E)
        ∧ ∀ i, k ≤ i → i < 16 → body.getD (2 + i) 0 = 0 := by
  have hlength : ((body.drop 2).take 16).length = 16 := by
    rw [List.length_take, List.length_drop]
    omega
  have hat : ∀ i < 16, ((body.drop 2).take 16).getD i 0 = body.getD (2 + i) 0 := fun i hi => by
    rw [List.getD_eq_getElem?_getD, List.getElem?_take_of_lt hi, List.getElem?_drop, ← List.getD_eq_getElem?_getD]
  rw [nameOk_iff, hlength]
  refine exists_congr fun k => and_congr_right fun hk => and_congr ?_ ?_
  · exact forall₂_congr fun i hi => by rw [hat i (by omega)]
  · exact forall₃_congr fun i _ hi => by rw [hat i hi]

theorem headerOk_iff {h : JobHeader} {key : Nat} :
    headerOk h key = true ↔
      h.number = key ∧ 1 ≤ key ∧ key ≤ 999 ∧ nameOk h.name = true ∧ 100000 ≤ h.depth ∧ h.depth ≤ 1140000
        ∧ 100000 ≤ h.width ∧ h.width ≤ 1140000 ∧ 400 ≤ h.height ∧ h.height ≤ 1650 := by
  simp only [headerOk, Bool.and_eq_true, decide_eq_true_eq, beq_iff_eq]
  constructor
  · rintro ⟨⟨⟨⟨⟨⟨hlow, hhigh⟩, hkey⟩, hname⟩, hdepth⟩, hwidth⟩, hheight⟩
    exact ⟨hkey, hkey ▸ hlow, hkey ▸ hhigh, hname, hdepth.1, hdepth.2, hwidth.1, hwidth.2, hheight.1, hheight.2⟩
  · rintro ⟨hkey, hlow, hhigh, hname, hdepth, hdepth', hwidth, hwidth', hheight⟩
    exact ⟨⟨⟨⟨⟨⟨hkey ▸ hlow, hkey ▸ hhigh⟩, hkey⟩, hname⟩, hdepth, hdepth'⟩, hwidth, hwidth'⟩, hheight⟩

/-! ## The record checks (R15) -/

section
variable {key : Nat} {body : List Byte}

theorem checkJob_of_length (h : body.length < 28 ∨ (body.length - 28) % 12 ≠ 0) : checkJob key body = some ⟨.length, none⟩ :=
  if_pos h

theorem checkJob_of_stepCount (hlong : 28 ≤ body.length) (hwhole : (body.length - 28) % 12 = 0)
    (h : (body.length - 28) / 12 < 1 ∨ 120 < (body.length - 28) / 12) : checkJob key body = some ⟨.stepCount, none⟩ := by
  rw [checkJob, if_neg (by omega), if_pos h]

theorem checkJob_of_steps (hlong : 28 ≤ body.length) (hwhole : (body.length - 28) % 12 = 0)
    (hfirst : 1 ≤ (body.length - 28) / 12) (hlast : (body.length - 28) / 12 ≤ 120) :
    checkJob key body =
      if headerOk (readHeader body) key = false then some ⟨.headerRange, none⟩
      else checkSteps true 0 (stepRecords (body.drop 28)) := by
  rw [checkJob, if_neg (by omega), if_neg (by omega)]

theorem checkSub_of_length (h : body.length % 12 ≠ 0) : checkSub body = some ⟨.length, none⟩ := if_pos h

theorem checkSub_of_stepCount (hwhole : body.length % 12 = 0) (h : body.length / 12 < 1 ∨ 40 < body.length / 12) :
    checkSub body = some ⟨.stepCount, none⟩ := by
  rw [checkSub, if_neg (not_not_intro hwhole), if_pos h]

theorem checkSub_of_steps (hwhole : body.length % 12 = 0) (hfirst : 1 ≤ body.length / 12) (hlast : body.length / 12 ≤ 40) :
    checkSub body = checkSteps false 0 (stepRecords body) := by
  rw [checkSub, if_neg (not_not_intro hwhole), if_neg (by omega)]

end

/-- The checks 6 to 12 of a step that reads, in the order of the table. -/
theorem checkStep_of_step {isJob : Bool} {left : Nat} {r : List Byte} {p : ProgStep} (h : readStep r = .step p) :
    checkStep isJob left r =
      let repeats : Bool := match (generalizing := false) p with | .cut m n _ _ _ => decide (1 < n ∧ m ≠ .rel) | _ => false
      let skips : Bool := match (generalizing := false) p with | .skipIf _ _ => true | _ => false
      let terminates : Bool := if isJob then decide (p = .endStep) else decide (p = .ret)
      if repeats then some .repeatMode
      else if p = .ret ∧ isJob = true then some .returnInMain
      else if p = .endStep ∧ isJob = false then some .endInSub
      else if p = .endStep ∧ left ≠ 0 then some .endMisplaced
      else if skips = true ∧ left = 0 then some .skipLast
      else if skips = true ∧ left = 1 then some .skipTerminator
      else if left = 0 ∧ terminates = false then some .noTerminator
      else none := by
  simp only [checkStep, h]
  cases p with
  | cut m n waste dim own => cases isJob <;> simp
  | ret => cases isJob <;> simp
  | endStep => cases isJob <;> simp
  | skipIf c operand => cases isJob <;> simp +contextual
  | turn quarters => cases isJob <;> simp
  | eject => cases isJob <;> simp
  | pause code => cases isJob <;> simp
  | call n count own => cases isJob <;> simp

/-! ## The fields of a step (R196) -/

theorem overrideOf_of_pressed {n : Nat} (h : n = 0 ∨ (50 ≤ n ∧ n ≤ 550)) :
    overrideOf n = some (if n = 0 then none else some n) := by
  unfold overrideOf
  by_cases hzero : n = 0
  · rw [if_pos hzero, if_pos hzero]
  · rw [if_neg hzero, if_neg hzero, if_pos (h.resolve_left hzero)]

theorem overrideOf_of_not {n : Nat} (h : ¬ (n = 0 ∨ (50 ≤ n ∧ n ≤ 550))) : overrideOf n = none := by
  obtain ⟨hzero, hrange⟩ := not_or.mp h
  rw [overrideOf, if_neg hzero, if_neg hrange]

/-- The place of a mode in R196. -/
def modeNumber : CutMode → Nat
  | .abs => 1
  | .rel => 2
  | .fromBase => 3

theorem cutModeOf_modeNumber (m : CutMode) : cutModeOf (modeNumber m) = some m := by cases m <;> rfl

theorem cutModeOf_ne_none {n : Nat} (h : cutModeOf n ≠ none) : 1 ≤ n ∧ n ≤ 3 := by
  unfold cutModeOf at h
  split at h
  case h_4 => exact absurd rfl h
  all_goals decide

/-- The place of a condition in R196. -/
def condNumber : SkipCond → Nat
  | .depthBelow => 1
  | .widthBelow => 2
  | .orientationIs => 3
  | .firstPortion => 4
  | .lastPortion => 5
  | .piecesWaiting => 6

/-- The highest operand a condition admits (R13). -/
def condTop : SkipCond → Nat
  | .depthBelow | .widthBelow => 1150000
  | .orientationIs => 3
  | _ => 0

theorem skipOf_condNumber (c : SkipCond) (operand : Nat) :
    skipOf (condNumber c) operand = if operand ≤ condTop c then some (.skipIf c operand) else none := by
  have hnone (c : SkipCond) : (if operand = 0 then some (.skipIf c 0) else none)
      = if operand ≤ 0 then some (ProgStep.skipIf c operand) else none := by
    by_cases hzero : operand = 0
    · simp [hzero]
    · simp [hzero]
  cases c
  case firstPortion => exact hnone .firstPortion
  case lastPortion => exact hnone .lastPortion
  case piecesWaiting => exact hnone .piecesWaiting
  all_goals rfl

theorem skipOf_of_unknown {code operand : Nat} (h : code < 1 ∨ 6 < code) : skipOf code operand = none := by
  unfold skipOf
  split
  case h_7 => rfl
  all_goals omega

section
variable {b1 b2 b3 d ov tail : Nat}

theorem stepFields_cut {m : CutMode} (hmode : b1 = modeNumber m) (h2 : 1 ≤ b2) (h2' : b2 ≤ 99) (h3 : b3 ≤ 1) (hd : d ≤ 1150000)
    (hov : ov = 0 ∨ (50 ≤ ov ∧ ov ≤ 550)) (htail : tail = 0) :
    stepFields 1 b1 b2 b3 d ov tail = some (.cut m b2 (b3 == 1) d (if ov = 0 then none else some ov)) := by
  subst hmode
  simp only [stepFields, cutModeOf_modeNumber, overrideOf_of_pressed hov]
  exact if_pos ⟨h2, h2', h3, hd, htail⟩

theorem stepFields_cut_of_not
    (h : ¬ (1 ≤ b1 ∧ b1 ≤ 3 ∧ 1 ≤ b2 ∧ b2 ≤ 99 ∧ b3 ≤ 1 ∧ d ≤ 1150000 ∧ (ov = 0 ∨ (50 ≤ ov ∧ ov ≤ 550)) ∧ tail = 0)) :
    stepFields 1 b1 b2 b3 d ov tail = none := by
  simp only [stepFields]
  cases hmode : cutModeOf b1 with
  | none => rfl
  | some m =>
    have hcode : 1 ≤ b1 ∧ b1 ≤ 3 := cutModeOf_ne_none (by rw [hmode]; exact Option.some_ne_none m)
    by_cases hov : ov = 0 ∨ (50 ≤ ov ∧ ov ≤ 550)
    · simp only [overrideOf_of_pressed hov]
      exact if_neg fun hfields => h ⟨hcode.1, hcode.2, hfields.1, hfields.2.1, hfields.2.2.1, hfields.2.2.2.1, hov,
        hfields.2.2.2.2⟩
    · simp only [overrideOf_of_not hov]

theorem stepFields_call :
    stepFields 5 b1 b2 b3 d ov tail =
      if b1 ≤ 31 ∧ 1 ≤ b2 ∧ b2 ≤ 99 ∧ b3 = 0 ∧ d = 0 ∧ (ov = 0 ∨ (50 ≤ ov ∧ ov ≤ 550)) ∧ tail = 0 then
        some (.call b1 b2 (if ov = 0 then none else some ov)) else none := by
  simp only [stepFields]
  by_cases hov : ov = 0 ∨ (50 ≤ ov ∧ ov ≤ 550)
  · simp only [overrideOf_of_pressed hov]
    exact if_congr (by simp only [hov, true_and]) rfl rfl
  · simp only [overrideOf_of_not hov]
    exact (if_neg fun h => hov h.2.2.2.2.2.1).symm

theorem stepFields_skip {c : SkipCond} (hcond : b1 = condNumber c) :
    stepFields 7 b1 b2 b3 d ov tail =
      if b2 = 0 ∧ b3 = 0 ∧ ov = 0 ∧ tail = 0 ∧ d ≤ condTop c then some (.skipIf c d) else none := by
  subst hcond
  simp only [stepFields, skipOf_condNumber, ← ite_and, and_assoc]

theorem stepFields_skip_of_unknown (h : b1 < 1 ∨ 6 < b1) : stepFields 7 b1 b2 b3 d ov tail = none := by
  simp only [stepFields, skipOf_of_unknown h, ite_self]

end

/-! ## A step record (R196) -/

section
variable {k b1 b2 b3 d0 d1 d2 d3 o0 o1 t0 t1 : Byte}

theorem readStep_of_kind (h : 1 ≤ k.toNat ∧ k.toNat ≤ 8) :
    readStep [k, b1, b2, b3, d0, d1, d2, d3, o0, o1, t0, t1] =
      match stepFields k.toNat b1.toNat b2.toNat b3.toNat (beNat [d0, d1, d2, d3]) (beNat [o0, o1]) (beNat [t0, t1]) with
      | some s => .step s
      | none => .badField := by
  simp only [readStep, if_pos h] <;> rfl

theorem readStep_of_unknown (h : k.toNat < 1 ∨ 8 < k.toNat) :
    readStep [k, b1, b2, b3, d0, d1, d2, d3, o0, o1, t0, t1] = .badKind := by
  rw [readStep, if_neg (by omega)]

theorem readStep_of_some {p : ProgStep} (hkind : 1 ≤ k.toNat ∧ k.toNat ≤ 8)
    (h : stepFields k.toNat b1.toNat b2.toNat b3.toNat (beNat [d0, d1, d2, d3]) (beNat [o0, o1]) (beNat [t0, t1]) = some p) :
    readStep [k, b1, b2, b3, d0, d1, d2, d3, o0, o1, t0, t1] = .step p := by
  rw [readStep_of_kind hkind, h]

theorem readStep_of_none (hkind : 1 ≤ k.toNat ∧ k.toNat ≤ 8)
    (h : stepFields k.toNat b1.toNat b2.toNat b3.toNat (beNat [d0, d1, d2, d3]) (beNat [o0, o1]) (beNat [t0, t1]) = none) :
    readStep [k, b1, b2, b3, d0, d1, d2, d3, o0, o1, t0, t1] = .badField := by
  rw [readStep_of_kind hkind, h]

/-- A kind whose fields are one test: its step, or a bad field. -/
theorem readStep_of_test {C : Prop} [Decidable C] {p : ProgStep} (hkind : 1 ≤ k.toNat ∧ k.toNat ≤ 8)
    (h : stepFields k.toNat b1.toNat b2.toNat b3.toNat (beNat [d0, d1, d2, d3]) (beNat [o0, o1]) (beNat [t0, t1])
      = if C then some p else none) :
    (C → readStep [k, b1, b2, b3, d0, d1, d2, d3, o0, o1, t0, t1] = .step p)
      ∧ (¬ C → readStep [k, b1, b2, b3, d0, d1, d2, d3, o0, o1, t0, t1] = .badField) := by
  rw [readStep_of_kind hkind, h]
  exact ⟨fun hC => by rw [if_pos hC], fun hC => by rw [if_neg hC]⟩

end

/-! ## The load number (R62) -/

theorem nextLoadNumber_eq (n : Nat) : nextLoadNumber n = if n = 65535 then 1 else n + 1 := rfl

theorem nextLoadNumber_bounds (n : Nat) : 1 ≤ nextLoadNumber n ∧ (n ≤ 65535 → nextLoadNumber n ≤ 65535) := by
  rw [nextLoadNumber_eq]
  split_ifs <;> omega

/-- The numbers that follow one, the count beginning again at 1 past the highest. -/
theorem iterate_nextLoadNumber (n : Nat) {i : Nat} (hi : i < 65535) :
    nextLoadNumber^[i] n = if n ≤ 65535 ∧ 65535 < n + i then n + i - 65535 else n + i := by
  induction i with
  | zero => simp
  | succ i ih =>
    rw [Function.iterate_succ_apply', ih (by omega), nextLoadNumber_eq]
    split_ifs <;> omega

/-- Nine numbers that follow one are distinct. -/
theorem nodup_nextLoadNumbers (n : Nat) : ((List.range 9).map fun i => nextLoadNumber^[i + 1] n).Nodup := by
  refine List.Nodup.map_on (fun i hi j hj hsame => ?_) List.nodup_range
  have hi' := List.mem_range.mp hi
  have hj' := List.mem_range.mp hj
  rw [iterate_nextLoadNumber n (by omega), iterate_nextLoadNumber n (by omega)] at hsame
  split_ifs at hsame <;> omega

section
variable {queue : List Piece} {n : Nat}

theorem freshLoadNumber_of_free (k : Nat) (h : ∀ p ∈ queue, p.load ≠ nextLoadNumber n) :
    freshLoadNumber queue k n = nextLoadNumber n := by
  cases k with
  | zero => rfl
  | succ k =>
    have hfree : ¬ queue.any (fun p => p.load == nextLoadNumber n) = true := by simpa using h
    rw [freshLoadNumber, if_neg hfree]

/-- Where the number found is carried, so are all those passed over. -/
theorem carried_of_freshLoadNumber {k : Nat} (h : ∃ p ∈ queue, p.load = freshLoadNumber queue k n) :
    ∀ i ≤ k, nextLoadNumber^[i + 1] n ∈ queue.map (·.load) := by
  induction k generalizing n with
  | zero =>
    intro i hi
    obtain rfl : i = 0 := by omega
    exact List.mem_map.mpr h
  | succ k ih =>
    by_cases hused : ∃ p ∈ queue, p.load = nextLoadNumber n
    · have hany : queue.any (fun p => p.load == nextLoadNumber n) = true := by simpa using hused
      rw [freshLoadNumber, if_pos hany] at h
      intro i hi
      cases i with
      | zero => exact List.mem_map.mpr hused
      | succ i =>
        rw [Function.iterate_succ_apply]
        exact ih h i (by omega)
    · have hfree : ∀ p ∈ queue, p.load ≠ nextLoadNumber n := fun p hp hload => hused ⟨p, hp, hload⟩
      rw [freshLoadNumber_of_free _ hfree] at h
      exact absurd h hused

/-- Of nine numbers one is free where at most eight pieces wait. -/
theorem freshLoadNumber_free (h : queue.length ≤ 8) : ∀ p ∈ queue, p.load ≠ freshLoadNumber queue 8 n := by
  intro p hp hload
  have hcarried := carried_of_freshLoadNumber ⟨p, hp, hload⟩
  have hsubset : ((List.range 9).map fun i => nextLoadNumber^[i + 1] n) ⊆ queue.map (·.load) := by
    intro m hm
    obtain ⟨i, hi, rfl⟩ := List.mem_map.mp hm
    exact hcarried i (by have := List.mem_range.mp hi; omega)
  have hlength := ((nodup_nextLoadNumbers n).subperm hsubset).length_le
  simp only [List.length_map, List.length_range] at hlength
  omega

theorem freshLoadNumber_bounds (queue : List Piece) (k n : Nat) :
    1 ≤ freshLoadNumber queue k n ∧ (n ≤ 65535 → freshLoadNumber queue k n ≤ 65535) := by
  induction k generalizing n with
  | zero => exact nextLoadNumber_bounds n
  | succ k ih =>
    obtain ⟨hnext, hnext'⟩ := nextLoadNumber_bounds n
    rw [freshLoadNumber]
    split_ifs
    · exact ⟨(ih _).1, fun hn => (ih _).2 (hnext' hn)⟩
    · exact ⟨hnext, hnext'⟩

end

/-! ## JOB_LOAD (R17, R19) -/

theorem loadArgsOk_iff {job lot stock : Nat} :
    loadArgsOk job lot stock = true ↔ 1 ≤ job ∧ job ≤ 999 ∧ 1 ≤ lot ∧ lot ≤ 9999 ∧ 1 ≤ stock ∧ stock ≤ 63 := by
  simp only [loadArgsOk, Bool.and_eq_true, decide_eq_true_eq, and_assoc]

theorem jobLoadRequest_eq (job lot stock : Nat) (b : Blocks) :
    jobLoadRequest job lot stock b =
      if b.seq.state ≠ .idle ∧ b.seq.state ≠ .finished then answer .refusedState .nothing b
      else if b.msu.mode = .standby then answer .refusedMode .nothing b
      else if ¬ (1 ≤ job ∧ job ≤ 999 ∧ 1 ≤ lot ∧ lot ≤ 9999 ∧ 1 ≤ stock ∧ stock ≤ 63) then answer .badArgument .nothing b
      else if b.lib.state = .closed then answer .libraryClosed .nothing b
      else if b.lib.state = .compacting then answer .busy .nothing b
      else
        match gatherJob job stock b.lib with
        | .fails st r => answer st r b
        | .got snap => answer .ok .nothing (jobLoaded job lot stock snap b) := by
  unfold jobLoadRequest
  refine if_congr not_or rfl (if_congr Iff.rfl rfl (if_congr ?_ rfl ?_))
  · rw [Bool.not_eq_true', ← Bool.not_eq_true, loadArgsOk_iff]
  · cases b.lib.state with
    | closed => rfl
    | compacting => rfl
    | opened => cases gatherJob job stock b.lib <;> rfl

end Sys2Proof.Machine

open Sys2Proof Sys2Proof.Machine

/-- Settles O19: one equation per stage of R17; a step record's kind is one test of its fields (`readStep_of_test`). -/
theorem jobLoadJudged : Obligations.JobLoadJudged := by
  refine ⟨?gather, fun l k listed => rfl, ?subs, ?called, ?checks, ?steps, ?step, ?fields, ?loads, ?load⟩
  case gather =>
    intro job stock l
    refine ⟨fun h => gatherJob_of_job_fails (loadJob_of_missing h),
      fun r f h hf => gatherJob_of_job_fails (loadJob_of_defective h hf), fun r h hf => ?_⟩
    have hjob := loadJob_of_sound h hf
    refine ⟨fun hs => gatherJob_of_stock_fails hjob (loadStock_of_missing hs),
      fun k hs hbody => gatherJob_of_stock_fails hjob (loadStock_of_defective hs hbody), fun k f hs hbody hrange => ?_⟩
    have hstock := loadStock_of_sound hs hbody hrange
    exact ⟨fun st e hsubs => gatherJob_of_subs_fail hjob hstock hsubs, fun subs hsubs => gatherJob_of_subs hjob hstock hsubs⟩
  case subs =>
    refine fun l k n rest listed => ⟨loadSubs_of_missing, fun r f => loadSubs_of_defective, fun r h hf => ?_⟩
    exact ⟨fun st e hrest => (loadSubs_of_sound h hf).trans (by rw [hrest]),
      fun others hrest => (loadSubs_of_sound h hf).trans (by rw [hrest])⟩
  case called =>
    refine fun steps listed => ⟨fun n => ?_, nodup_calledSubs steps listed, calledSubs_sublist steps listed⟩
    rw [mem_calledSubs]
    refine and_congr_right fun _ => ?_
    constructor
    · rintro ⟨s, hs, hcalled⟩
      obtain ⟨count, own, rfl⟩ := calledBy_eq_some.mp hcalled
      exact ⟨count, own, hs⟩
    · rintro ⟨count, own, hs⟩
      exact ⟨_, hs, rfl⟩
  case checks =>
    intro key body figure named header steps
    have hheader (hlong : 28 ≤ body.length) : headerOk (readHeader body) key = true ↔ header := by
      refine headerOk_iff.trans ?_
      rw [show (readHeader body).name = (body.drop 2).take 16 from rfl, nameField_iff hlong]
      exact Iff.rfl
    refine ⟨⟨rfl, rfl⟩, checkJob_of_length, fun hlong hwhole => ⟨checkJob_of_stepCount hlong hwhole,
      fun hfirst hlast hbad => ?_, fun hfirst hlast hok => ?_⟩, checkSub_of_length,
      fun hwhole => ⟨checkSub_of_stepCount hwhole, checkSub_of_steps hwhole⟩, length_stepRecords body,
      fun i hi => getElem?_stepRecords hi, rfl⟩
    · rw [checkJob_of_steps hlong hwhole hfirst hlast,
        if_pos (Bool.eq_false_iff.mpr fun htrue => hbad ((hheader hlong).mp htrue))]
    · rw [checkJob_of_steps hlong hwhole hfirst hlast, (hheader hlong).mpr hok, if_neg Bool.noConfusion]
  case steps => exact fun isJob i r rest => ⟨rfl, rfl⟩
  case step =>
    exact fun isJob left r => ⟨fun h => by rw [checkStep, h], fun h => by rw [checkStep, h], fun p h => checkStep_of_step h⟩
  case fields =>
    intro k b1 b2 b3 d0 d1 d2 d3 o0 o1 t0 t1 figure pressure own unused pressed read
    refine ⟨readStep_of_unknown, ?cut, ?cutBad, ?turn, ?plain, ?pause, ?call, ?skip, ?skipBad⟩
    case cut =>
      rintro rfl m hmode h2 h2' h3 hfigure hpressed hunused
      have hfields := stepFields_cut (m := m) hmode h2 h2' h3 hfigure hpressed hunused
      rw [toNat_beq_one] at hfields
      exact readStep_of_some (by decide) hfields
    case cutBad =>
      rintro rfl hbad
      exact readStep_of_none (by decide) (stepFields_cut_of_not hbad)
    case turn =>
      rintro rfl
      exact readStep_of_test (by decide) (if_congr (by rw [toNat_eq_zero, toNat_eq_zero]) rfl rfl)
    case plain =>
      rintro (rfl | rfl | rfl)
      all_goals
        exact readStep_of_test (by decide)
          (if_congr (by rw [toNat_eq_zero, toNat_eq_zero, toNat_eq_zero]) rfl rfl)
    case pause =>
      rintro rfl
      exact readStep_of_test (by decide) (if_congr (by rw [toNat_eq_zero, toNat_eq_zero]) rfl rfl)
    case call =>
      rintro rfl
      exact readStep_of_test (by decide)
        (stepFields_call.trans (if_congr (by rw [toNat_eq_zero]) rfl rfl))
    case skip =>
      rintro rfl c hcond top
      exact readStep_of_test (by decide)
        ((stepFields_skip (c := c) hcond).trans (if_congr (by rw [toNat_eq_zero, toNat_eq_zero] <;> exact Iff.rfl) rfl rfl))
    case skipBad =>
      rintro rfl hcond
      exact readStep_of_none (by decide) (stepFields_skip_of_unknown hcond)
  case loads =>
    exact fun queue n => ⟨freshLoadNumber_of_free 8, fun h => ⟨freshLoadNumber_free h, freshLoadNumber_bounds queue 8 n⟩⟩
  case load =>
    exact fun job lot stock s h => (run_asRequest h).trans (next_act_congr s fun b => jobLoadRequest_eq job lot stock b)

end

section
/-! SUPPORT. The opening of the chain (R169): what each unit's part leaves and makes, in the order of the units. -/

set_option Elab.async false

namespace Sys2Proof.Machine

open Sys2Proof

/-! ## Pending flags stay raised -/

/-- Every flag raised in one block is raised in the other. -/
def FlagsUp (b c : Blocks) : Prop := ∀ k, b.lnk.flags.get k = true → c.lnk.flags.get k = true

theorem FlagsUp.refl (b : Blocks) : FlagsUp b b := fun _ => id

theorem FlagsUp.trans {b c d : Blocks} (h : FlagsUp b c) (h' : FlagsUp c d) : FlagsUp b d := fun k => h' k ∘ h k

theorem FlagsUp.of_lnk {b c : Blocks} (h : c.lnk = b.lnk) : FlagsUp b c := fun k hk => by rw [h]; exact hk

theorem flagsUp_raise (k : NoticeKind) (b : Blocks) : FlagsUp b (raise k b) := by
  intro k' hk'
  by_cases hsame : k' = k
  · subst hsame
    exact Flags.get_set_same _ _ _
  · exact (Flags.get_set_other _ hsame _).trans hk'

/-! ## A hold leaves MSU and the chain's switch -/

/-- MSU and the level of the chain. -/
def chainPart (b : Blocks) : Msu × Bool := (b.msu, b.inputs.chainClosed)

section
variable (b : Blocks)

@[simp] theorem chainPart_setSeq (f) : chainPart (setSeq f b) = chainPart b := (rfl)
@[simp] theorem chainPart_setRun (f) : chainPart (setRun f b) = chainPart b := (rfl)
@[simp] theorem chainPart_setGax (f) : chainPart (setGax f b) = chainPart b := (rfl)
@[simp] theorem chainPart_setCku (f) : chainPart (setCku f b) = chainPart b := (rfl)
@[simp] theorem chainPart_setTrn (f) : chainPart (setTrn f b) = chainPart b := (rfl)
@[simp] theorem chainPart_setBlock (k) : chainPart (setBlock k b) = chainPart b := (rfl)
@[simp] theorem chainPart_raise (k) : chainPart (raise k b) = chainPart b := (rfl)

@[simp] theorem chainPart_flapClose : chainPart (flapClose b) = chainPart b := by
  unfold flapClose
  repeat' split
  all_goals rfl

@[simp] theorem chainPart_manualEnds (completed : Bool) : chainPart (manualEnds completed b) = chainPart b := (rfl)

@[simp] theorem chainPart_ckuResetEnds : chainPart (ckuResetEnds b) = chainPart b := by
  unfold ckuResetEnds
  split <;> rfl

@[simp] theorem chainPart_ckuOpened : chainPart (ckuOpened b) = chainPart b := by
  simp only [ckuOpened, chainPart_ckuResetEnds]
  repeat' split
  all_goals simp

@[simp] theorem chainPart_ckuRelease : chainPart (ckuRelease b) = chainPart b := by
  unfold ckuRelease
  split <;> simp

@[simp] theorem chainPart_ckuRest : chainPart (ckuRest b) = chainPart b := by
  simp only [ckuRest, askRest, reverse, recordReversal, beginGap, markPartialCut, knifeReturnStops]
  repeat' split
  all_goals simp

@[simp] theorem chainPart_heldRelease : chainPart (heldRelease b) = chainPart b := by
  simp only [heldRelease]
  repeat' split
  all_goals simp

@[simp] theorem chainPart_ckuToRest : chainPart (ckuToRest b) = chainPart b := by
  simp only [ckuToRest]
  split <;> simp

@[simp] theorem chainPart_gaxStopped : chainPart (gaxStopped b) = chainPart b := by
  rw [gaxStopped_eq]
  rfl

@[simp] theorem chainPart_gaxStop : chainPart (gaxStop b) = chainPart b := by
  simp only [gaxStop, gaxDecelerate]
  repeat' split
  all_goals simp

@[simp] theorem chainPart_gaxRest : chainPart (gaxRest b) = chainPart b := by
  simp only [gaxRest]
  split <;> simp

@[simp] theorem chainPart_trnRest : chainPart (trnRest b) = chainPart b := by
  simp only [trnRest, turnToRest, trnRelease, turnAskRest]
  repeat' split
  all_goals simp

@[simp] theorem chainPart_unitsToRest : chainPart (unitsToRest b) = chainPart b := by simp [unitsToRest]

@[simp] theorem chainPart_holdCause (cause : HoldCause) : chainPart (holdCause cause b) = chainPart b := by
  simp only [holdCause, enterHeld, furtherCause]
  split <;> simp

end

/-! ## SEQ at the opening of the chain -/

/-- A unit other than SEQ, and everything but the pending flags, stands. -/
theorem holdEstop_keeps (b : Blocks) :
    (holdEstop b).inputs = b.inputs ∧ (holdEstop b).msu = b.msu ∧ (holdEstop b).trk = b.trk ∧ (holdEstop b).gax = b.gax
      ∧ (holdEstop b).cku = b.cku ∧ (holdEstop b).trn = b.trn ∧ (holdEstop b).lft = b.lft ∧ (holdEstop b).jog = b.jog
      ∧ (holdEstop b).lib = b.lib ∧ (holdEstop b).clock = b.clock ∧ FlagsUp b (holdEstop b) := by
  unfold holdEstop
  split
  · exact ⟨rfl, rfl, rfl, rfl, rfl, rfl, rfl, rfl, rfl, rfl, (flagsUp_raise .hold _).trans (flagsUp_raise .sequence _)⟩
  · exact ⟨rfl, rfl, rfl, rfl, rfl, rfl, rfl, rfl, rfl, rfl, flagsUp_raise .hold _⟩
  · exact ⟨rfl, rfl, rfl, rfl, rfl, rfl, rfl, rfl, rfl, rfl, .refl b⟩

theorem holdEstop_of_running {b : Blocks} (h : b.seq.state = .running) : holdEstop b = enterHeld .estop b := by
  rw [holdEstop, h]

theorem holdEstop_of_held {b : Blocks} (h : b.seq.state = .held) : holdEstop b = furtherCause b := by
  rw [holdEstop, h]

theorem holdEstop_of_other {b : Blocks} (hrunning : b.seq.state ≠ .running) (hheld : b.seq.state ≠ .held) :
    holdEstop b = b := by
  unfold holdEstop
  split
  · exact absurd ‹_› hrunning
  · exact absurd ‹_› hheld
  · rfl

theorem holdEstop_not_running (b : Blocks) : (holdEstop b).seq.state ≠ .running := by
  unfold holdEstop
  split
  · exact nofun
  · rw [furtherCause]
    simp [*]
  · assumption

/-! ## JOG at the opening of the chain (R164) -/

theorem jogFault_lnk (code : JogFault) (b : Blocks) : FlagsUp b (jogFault code b) := by
  unfold jogFault
  split_ifs
  · exact .refl b
  · exact flagsUp_raise .feed _

theorem jogEstop_keeps (b : Blocks) :
    (jogEstop b).inputs = b.inputs ∧ (jogEstop b).msu = b.msu ∧ (jogEstop b).seq = b.seq ∧ (jogEstop b).trk = b.trk
      ∧ (jogEstop b).gax = b.gax ∧ (jogEstop b).cku = b.cku ∧ (jogEstop b).trn = b.trn ∧ (jogEstop b).lft = b.lft
      ∧ (jogEstop b).lib = b.lib ∧ (jogEstop b).clock = b.clock ∧ FlagsUp b (jogEstop b)
      ∧ (jogEstop b).jog.state ≠ .transferring := by
  unfold jogEstop
  split
  case h_1 =>
    rw [pauseRepeat_eq]
    refine ⟨rfl, rfl, rfl, rfl, rfl, rfl, rfl, rfl, rfl, rfl, .refl b, ?_⟩
    dsimp only
    split_ifs <;> exact nofun
  case h_2 h =>
    rw [jogFault, if_neg (by simp [h])]
    exact ⟨rfl, rfl, rfl, rfl, rfl, rfl, rfl, rfl, rfl, rfl, flagsUp_raise .feed _, nofun⟩
  case h_3 h =>
    split_ifs
    · exact ⟨rfl, rfl, rfl, rfl, rfl, rfl, rfl, rfl, rfl, rfl, .refl b, by simp [setJog, h]⟩
    · exact ⟨rfl, rfl, rfl, rfl, rfl, rfl, rfl, rfl, rfl, rfl, .refl b, by simp [h]⟩
  case h_4 h =>
    split_ifs
    · exact ⟨rfl, rfl, rfl, rfl, rfl, rfl, rfl, rfl, rfl, rfl, .refl b, by simp [setJog, h]⟩
    · exact ⟨rfl, rfl, rfl, rfl, rfl, rfl, rfl, rfl, rfl, rfl, .refl b, by simp [h]⟩
  case h_5 h => exact ⟨rfl, rfl, rfl, rfl, rfl, rfl, rfl, rfl, rfl, rfl, .refl b, by simp [h]⟩
  case h_6 h => exact ⟨rfl, rfl, rfl, rfl, rfl, rfl, rfl, rfl, rfl, rfl, .refl b, by simp [h]⟩

theorem jogEstop_of_transferring {b : Blocks} (h : b.jog.state = .transferring) :
    (jogEstop b).jog.state = .fault ∧ (jogEstop b).jog.fault = some .chainOpened ∧ (jogEstop b).lnk.flags.feed = true := by
  have hfault : jogEstop b = jogFault .chainOpened b := by rw [jogEstop, h]
  rw [hfault, jogFault, if_neg (by simp [h])]
  exact ⟨rfl, rfl, rfl⟩

/-- A void jog discards its record, and a repeated one waits for the feed pause. -/
theorem jogEstop_of_jogging {b : Blocks} (h : b.jog.state = .jogging) :
    (jogEstop b).jog.state = .receiving ∧ (jogEstop b).jog.record = none ∧ (jogEstop b).jog.retries = b.jog.retries
      ∧ ((jogEstop b).jog.repeatWaiting = true ↔
        b.jog.repeatWaiting = true ∨ (b.lft.feedPaused = true ∧ 0 < b.jog.retries)) := by
  have hvoid : jogEstop b =
      pauseRepeat { b with jog := { b.jog with state := .receiving, record := none, deadline := none } } := by
    rw [jogEstop, h] <;> rfl
  rw [hvoid, pauseRepeat_eq]
  dsimp only
  by_cases hpaused : b.lft.feedPaused = true ∧ 0 < b.jog.retries
  · rw [if_pos ⟨hpaused.1, rfl, hpaused.2⟩]
    exact ⟨rfl, rfl, rfl, by simp [hpaused]⟩
  · rw [if_neg fun hall => hpaused ⟨hall.1, hall.2.2⟩]
    exact ⟨rfl, rfl, rfl, by simp [hpaused]⟩

theorem jogEstop_of_waiting {b : Blocks} (h : b.jog.state = .empty ∨ b.jog.state = .receiving) :
    (jogEstop b).jog = if b.jog.carriageReturning = true ∨ b.jog.resetting = true then
      { b.jog with suspended := b.jog.deadline.map fun d => d - b.clock, deadline := none } else b.jog := by
  have hsuspends : jogEstop b = if b.jog.carriageReturning = true ∨ b.jog.resetting = true then
      setJog (fun j => { j with suspended := j.deadline.map fun t => t - b.clock, deadline := none }) b else b := by
    rcases h with h | h <;> rw [jogEstop, h]
  rw [hsuspends]
  split_ifs <;> rfl

theorem jogEstop_of_still {b : Blocks} (h : b.jog.state = .aligned ∨ b.jog.state = .fault) : jogEstop b = b := by
  rcases h with h | h <;> rw [jogEstop, h]

/-! ## GAX at the opening of the chain (R101) -/

/-- The axis at rest with no drive: a motion is over, its move void. -/
def stilled (g : Gax) : Gax :=
  if g.state = .moving ∨ g.state = .settling ∨ g.state = .homing then
    { g with
      state := if g.referenced then .standstill else .unreferenced,
      start := if g.referenced then .estimate else .none, move := g.move.map MoveRecord.voided,
      inPosition := false, stopping := false, finalSettling := false, drive := false, driveCount := none, pending := none,
      deadline := none }
  else { g with drive := false, driveCount := none, pending := none }

theorem voided_voided (m : MoveRecord) : m.voided.voided = m.voided := by
  unfold MoveRecord.voided
  by_cases h : m.completed = none <;> simp [h]

theorem map_voided_voided (m : Option MoveRecord) :
    (m.map MoveRecord.voided).map MoveRecord.voided = m.map MoveRecord.voided := by
  rw [Option.map_map, show MoveRecord.voided ∘ MoveRecord.voided = MoveRecord.voided from funext voided_voided]

/-- The drive is disabled, with notice GAUGE. -/
def driveOff (b : Blocks) : Blocks :=
  raiseIf b.gax.drive .gauge { b with gax := { b.gax with drive := false, driveCount := none, pending := none } }

theorem gaxEstop_eq (b : Blocks) :
    gaxEstop b = if b.gax.state = .moving ∨ b.gax.state = .settling ∨ b.gax.state = .homing then gaxStopped (driveOff b)
      else driveOff b := by
  unfold gaxEstop
  cases h : b.gax.state <;> simp <;> rfl

theorem driveOff_keeps (b : Blocks) :
    (driveOff b).inputs = b.inputs ∧ (driveOff b).msu = b.msu ∧ (driveOff b).seq = b.seq ∧ (driveOff b).trk = b.trk
      ∧ (driveOff b).cku = b.cku ∧ (driveOff b).trn = b.trn ∧ (driveOff b).lft = b.lft ∧ (driveOff b).jog = b.jog
      ∧ (driveOff b).lib = b.lib ∧ (driveOff b).clock = b.clock ∧ FlagsUp b (driveOff b)
      ∧ (driveOff b).gax = { b.gax with drive := false, driveCount := none, pending := none }
      ∧ (b.gax.drive = true → (driveOff b).lnk.flags.gauge = true) := by
  unfold driveOff
  cases hdrive : b.gax.drive
  · exact ⟨rfl, rfl, rfl, rfl, rfl, rfl, rfl, rfl, rfl, rfl, .refl b, rfl, nofun⟩
  · exact ⟨rfl, rfl, rfl, rfl, rfl, rfl, rfl, rfl, rfl, rfl, flagsUp_raise .gauge _, rfl, fun _ => rfl⟩

theorem gaxStopped_keeps (b : Blocks) :
    (gaxStopped b).inputs = b.inputs ∧ (gaxStopped b).msu = b.msu ∧ (gaxStopped b).seq = b.seq ∧ (gaxStopped b).trk = b.trk
      ∧ (gaxStopped b).cku = b.cku ∧ (gaxStopped b).trn = b.trn ∧ (gaxStopped b).lft = b.lft ∧ (gaxStopped b).jog = b.jog
      ∧ (gaxStopped b).lib = b.lib ∧ (gaxStopped b).clock = b.clock ∧ FlagsUp b (gaxStopped b)
      ∧ (gaxStopped b).lnk.flags.gauge = true := by
  rw [gaxStopped_eq]
  exact ⟨rfl, rfl, rfl, rfl, rfl, rfl, rfl, rfl, rfl, rfl, flagsUp_raise .gauge _, rfl⟩

theorem gaxEstop_keeps (b : Blocks) :
    (gaxEstop b).inputs = b.inputs ∧ (gaxEstop b).msu = b.msu ∧ (gaxEstop b).seq = b.seq ∧ (gaxEstop b).trk = b.trk
      ∧ (gaxEstop b).cku = b.cku ∧ (gaxEstop b).trn = b.trn ∧ (gaxEstop b).lft = b.lft ∧ (gaxEstop b).jog = b.jog
      ∧ (gaxEstop b).lib = b.lib ∧ (gaxEstop b).clock = b.clock ∧ FlagsUp b (gaxEstop b)
      ∧ (b.gax.drive = true → (gaxEstop b).lnk.flags.gauge = true) := by
  obtain ⟨hi, hm, hs, ht, hc, hn, hl, hj, hb, hk, hf, -, hd⟩ := driveOff_keeps b
  rw [gaxEstop_eq]
  split_ifs
  · obtain ⟨hi', hm', hs', ht', hc', hn', hl', hj', hb', hk', hf', hd'⟩ := gaxStopped_keeps (driveOff b)
    exact ⟨hi'.trans hi, hm'.trans hm, hs'.trans hs, ht'.trans ht, hc'.trans hc, hn'.trans hn, hl'.trans hl, hj'.trans hj,
      hb'.trans hb, hk'.trans hk, hf.trans hf', fun _ => hd'⟩
  · exact ⟨hi, hm, hs, ht, hc, hn, hl, hj, hb, hk, hf, hd⟩

theorem gax_gaxEstop {b : Blocks} (h : b.msu.phase = .ended) : (gaxEstop b).gax = stilled b.gax := by
  obtain ⟨-, hmsu, -, -, -, -, -, -, -, -, -, hgax, -⟩ := driveOff_keeps b
  have hnot : ¬ ((driveOff b).gax.stopping = true ∧ (driveOff b).msu.phase ≠ .ended) := by simp [hmsu, h]
  rw [gaxEstop_eq]
  unfold stilled
  by_cases hmotion : b.gax.state = .moving ∨ b.gax.state = .settling ∨ b.gax.state = .homing
  · rw [if_pos hmotion, if_pos hmotion, gaxStopped_eq, if_neg hnot, hgax] <;> rfl
  · rw [if_neg hmotion, if_neg hmotion, hgax]

/-- After the opening the axis stands without a drive, in start-up too. -/
theorem gaxEstop_still {b : Blocks} (h : b.msu.estop ≠ .chainOk) :
    (gaxEstop b).gax.drive = false ∧ (gaxEstop b).gax.pending = none ∧ (gaxEstop b).gax.state ≠ .moving
      ∧ (gaxEstop b).gax.state ≠ .settling ∧ (gaxEstop b).gax.state ≠ .homing := by
  obtain ⟨-, hmsu, -, -, -, -, -, -, -, -, -, hgax, -⟩ := driveOff_keeps b
  rw [gaxEstop_eq]
  by_cases hmotion : b.gax.state = .moving ∨ b.gax.state = .settling ∨ b.gax.state = .homing
  · rw [if_pos hmotion, gaxStopped_eq]
    by_cases hrestart : (driveOff b).gax.stopping = true ∧ (driveOff b).msu.phase ≠ .ended
    · rw [if_pos hrestart]
      exact ⟨by simp [hmsu, h], rfl, nofun, nofun, nofun⟩
    · rw [if_neg hrestart, hgax]
      refine ⟨rfl, rfl, ?_⟩
      dsimp only [gax_raise]
      split_ifs <;> exact ⟨nofun, nofun, nofun⟩
  · obtain ⟨hmoving, hsettling, hhoming⟩ : b.gax.state ≠ .moving ∧ b.gax.state ≠ .settling ∧ b.gax.state ≠ .homing := by
      simpa [not_or] using hmotion
    rw [if_neg hmotion, hgax]
    exact ⟨rfl, rfl, hmoving, hsettling, hhoming⟩

/-! ## The interlock stop before it (R93) -/

theorem gaxDecelerate_eq (b : Blocks) :
    gaxDecelerate b = { b with gax := { b.gax with
      state := .moving, move := b.gax.move.map MoveRecord.voided, stopping := true, driveCount := none,
      deadline := some (b.clock + 800) } } := rfl

theorem stilled_of_slowed {g : Gax} {st : GaxState} (hmotion : g.state = .moving ∨ g.state = .homing) (hst : st = .moving)
    (pending : Option PendingMove) (d : Option Ms) :
    stilled { g with state := st, pending := pending, move := g.move.map MoveRecord.voided, stopping := true,
                     driveCount := none, deadline := d } = stilled g := by
  unfold stilled
  rw [if_pos (.inl hst), if_pos (show g.state = .moving ∨ g.state = .settling ∨ g.state = .homing by tauto)]
  dsimp only
  rw [map_voided_voided]

/-- An interlock stop that the opening overtakes changes nothing of the axis at rest. -/
theorem stilled_gaxInterlock {b : Blocks} (h : b.msu.phase = .ended) : stilled (gaxInterlock b).gax = stilled b.gax := by
  have hstopped (c : Blocks) (hc : c.msu.phase = .ended) (hmotion : c.gax.state = .settling ∨ c.gax.state = .homing) :
      stilled (gaxStopped c).gax = stilled c.gax := by
    have hnot : ¬ (c.gax.stopping = true ∧ c.msu.phase ≠ .ended) := by simp [hc]
    rw [gaxStopped_eq, if_neg hnot]
    unfold stilled
    rw [if_pos (show c.gax.state = .moving ∨ c.gax.state = .settling ∨ c.gax.state = .homing from .inr hmotion)]
    refine if_neg ?_
    dsimp only [gax_raise]
    split_ifs <;> simp
  cases hstate : b.gax.state
  case moving =>
    rw [gaxInterlock_of_moving hstate]
    split_ifs
    · rfl
    · exact stilled_of_slowed (.inl hstate) hstate _ _
  case settling =>
    rw [gaxInterlock_of_settling hstate]
    exact hstopped { b with gax := { b.gax with pending := pendingAgain b } } h (.inl hstate)
  case homing =>
    rw [gaxInterlock_of_homing hstate, gaxStop_of_homing hstate]
    split_ifs
    · rfl
    · exact hstopped b h (.inr hstate)
    · exact stilled_of_slowed (.inr hstate) rfl b.gax.pending _
  all_goals rw [gaxInterlock_of_still (by simp [hstate]) (by simp [hstate]) (by simp [hstate])]

/-! ## TRN at the opening of the chain (R137) -/

/-- An interlock stop is GAX's alone; with the drive taken away it has its notice. -/
theorem gaxInterlock_cases (b : Blocks) :
    (∃ g, g.drive = b.gax.drive ∧ gaxInterlock b = { b with gax := g })
      ∨ ∃ g, gaxInterlock b = raise .gauge { b with gax := g } := by
  have hstopped (c : Blocks) : ∃ g, gaxStopped c = raise .gauge { c with gax := g } := ⟨_, gaxStopped_eq c⟩
  cases hstate : b.gax.state
  case moving =>
    rw [gaxInterlock_of_moving hstate]
    split_ifs
    · exact .inl ⟨b.gax, rfl, rfl⟩
    · exact .inr ⟨_, rfl⟩
  case settling =>
    rw [gaxInterlock_of_settling hstate]
    exact .inr (hstopped _)
  case homing =>
    rw [gaxInterlock_of_homing hstate, gaxStop_of_homing hstate]
    split_ifs
    · exact .inl ⟨b.gax, rfl, rfl⟩
    · exact .inr (hstopped b)
    · exact .inl ⟨(gaxDecelerate b).gax, rfl, rfl⟩
  all_goals
    rw [gaxInterlock_of_still (by simp [hstate]) (by simp [hstate]) (by simp [hstate])]
    exact .inl ⟨b.gax, rfl, rfl⟩

theorem gaxInterlock_keeps (b : Blocks) :
    (gaxInterlock b).inputs = b.inputs ∧ (gaxInterlock b).msu = b.msu ∧ (gaxInterlock b).seq = b.seq
      ∧ (gaxInterlock b).trk = b.trk ∧ (gaxInterlock b).cku = b.cku ∧ (gaxInterlock b).trn = b.trn
      ∧ (gaxInterlock b).lft = b.lft ∧ (gaxInterlock b).jog = b.jog ∧ (gaxInterlock b).lib = b.lib
      ∧ (gaxInterlock b).clock = b.clock ∧ FlagsUp b (gaxInterlock b)
      ∧ (b.gax.drive = true → (gaxInterlock b).gax.drive = true ∨ (gaxInterlock b).lnk.flags.gauge = true) := by
  rcases gaxInterlock_cases b with ⟨g, hdrive, heq⟩ | ⟨g, heq⟩
  · rw [heq]
    exact ⟨rfl, rfl, rfl, rfl, rfl, rfl, rfl, rfl, rfl, rfl, .refl b, fun h => .inl (hdrive.trans h)⟩
  · rw [heq]
    exact ⟨rfl, rfl, rfl, rfl, rfl, rfl, rfl, rfl, rfl, rfl, flagsUp_raise .gauge _, fun _ => .inr rfl⟩

theorem jogWatch_of_still {b : Blocks} (h : b.jog.state ≠ .transferring) : jogWatch b = b :=
  if_neg fun hall => h hall.1

/-- A further cause in HELD; elsewhere, but for RUNNING, nothing. -/
def heldFurther (b : Blocks) : Blocks := if b.seq.state = .held then furtherCause b else b

theorem holdCause_of_not_running (cause : HoldCause) {b : Blocks} (h : b.seq.state ≠ .running) :
    holdCause cause b = heldFurther b := by
  unfold heldFurther
  by_cases hheld : b.seq.state = .held
  · rw [if_pos hheld, holdCause_of_held cause hheld]
  · rw [if_neg hheld]
    refine holdCause_of_other cause ?_
    cases hstate : b.seq.state <;> simp_all

theorem heldFurther_keeps (b : Blocks) :
    (heldFurther b).inputs = b.inputs ∧ (heldFurther b).msu = b.msu ∧ (heldFurther b).trk = b.trk
      ∧ (heldFurther b).gax = b.gax ∧ (heldFurther b).cku = b.cku ∧ (heldFurther b).trn = b.trn
      ∧ (heldFurther b).lft = b.lft ∧ (heldFurther b).jog = b.jog ∧ (heldFurther b).lib = b.lib
      ∧ (heldFurther b).clock = b.clock ∧ FlagsUp b (heldFurther b)
      ∧ (heldFurther b).seq = if b.seq.state = .held then { b.seq with hold := { b.seq.hold with more := true } } else b.seq := by
  unfold heldFurther
  split_ifs
  · exact ⟨rfl, rfl, rfl, rfl, rfl, rfl, rfl, rfl, rfl, rfl, flagsUp_raise .hold _, rfl⟩
  · exact ⟨rfl, rfl, rfl, rfl, rfl, rfl, rfl, rfl, rfl, rfl, .refl b, rfl⟩

/-- A turn is in progress: the turner faults as the chain opens. -/
abbrev TurnUnderWay (b : Blocks) : Prop := b.trn.state = .gripping ∨ b.trn.state = .turning ∨ b.trn.state = .releasing

/-- The turner's part of the opening: a fault in a turn, elsewhere the pending turn void. -/
def trnEstop (b : Blocks) : Blocks :=
  if TurnUnderWay b then trnFaults .chainOpened b else setTrn (fun t => { t with pending := none }) b

/-- The chain has opened: the state is STOPPED, with notice CELL. -/
def chainOpened (b : Blocks) : Blocks := raise .cell (setMsu (fun m => { m with estop := .stopped }) b)

theorem chainOpens_eq (b : Blocks) :
    chainOpens b = lftEstop (ckuEstop (gaxEstop (trnEstop (jogEstop (holdEstop (chainOpened b)))))) := by
  obtain ⟨-, -, -, -, -, hhold, -⟩ := holdEstop_keeps (chainOpened b)
  obtain ⟨-, -, -, -, -, -, hjog, -⟩ := jogEstop_keeps (holdEstop (chainOpened b))
  have htrn : (jogEstop (holdEstop (chainOpened b))).trn = b.trn := hjog.trans hhold
  unfold trnEstop TurnUnderWay
  rw [htrn]
  rfl

/-- What the turner's part leaves and makes, SEQ no longer running and no transfer under way. -/
structure TurnerStops (b c : Blocks) : Prop where
  inputs : c.inputs = b.inputs
  msu : c.msu = b.msu
  cku : c.cku = b.cku
  lft : c.lft = b.lft
  jog : c.jog = b.jog
  lib : c.lib = b.lib
  clock : c.clock = b.clock
  flags : FlagsUp b c
  gax : b.msu.phase = .ended → stilled c.gax = stilled b.gax
  drive : b.gax.drive = true → c.gax.drive = true ∨ c.lnk.flags.gauge = true
  trk : c.trk = if b.trn.state = .turning then
    { b.trk with block := b.trk.block.map fun k => { k with orientation := none } } else b.trk
  seq : c.seq =
    if TurnUnderWay b ∧ b.seq.state = .held then { b.seq with hold := { b.seq.hold with more := true } } else b.seq
  pending : c.trn.pending = none
  fault : TurnUnderWay b → c.trn.state = .fault ∧ c.trn.fault = some .chainOpened
  still : ¬ TurnUnderWay b → c.trn.state = b.trn.state

theorem trnEstop_stops {b : Blocks} (hseq : b.seq.state ≠ .running) (hjog : b.jog.state ≠ .transferring) :
    TurnerStops b (trnEstop b) := by
  unfold trnEstop
  by_cases hturn : TurnUnderWay b
  · have hnot : b.trn.state ≠ .fault := by
      rcases hturn with h | h | h <;> simp [h]
    rw [if_pos hturn, trnFaults_eq, if_neg hnot]
    generalize hfaulted : raise .cell _ = faulted
    obtain ⟨hi, hm, hs, ht, hc, hn, hl, hj, hb, hk, hf, hd⟩ := gaxInterlock_keeps faulted
    have hjog' : (gaxInterlock faulted).jog.state ≠ .transferring := by
      rw [hj, ← hfaulted]
      exact hjog
    have hseq' : (gaxInterlock faulted).seq.state ≠ .running := by
      rw [hs, ← hfaulted]
      exact hseq
    rw [jogWatch_of_still hjog', holdCause_of_not_running _ hseq']
    obtain ⟨hi', hm', ht', hg', hc', hn', hl', hj', hb', hk', hf', hs'⟩ := heldFurther_keeps (gaxInterlock faulted)
    subst hfaulted
    exact {
      inputs := hi'.trans hi, msu := hm'.trans hm, cku := hc'.trans hc, lft := hl'.trans hl, jog := hj'.trans hj,
      lib := hb'.trans hb, clock := hk'.trans hk, flags := ((flagsUp_raise .cell _).trans hf).trans hf',
      gax := fun hended => (congrArg stilled hg').trans (stilled_gaxInterlock hended)
      drive := fun hdrive => by
        rw [hg']
        exact (hd hdrive).imp_right fun hgauge => hf' .gauge hgauge
      trk := ht'.trans ht
      seq := by
        rw [hs', hs]
        exact if_congr (and_iff_right hturn).symm rfl rfl
      pending := by rw [hn', hn]; rfl
      fault := fun _ => by rw [hn', hn]; exact ⟨rfl, rfl⟩
      still := fun hno => absurd hturn hno }
  · rw [if_neg hturn]
    exact {
      inputs := rfl, msu := rfl, cku := rfl, lft := rfl, jog := rfl, lib := rfl, clock := rfl, flags := .refl b,
      gax := fun _ => rfl, drive := fun hdrive => .inl hdrive
      trk := (if_neg fun h => hturn (.inr (.inl h))).symm
      seq := (if_neg fun h => hturn h.1).symm
      pending := rfl, fault := fun h => absurd h hturn, still := fun _ => rfl }

/-! ## CKU at the opening of the chain (R123) -/

/-- The state in which the opening leaves CKU. -/
def estopCycle : CycleState → CycleState
  | .stroking | .gap | .returning | .knifeReturnNeeded => .knifeReturnNeeded
  | .fault => .fault
  | _ => .open_

/-- What CKU's part leaves and makes. -/
structure KnifeStops (b c : Blocks) : Prop where
  inputs : c.inputs = b.inputs
  msu : c.msu = b.msu
  seq : c.seq = b.seq
  gax : c.gax = b.gax
  trn : c.trn = b.trn
  lft : c.lft = b.lft
  jog : c.jog = b.jog
  lib : c.lib = b.lib
  clock : c.clock = b.clock
  flags : FlagsUp b c
  trk : c.trk = if b.cku.state = .stroking then
    { b.trk with block := b.trk.block.map fun k => { k with partialCut := true } } else b.trk
  cku : { c.cku with lastManual := none } = { (ckuValvesShut (estopCycle b.cku.state) b).cku with lastManual := none }

/-- The end of a manual cut or a knife return names its outcome, and a reset's end has its notice. -/
theorem ckuWorkEnds_cases (b c : Blocks) :
    ckuWorkEnds b c = c ∨ ckuWorkEnds b c = raise .knife c
      ∨ ckuWorkEnds b c = raise .knife { c with cku := { c.cku with lastManual := some false } } := by
  unfold ckuWorkEnds
  split_ifs
  · exact .inr (.inr rfl)
  · cases b.cku.resetting
    · exact .inl rfl
    · exact .inr (.inl rfl)

/-- CKU and TRK after a part of the opening that ends a cycle's work. -/
theorem ckuWorkEnds_keeps (b c : Blocks) :
    (ckuWorkEnds b c).inputs = c.inputs ∧ (ckuWorkEnds b c).msu = c.msu ∧ (ckuWorkEnds b c).seq = c.seq
      ∧ (ckuWorkEnds b c).gax = c.gax ∧ (ckuWorkEnds b c).trn = c.trn ∧ (ckuWorkEnds b c).lft = c.lft
      ∧ (ckuWorkEnds b c).jog = c.jog ∧ (ckuWorkEnds b c).lib = c.lib ∧ (ckuWorkEnds b c).clock = c.clock
      ∧ FlagsUp c (ckuWorkEnds b c) ∧ (ckuWorkEnds b c).trk = c.trk
      ∧ { (ckuWorkEnds b c).cku with lastManual := none } = { c.cku with lastManual := none } := by
  rcases ckuWorkEnds_cases b c with heq | heq | heq
  · rw [heq]
    exact ⟨rfl, rfl, rfl, rfl, rfl, rfl, rfl, rfl, rfl, .refl c, rfl, rfl⟩
  · rw [heq]
    exact ⟨rfl, rfl, rfl, rfl, rfl, rfl, rfl, rfl, rfl, flagsUp_raise .knife c, rfl, rfl⟩
  · rw [heq]
    exact ⟨rfl, rfl, rfl, rfl, rfl, rfl, rfl, rfl, rfl, flagsUp_raise .knife _, rfl, rfl⟩

theorem KnifeStops.work {b c : Blocks} (h : KnifeStops b c) : KnifeStops b (ckuWorkEnds b c) := by
  obtain ⟨hi, hm, hs, hg, hn, hl, hj, hb, hk, hf, ht, hc⟩ := ckuWorkEnds_keeps b c
  exact ⟨hi.trans h.inputs, hm.trans h.msu, hs.trans h.seq, hg.trans h.gax, hn.trans h.trn, hl.trans h.lft, hj.trans h.jog,
    hb.trans h.lib, hk.trans h.clock, h.flags.trans hf, ht.trans h.trk, hc.trans h.cku⟩

theorem KnifeStops.told {b c : Blocks} (h : KnifeStops b c) : KnifeStops b (raise .knife c) :=
  ⟨h.inputs, h.msu, h.seq, h.gax, h.trn, h.lft, h.jog, h.lib, h.clock, h.flags.trans (flagsUp_raise .knife c), h.trk, h.cku⟩

theorem knifeStops_shut {b : Blocks} {next : CycleState} (hnext : estopCycle b.cku.state = next)
    (hnot : b.cku.state ≠ .stroking) : KnifeStops b (ckuValvesShut next b) :=
  ⟨rfl, rfl, rfl, rfl, rfl, rfl, rfl, rfl, rfl, .refl b, (if_neg hnot).symm, by rw [hnext]⟩

theorem knifeStops_marked {b : Blocks} (h : b.cku.state = .stroking) :
    KnifeStops b (markPartialCut (ckuValvesShut .knifeReturnNeeded b)) :=
  ⟨rfl, rfl, rfl, rfl, rfl, rfl, rfl, rfl, rfl, .refl b, (if_pos h).symm, by rw [h]; rfl⟩

theorem ckuEstop_stops (b : Blocks) :
    KnifeStops b (ckuEstop b) ∧ (b.cku.state = .stroking ∨ b.cku.state = .gap ∨ b.cku.state = .returning →
      (ckuEstop b).lnk.flags.knife = true) := by
  unfold ckuEstop
  cases h : b.cku.state
  case stroking => exact ⟨(knifeStops_marked h).work.told, fun _ => rfl⟩
  case gap => exact ⟨(knifeStops_shut (by rw [h]; rfl) (by simp [h])).work.told, fun _ => rfl⟩
  case returning => exact ⟨(knifeStops_shut (by rw [h]; rfl) (by simp [h])).work.told, fun _ => rfl⟩
  case fault => exact ⟨knifeStops_shut (by rw [h]; rfl) (by simp [h]), by simp⟩
  case knifeReturnNeeded => exact ⟨knifeStops_shut (by rw [h]; rfl) (by simp [h]), by simp⟩
  all_goals exact ⟨(knifeStops_shut (by rw [h]; rfl) (by simp [h])).work, by simp⟩

/-- The valves, the flap and the cycle as the opening leaves them. -/
theorem KnifeStops.valves {b c : Blocks} (h : KnifeStops b c) :
    c.cku.valves = Valves.closed ∧ c.cku.cycle = none ∧ c.cku.state = estopCycle b.cku.state
      ∧ (b.cku.valves.down = true → c.cku.downClosedAt = some b.clock)
      ∧ (b.cku.valves.ret = true → c.cku.returnClosedAt = some b.clock)
      ∧ c.cku.flap = (if b.cku.flap = .opening ∨ b.cku.flap = .closing then .opened else b.cku.flap)
      ∧ c.cku.flapDeadline = none := by
  have hcku := h.cku
  generalize hd : ckuValvesShut (estopCycle b.cku.state) b = d at hcku
  have hvalves := congrArg Cku.valves hcku
  have hcycle := congrArg Cku.cycle hcku
  have hstate := congrArg Cku.state hcku
  have hdown := congrArg Cku.downClosedAt hcku
  have hret := congrArg Cku.returnClosedAt hcku
  have hflap := congrArg Cku.flap hcku
  have hflapDeadline := congrArg Cku.flapDeadline hcku
  subst hd
  exact ⟨hvalves, hcycle, hstate, fun hopen => hdown.trans (if_pos hopen), fun hopen => hret.trans (if_pos hopen), hflap,
    hflapDeadline⟩

/-! ## LFT at the opening of the chain (R153) -/

theorem lftEstop_keeps (b : Blocks) :
    (lftEstop b).inputs = b.inputs ∧ (lftEstop b).msu = b.msu ∧ (lftEstop b).seq = b.seq ∧ (lftEstop b).trk = b.trk
      ∧ (lftEstop b).gax = b.gax ∧ (lftEstop b).cku = b.cku ∧ (lftEstop b).trn = b.trn ∧ (lftEstop b).jog = b.jog
      ∧ (lftEstop b).lib = b.lib ∧ FlagsUp b (lftEstop b) := by
  unfold lftEstop
  split_ifs
  · exact ⟨rfl, rfl, rfl, rfl, rfl, rfl, rfl, rfl, rfl, flagsUp_raise .feed _⟩
  · exact ⟨rfl, rfl, rfl, rfl, rfl, rfl, rfl, rfl, rfl, .refl b⟩

theorem lftEstop_of_parting {b : Blocks} (h : b.lft.state = .parting) :
    (lftEstop b).lft = { b.lft with
        state := .fault, fault := some (b.lft.fault.getD .chainOpened), withdrawing := false, resetting := false,
        deadline := none } ∧ (lftEstop b).lnk.flags.feed = true := by
  rw [lftEstop, if_pos h, lftFault_eq]
  exact ⟨rfl, rfl⟩

theorem lftEstop_of_still {b : Blocks} (h : b.lft.state ≠ .parting) : lftEstop b = b := if_neg h

/-! ## The opening of the chain in CHAIN_OK (R169) -/

/-- The block after SEQ's, JOG's and TRN's parts of the opening. -/
def afterTurner (b : Blocks) : Blocks := trnEstop (jogEstop (holdEstop (chainOpened b)))

/-- What stands after SEQ's and JOG's parts. -/
theorem afterJogger_keeps (b : Blocks) :
    let c := jogEstop (holdEstop (chainOpened b))
    c.inputs = b.inputs ∧ c.msu = { b.msu with estop := .stopped } ∧ c.seq = (holdEstop (chainOpened b)).seq ∧ c.trk = b.trk
      ∧ c.gax = b.gax ∧ c.cku = b.cku ∧ c.trn = b.trn ∧ c.lft = b.lft ∧ c.lib = b.lib ∧ c.clock = b.clock
      ∧ FlagsUp (holdEstop (chainOpened b)) c ∧ FlagsUp (chainOpened b) c := by
  obtain ⟨hi, hm, ht, hg, hc, hn, hl, hj, hb, hk, hf⟩ := holdEstop_keeps (chainOpened b)
  obtain ⟨hi', hm', hs', ht', hg', hc', hn', hl', hb', hk', hf', -⟩ := jogEstop_keeps (holdEstop (chainOpened b))
  exact ⟨hi'.trans hi, hm'.trans hm, hs', ht'.trans ht, hg'.trans hg, hc'.trans hc, hn'.trans hn, hl'.trans hl, hb'.trans hb,
    hk'.trans hk, hf', hf.trans hf'⟩

theorem afterTurner_stops (b : Blocks) : TurnerStops (jogEstop (holdEstop (chainOpened b))) (afterTurner b) := by
  obtain ⟨-, -, hseq, -, -, -, -, -, -, -, -, hjog⟩ := jogEstop_keeps (holdEstop (chainOpened b))
  refine trnEstop_stops ?_ hjog
  rw [hseq]
  exact holdEstop_not_running _

/-- The units after the whole opening, each by the part that changes it. -/
theorem chainOpens_parts (b : Blocks) :
    (chainOpens b).inputs = b.inputs ∧ (chainOpens b).msu = { b.msu with estop := .stopped }
      ∧ (chainOpens b).seq = (afterTurner b).seq ∧ (chainOpens b).trn = (afterTurner b).trn
      ∧ (chainOpens b).jog = (jogEstop (holdEstop (chainOpened b))).jog ∧ (chainOpens b).lib = b.lib
      ∧ (chainOpens b).gax = (gaxEstop (afterTurner b)).gax
      ∧ FlagsUp (afterTurner b) (chainOpens b) ∧ FlagsUp (gaxEstop (afterTurner b)) (chainOpens b) := by
  obtain ⟨hi, hm, -, -, -, -, -, -, hb, -, -, -⟩ := afterJogger_keeps b
  have ht := afterTurner_stops b
  obtain ⟨hi', hm', hs', -, -, hn', -, hj', hb', -, hf', -⟩ := gaxEstop_keeps (afterTurner b)
  obtain ⟨hc, -⟩ := ckuEstop_stops (gaxEstop (afterTurner b))
  obtain ⟨hi'', hm'', hs'', -, hg'', -, hn'', hj'', hb'', hf''⟩ := lftEstop_keeps (ckuEstop (gaxEstop (afterTurner b)))
  rw [chainOpens_eq, ← afterTurner]
  exact ⟨(hi''.trans hc.inputs).trans ((hi'.trans ht.inputs).trans hi),
    (hm''.trans hc.msu).trans ((hm'.trans ht.msu).trans hm), (hs''.trans hc.seq).trans hs', (hn''.trans hc.trn).trans hn',
    (hj''.trans hc.jog).trans (hj'.trans ht.jog), (hb''.trans hc.lib).trans ((hb'.trans ht.lib).trans hb),
    hg''.trans hc.gax, hf'.trans (hc.flags.trans hf''), hc.flags.trans hf''⟩

/-- CKU, LFT and TRK after the opening. -/
theorem chainOpens_knife (b : Blocks) :
    KnifeStops (gaxEstop (afterTurner b)) (ckuEstop (gaxEstop (afterTurner b)))
      ∧ (chainOpens b).cku = (ckuEstop (gaxEstop (afterTurner b))).cku
      ∧ (chainOpens b).trk = (ckuEstop (gaxEstop (afterTurner b))).trk
      ∧ (gaxEstop (afterTurner b)).cku = b.cku ∧ (gaxEstop (afterTurner b)).clock = b.clock
      ∧ (gaxEstop (afterTurner b)).trk = (afterTurner b).trk ∧ (ckuEstop (gaxEstop (afterTurner b))).lft = b.lft
      ∧ chainOpens b = lftEstop (ckuEstop (gaxEstop (afterTurner b))) := by
  obtain ⟨-, -, -, -, -, hc, -, hl, -, hk, -, -⟩ := afterJogger_keeps b
  have ht := afterTurner_stops b
  obtain ⟨-, -, -, ht', hc', -, hl', -, -, hk', -, -⟩ := gaxEstop_keeps (afterTurner b)
  obtain ⟨hknife, -⟩ := ckuEstop_stops (gaxEstop (afterTurner b))
  obtain ⟨-, -, -, ht'', -, hc'', -, -, -, -⟩ := lftEstop_keeps (ckuEstop (gaxEstop (afterTurner b)))
  rw [chainOpens_eq, ← afterTurner]
  exact ⟨hknife, hc'', ht'', hc'.trans (ht.cku.trans hc), hk'.trans (ht.clock.trans hk), ht',
    hknife.lft.trans (hl'.trans (ht.lft.trans hl)), rfl⟩

/-- The block record loses what a stroke or a turn stopped takes from it (R57, R60). -/
theorem marks_eq (stroking turning : Prop) [Decidable stroking] [Decidable turning] (t : Trk) :
    (let lost : Trk := if turning then { t with block := t.block.map fun k => { k with orientation := none } } else t
     if stroking then { lost with block := lost.block.map fun k => { k with partialCut := true } } else lost)
      = { t with block := t.block.map fun k => { k with
          partialCut := k.partialCut || decide stroking, orientation := if turning then none else k.orientation } } := by
  by_cases hs : stroking <;> by_cases ht : turning <;> cases hb : t.block <;> simp [hs, ht, hb]
  all_goals rw [← hb]

/-- SEQ's hold record names ESTOP, and a fault of the turner is a further cause (R42, R44). -/
theorem afterTurner_seq_of_running {b : Blocks} (h : b.seq.state = .running) :
    (afterTurner b).seq = { b.seq with
        state := .held,
        hold := { cause := some .estop, more := decide (TurnUnderWay b), loc := some b.seq.run.loc,
                  phase := b.seq.run.phase, depth := b.seq.stack.length, holds := b.seq.hold.holds + 1 } }
      ∧ (afterTurner b).lnk.flags.hold = true ∧ (afterTurner b).lnk.flags.sequence = true := by
  obtain ⟨-, -, hseq, -, -, -, htrn, -, -, -, hflags, -⟩ := afterJogger_keeps b
  have hstops := afterTurner_stops b
  have hheld : holdEstop (chainOpened b) = enterHeld .estop (chainOpened b) := holdEstop_of_running h
  refine ⟨?_, hstops.flags .hold (hflags .hold ?_), hstops.flags .sequence (hflags .sequence ?_)⟩
  · rw [hstops.seq, hseq]
    unfold TurnUnderWay
    rw [htrn, hheld]
    by_cases hturn : b.trn.state = .gripping ∨ b.trn.state = .turning ∨ b.trn.state = .releasing
    · rw [if_pos ⟨hturn, rfl⟩, decide_eq_true hturn]
      rfl
    · rw [if_neg fun hall => hturn hall.1, decide_eq_false hturn]
      rfl
  · rw [hheld]
    rfl
  · rw [hheld]
    rfl

theorem afterTurner_seq_of_held {b : Blocks} (h : b.seq.state = .held) :
    (afterTurner b).seq = { b.seq with hold := { b.seq.hold with more := true } }
      ∧ (afterTurner b).lnk.flags.hold = true := by
  obtain ⟨-, -, hseq, -, -, -, -, -, -, -, hflags, -⟩ := afterJogger_keeps b
  have hstops := afterTurner_stops b
  have hheld : holdEstop (chainOpened b) = furtherCause (chainOpened b) := holdEstop_of_held h
  refine ⟨?_, hstops.flags .hold (hflags .hold ?_)⟩
  · rw [hstops.seq, hseq, hheld]
    split_ifs <;> rfl
  · rw [hheld]
    rfl

theorem afterTurner_seq_of_other {b : Blocks} (hrunning : b.seq.state ≠ .running) (hheld : b.seq.state ≠ .held) :
    (afterTurner b).seq = b.seq := by
  obtain ⟨-, -, hseq, -⟩ := afterJogger_keeps b
  have hnone : holdEstop (chainOpened b) = chainOpened b := holdEstop_of_other hrunning hheld
  rw [(afterTurner_stops b).seq, hseq, hnone]
  exact if_neg fun hall => hheld hall.2

/-- The chain's switch reads open. -/
def switchOpened (b : Blocks) : Blocks := { b with inputs := { b.inputs with chainClosed := false } }

/-- The whole opening as one act, in each state of the chain. -/
theorem estopChainOpening_of_ok {b : Blocks} (h : b.msu.estop = .chainOk) :
    estopChainOpening b = chainOpens (switchOpened b) := by
  rw [estopChainOpening, h] <;> rfl

theorem estopChainOpening_of_ready {b : Blocks} (h : b.msu.estop = .readyToReset) :
    estopChainOpening b = holdCause .estop (raise .cell { b with
      inputs := { b.inputs with chainClosed := false }, msu := { b.msu with estop := .stopped } }) := by
  rw [estopChainOpening, h] <;> rfl

theorem estopChainOpening_of_stopped {b : Blocks} (h : b.msu.estop = .stopped) :
    estopChainOpening b = { b with inputs := { b.inputs with chainClosed := false } } := by
  rw [estopChainOpening, h] <;> rfl

/-- In every state the switch reads open and the state is STOPPED. -/
theorem estopChainOpening_chain (b : Blocks) :
    (estopChainOpening b).inputs.chainClosed = false ∧ (estopChainOpening b).msu = { b.msu with estop := .stopped } := by
  cases h : b.msu.estop with
  | chainOk =>
    obtain ⟨hi, hm, -⟩ := chainOpens_parts (switchOpened b)
    rw [estopChainOpening_of_ok h, hi, hm]
    exact ⟨rfl, rfl⟩
  | readyToReset =>
    rw [estopChainOpening_of_ready h]
    have hpart := chainPart_holdCause (raise .cell { b with
      inputs := { b.inputs with chainClosed := false }, msu := { b.msu with estop := .stopped } }) .estop
    exact ⟨congrArg Prod.snd hpart, congrArg Prod.fst hpart⟩
  | stopped =>
    rw [estopChainOpening_of_stopped h, ← h]
    exact ⟨rfl, rfl⟩

/-! ## The block after the opening, unit by unit -/

section
variable (b : Blocks)

theorem chainOpens_gaugeFlag (h : b.gax.drive = true) : (chainOpens b).lnk.flags.gauge = true := by
  obtain ⟨-, -, -, -, hgax, -⟩ := afterJogger_keeps b
  obtain ⟨-, -, -, -, -, -, -, hturner, hgauge⟩ := chainOpens_parts b
  obtain ⟨-, -, -, -, -, -, -, -, -, -, -, hdrive⟩ := gaxEstop_keeps (afterTurner b)
  rcases (afterTurner_stops b).drive (hgax ▸ h) with hon | hflag
  · exact hgauge .gauge (hdrive hon)
  · exact hturner .gauge hflag

theorem chainOpens_cellFlag : (chainOpens b).lnk.flags.cell = true := by
  obtain ⟨-, -, -, -, -, -, -, -, -, -, -, hflags⟩ := afterJogger_keeps b
  obtain ⟨-, -, -, -, -, -, -, hturner, -⟩ := chainOpens_parts b
  exact hturner .cell ((afterTurner_stops b).flags .cell (hflags .cell rfl))

theorem chainOpens_still :
    (chainOpens b).gax.drive = false ∧ (chainOpens b).gax.pending = none ∧ (chainOpens b).gax.state ≠ .moving
      ∧ (chainOpens b).gax.state ≠ .settling ∧ (chainOpens b).gax.state ≠ .homing := by
  obtain ⟨-, hmsu, -⟩ := afterJogger_keeps b
  obtain ⟨-, -, -, -, -, -, hgax, -⟩ := chainOpens_parts b
  rw [hgax]
  refine gaxEstop_still ?_
  rw [(afterTurner_stops b).msu, hmsu]
  exact nofun

theorem chainOpens_gax (h : b.msu.phase = .ended) : (chainOpens b).gax = stilled b.gax := by
  obtain ⟨-, hmsu, -, -, hgax', -⟩ := afterJogger_keeps b
  obtain ⟨-, -, -, -, -, -, hgax, -⟩ := chainOpens_parts b
  have hended : (jogEstop (holdEstop (chainOpened b))).msu.phase = .ended := by rw [hmsu]; exact h
  have hstops := afterTurner_stops b
  rw [hgax, gax_gaxEstop (by rw [hstops.msu]; exact hended), hstops.gax hended, hgax']

theorem chainOpens_trk :
    (chainOpens b).trk = { b.trk with block := b.trk.block.map fun k => { k with
      partialCut := k.partialCut || decide (b.cku.state = .stroking),
      orientation := if b.trn.state = .turning then none else k.orientation } } := by
  obtain ⟨hknife, -, htrk, hcku, -, htrk', -⟩ := chainOpens_knife b
  obtain ⟨-, -, -, htrk'', -, -, htrn, -⟩ := afterJogger_keeps b
  rw [htrk, hknife.trk, hcku, htrk', (afterTurner_stops b).trk, htrk'', htrn]
  exact marks_eq _ _ b.trk

theorem chainOpens_cku :
    (chainOpens b).cku.valves = Valves.closed ∧ (chainOpens b).cku.cycle = none
      ∧ (chainOpens b).cku.state = estopCycle b.cku.state
      ∧ (b.cku.valves.down = true → (chainOpens b).cku.downClosedAt = some b.clock)
      ∧ (b.cku.valves.ret = true → (chainOpens b).cku.returnClosedAt = some b.clock)
      ∧ (chainOpens b).cku.flap = (if b.cku.flap = .opening ∨ b.cku.flap = .closing then .opened else b.cku.flap)
      ∧ (chainOpens b).cku.flapDeadline = none := by
  obtain ⟨hknife, hcku, -, hcku', hclock, -⟩ := chainOpens_knife b
  have hvalves := hknife.valves
  rw [hcku', hclock] at hvalves
  rw [hcku]
  exact hvalves

theorem chainOpens_knifeFlag (h : b.cku.state = .stroking ∨ b.cku.state = .gap ∨ b.cku.state = .returning) :
    (chainOpens b).lnk.flags.knife = true := by
  obtain ⟨-, -, -, hcku, -, -, -, heq⟩ := chainOpens_knife b
  obtain ⟨-, hflag⟩ := ckuEstop_stops (gaxEstop (afterTurner b))
  obtain ⟨-, -, -, -, -, -, -, -, -, hflags⟩ := lftEstop_keeps (ckuEstop (gaxEstop (afterTurner b)))
  rw [heq]
  exact hflags .knife (hflag (hcku.symm ▸ h))

theorem chainOpens_feedFlag (h : b.lft.state = .parting ∨ b.jog.state = .transferring) :
    (chainOpens b).lnk.flags.feed = true := by
  rcases h with h | h
  · obtain ⟨-, -, -, -, -, -, hlft, heq⟩ := chainOpens_knife b
    rw [heq]
    exact (lftEstop_of_parting (hlft.symm ▸ h)).2
  · obtain ⟨-, -, -, -, -, -, -, hjog, -⟩ := holdEstop_keeps (chainOpened b)
    obtain ⟨-, -, -, -, -, -, -, hturner, -⟩ := chainOpens_parts b
    have hfeed := (jogEstop_of_transferring (b := holdEstop (chainOpened b)) (hjog.symm ▸ h)).2.2
    exact hturner .feed ((afterTurner_stops b).flags .feed hfeed)

theorem chainOpens_trn :
    (chainOpens b).trn.pending = none ∧ (b.trn.state ≠ .parked → (chainOpens b).trn.state = .fault)
      ∧ (TurnUnderWay b → (chainOpens b).trn.fault = some .chainOpened)
      ∧ (b.trn.state = .parked → (chainOpens b).trn.state = .parked) := by
  obtain ⟨-, -, -, htrn, -⟩ := chainOpens_parts b
  obtain ⟨-, -, -, -, -, -, htrn', -⟩ := afterJogger_keeps b
  have hstops := afterTurner_stops b
  have hfault := hstops.fault
  have hstill := hstops.still
  unfold TurnUnderWay at hfault hstill
  rw [htrn'] at hfault hstill
  rw [htrn]
  refine ⟨hstops.pending, fun hparked => ?_, fun hturn => (hfault hturn).2, fun hparked => ?_⟩
  · by_cases hturn : b.trn.state = .gripping ∨ b.trn.state = .turning ∨ b.trn.state = .releasing
    · exact (hfault hturn).1
    · rw [hstill hturn]
      cases hstate : b.trn.state <;> simp_all
  · rw [hstill (by simp [hparked]), hparked]

theorem chainOpens_lft :
    (b.lft.state = .parting → (chainOpens b).lft = { b.lft with
        state := .fault, fault := some (b.lft.fault.getD .chainOpened), withdrawing := false, resetting := false,
        deadline := none })
      ∧ (b.lft.state ≠ .parting → (chainOpens b).lft = b.lft) := by
  obtain ⟨-, -, -, -, -, -, hlft, heq⟩ := chainOpens_knife b
  rw [heq]
  constructor
  · intro h
    rw [(lftEstop_of_parting (hlft.symm ▸ h)).1, hlft]
  · intro h
    rw [lftEstop_of_still (hlft.symm ▸ h), hlft]

/-- JOG's part is its own rule on the block it had. -/
theorem chainOpens_jog :
    ∃ c : Blocks, (chainOpens b).jog = (jogEstop c).jog ∧ c.jog = b.jog ∧ c.lft = b.lft ∧ c.clock = b.clock := by
  obtain ⟨-, -, -, -, -, -, hlft, hjog, -, hclock, -⟩ := holdEstop_keeps (chainOpened b)
  obtain ⟨-, -, -, -, hopened, -⟩ := chainOpens_parts b
  exact ⟨_, hopened, hjog, hlft, hclock⟩

theorem chainOpens_seq_of_running (h : b.seq.state = .running) :
    (chainOpens b).seq = { b.seq with
        state := .held,
        hold := { cause := some .estop, more := decide (TurnUnderWay b), loc := some b.seq.run.loc,
                  phase := b.seq.run.phase, depth := b.seq.stack.length, holds := b.seq.hold.holds + 1 } }
      ∧ (chainOpens b).lnk.flags.hold = true ∧ (chainOpens b).lnk.flags.sequence = true := by
  obtain ⟨-, -, hseq, -, -, -, -, hflags, -⟩ := chainOpens_parts b
  obtain ⟨hheld, hhold, hsequence⟩ := afterTurner_seq_of_running h
  exact ⟨hseq.trans hheld, hflags .hold hhold, hflags .sequence hsequence⟩

theorem chainOpens_seq_of_held (h : b.seq.state = .held) :
    (chainOpens b).seq = { b.seq with hold := { b.seq.hold with more := true } } ∧ (chainOpens b).lnk.flags.hold = true := by
  obtain ⟨-, -, hseq, -, -, -, -, hflags, -⟩ := chainOpens_parts b
  obtain ⟨hheld, hhold⟩ := afterTurner_seq_of_held h
  exact ⟨hseq.trans hheld, hflags .hold hhold⟩

theorem chainOpens_seq_of_other (hrunning : b.seq.state ≠ .running) (hheld : b.seq.state ≠ .held) :
    (chainOpens b).seq = b.seq := by
  obtain ⟨-, -, hseq, -⟩ := chainOpens_parts b
  exact hseq.trans (afterTurner_seq_of_other hrunning hheld)

end

end Sys2Proof.Machine

open Sys2Proof Sys2Proof.Machine

/-- Settles O14: each unit's part on what the parts before it leave (`TurnerStops`, `KnifeStops`). -/
theorem estopChainOpens : Obligations.EstopChainOpens := by
  intro s
  obtain ⟨hswitch, hmsu⟩ := estopChainOpening_chain s.blocks
  refine ⟨s.act estopChainOpening, rfl, rfl, hswitch, hmsu, estopChainOpening_of_stopped, estopChainOpening_of_ready,
    fun hok => ?_⟩
  have hopens : (s.act estopChainOpening).blocks
      = chainOpens (switchOpened s.blocks) := estopChainOpening_of_ok hok
  rw [hopens]
  obtain ⟨c, hjog, hcjog, hclft, hcclock⟩ := chainOpens_jog (switchOpened s.blocks)
  refine ⟨chainOpens_gaugeFlag (switchOpened s.blocks),
    ⟨chainOpens_cellFlag (switchOpened s.blocks), chainOpens_still (switchOpened s.blocks)⟩,
    chainOpens_gax (switchOpened s.blocks), chainOpens_trk (switchOpened s.blocks), ?cku,
    chainOpens_feedFlag (switchOpened s.blocks), chainOpens_trn (switchOpened s.blocks),
    (chainOpens_lft (switchOpened s.blocks)).1, (chainOpens_lft (switchOpened s.blocks)).2, ?transfers, ?jogs, ?waits, ?stands,
    chainOpens_seq_of_running (switchOpened s.blocks), chainOpens_seq_of_held (switchOpened s.blocks),
    chainOpens_seq_of_other (switchOpened s.blocks), ?lib⟩
  case cku =>
    obtain ⟨hvalves, hcycle, hstate, hdown, hret, hflap, hflapDeadline⟩ := chainOpens_cku (switchOpened s.blocks)
    exact ⟨hvalves, hcycle, hstate, hdown, hret, hflap, hflapDeadline, chainOpens_knifeFlag (switchOpened s.blocks)⟩
  case transfers =>
    intro h
    obtain ⟨hstate, hfault, -⟩ := jogEstop_of_transferring (b := c) (hcjog.symm ▸ h)
    rw [hjog]
    exact ⟨hstate, hfault⟩
  case jogs =>
    intro h
    have hvoid := jogEstop_of_jogging (b := c) (hcjog.symm ▸ h)
    rw [hcjog, hclft] at hvoid
    rw [hjog]
    exact hvoid
  case waits =>
    intro h
    have hsuspended := jogEstop_of_waiting (b := c) (hcjog.symm ▸ h)
    rw [hcjog, hcclock] at hsuspended
    rw [hjog]
    exact hsuspended
  case stands =>
    intro h
    rw [hjog, jogEstop_of_still (b := c) (hcjog.symm ▸ h), hcjog] <;> rfl
  case lib =>
    obtain ⟨-, -, -, -, -, hlib, -⟩ := chainOpens_parts (switchOpened s.blocks)
    exact hlib

end

section
/-! SUPPORT. Start-up (R175): LIB's part and what it depends on, the scan and the index, the units' states, the orderly stop. -/

set_option Elab.async false

namespace Sys2Proof.Machine

open Sys2Proof

/-! ## LIB's work in start-up: what it depends on -/

/-- Two blocks in start-up, with no staging, that are alike in all that LIB works by. -/
structure Alike (b c : Blocks) : Prop where
  lib : b.lib = c.lib
  inputs : b.inputs = c.inputs
  clock : b.clock = c.clock
  freeIndex : b.freeIndex = c.freeIndex
  unstaged : b.lib.staging = none
  starting : b.msu.phase ≠ .ended

/-- LIB's works on two blocks come out alike, and give the same. -/
def AlikeWith {α : Type} (p q : Blocks × α) : Prop := Alike p.1 q.1 ∧ p.2 = q.2

section
variable {b c : Blocks}

theorem Alike.giving {α : Type} (h : Alike b c) (x : α) : AlikeWith (b, x) (c, x) := ⟨h, rfl⟩

theorem Alike.raised (h : Alike b c) (k : NoticeKind) : Alike (raise k b) (raise k c) :=
  ⟨h.lib, h.inputs, h.clock, h.freeIndex, h.unstaged, h.starting⟩

theorem alike_nextFree (h : Alike b c) : Alike (nextFree b) (nextFree c) :=
  ⟨h.lib, h.inputs, h.clock, congrArg (· + 1) h.freeIndex, h.unstaged, h.starting⟩

/-- LIB's own change. -/
theorem Alike.changed (h : Alike b c) {f : Lib → Lib}
    (hf : ∀ l, l.staging = none → (f l).staging = none := by exact fun _ hl => hl) :
    Alike (setLib f b) (setLib f c) :=
  ⟨congrArg f h.lib, h.inputs, h.clock, h.freeIndex, hf _ h.unstaged, h.starting⟩

theorem libClose_keeps (why : LibFailure) (b : Blocks) :
    (libClose why b).lib = { b.lib with state := .closed, work := none, staging := none, failure := some why,
                                        deadline := none, lastEvent := some .closed }
      ∧ (libClose why b).inputs = b.inputs ∧ (libClose why b).clock = b.clock
      ∧ (libClose why b).freeIndex = b.freeIndex ∧ (libClose why b).msu = b.msu := by
  rw [libClose_eq]
  dsimp only
  split_ifs <;> exact ⟨rfl, rfl, rfl, rfl, rfl⟩

theorem Alike.closed (h : Alike b c) (why : LibFailure) : Alike (libClose why b) (libClose why c) := by
  obtain ⟨hlib, hinputs, hclock, hfree, hmsu⟩ := libClose_keeps why b
  obtain ⟨hlib', hinputs', hclock', hfree', -⟩ := libClose_keeps why c
  refine ⟨by rw [hlib, hlib', h.lib], hinputs.trans (h.inputs.trans hinputs'.symm), hclock.trans (h.clock.trans hclock'.symm),
    hfree.trans (h.freeIndex.trans hfree'.symm), by rw [hlib], ?_⟩
  rw [hmsu]
  exact h.starting

theorem alike_programRecord (h : Alike b c) (i : Nat) (r : Rec) : AlikeWith (programRecord i r b) (programRecord i r c) := by
  unfold programRecord
  rw [h.inputs, h.freeIndex]
  split_ifs
  · exact ⟨Alike.closed (alike_nextFree h.changed) .program, rfl⟩
  · exact Alike.giving h.changed _

theorem alike_beginSection (h : Alike b c) : AlikeWith (beginSection b) (beginSection c) := by
  unfold beginSection
  rw [h.lib, h.inputs, h.freeIndex]
  cases nextErased c.lib.flash with
  | none => exact ⟨h.closed _, rfl⟩
  | some i =>
    dsimp only
    split_ifs
    · exact ⟨h.closed _, rfl⟩
    · exact ⟨Alike.closed (alike_nextFree h.changed) .beginSection, rfl⟩
    · exact Alike.giving h.changed _

theorem alike_copied (h : Alike b c) (i : Nat) (r : Rec) :
    AlikeWith (copied i (programRecord i r b)) (copied i (programRecord i r c)) := by
  obtain ⟨hblocks, hplaced⟩ := alike_programRecord h i r
  unfold copied
  rw [hplaced]
  cases (programRecord i r c).2 with
  | done => exact ⟨hblocks, rfl⟩
  | failed => exact ⟨hblocks, rfl⟩

theorem alike_copyRecord (h : Alike b c) (r : Rec) (dest : Option Nat) :
    AlikeWith (copyRecord r dest b) (copyRecord r dest c) := by
  by_cases hfits : ∃ i, dest = some i ∧ 12 + (r.body.length + 3) / 4 * 4 ≤ 2032 - usedRoom (slotsAt c.lib.flash i)
  · obtain ⟨i, rfl, hroom⟩ := hfits
    rw [copyRecord_of_fits hroom, copyRecord_of_fits (h.lib ▸ hroom)]
    exact alike_copied h i r
  · have hroom : ∀ i, dest = some i → 2032 - usedRoom (slotsAt c.lib.flash i) < 12 + (r.body.length + 3) / 4 * 4 :=
      fun i hdest => not_le.mp fun hle => hfits ⟨i, hdest, hle⟩
    rw [copyRecord_of_no_room hroom, copyRecord_of_no_room (h.lib ▸ hroom)]
    obtain ⟨hblocks, hnext⟩ := alike_beginSection h
    generalize beginSection b = p at hblocks hnext ⊢
    generalize beginSection c = q at hblocks hnext ⊢
    obtain ⟨b', next⟩ := p
    obtain ⟨c', next'⟩ := q
    obtain rfl : next = next' := hnext
    cases next with
    | none => exact ⟨hblocks, rfl⟩
    | some i => exact alike_copied hblocks i r

theorem alike_copyLive (h : Alike b c) (records : List (Place × Rec)) (dest : Option Nat) :
    AlikeWith (copyLive records dest b) (copyLive records dest c) := by
  induction records generalizing dest b c with
  | nil => exact ⟨h, rfl⟩
  | cons p rest ih =>
    cases hlive : isLive c.lib p with
    | false =>
      rw [copyLive_of_dead hlive, copyLive_of_dead (h.lib ▸ hlive)]
      exact ih h dest
    | true =>
      rw [copyLive_of_live hlive, copyLive_of_live (h.lib ▸ hlive)]
      obtain ⟨hblocks, hnext⟩ := alike_copyRecord h p.2 dest
      generalize copyRecord p.2 dest b = x at hblocks hnext ⊢
      generalize copyRecord p.2 dest c = y at hblocks hnext ⊢
      obtain ⟨b', next⟩ := x
      obtain ⟨c', next'⟩ := y
      obtain rfl : next = next' := hnext
      cases next with
      | none => exact ⟨hblocks, rfl⟩
      | some i => exact ih hblocks (some i)

theorem libReady_keeps (b : Blocks) :
    (libReady b).inputs = b.inputs ∧ (libReady b).clock = b.clock ∧ (libReady b).freeIndex = b.freeIndex
      ∧ (b.msu.phase ≠ .ended → (libReady b).msu.phase ≠ .ended) := by
  by_cases hwaiting : b.msu.phase = .waitLibrary
  · rw [libReady, if_pos hwaiting]
    exact ⟨rfl, rfl, rfl, fun _ => nofun⟩
  · rw [libReady_of_not_waiting hwaiting]
    exact ⟨rfl, rfl, rfl, fun hphase => hphase⟩

theorem Alike.ready (h : Alike b c) : Alike (libReady b) (libReady c) := by
  obtain ⟨hinputs, hclock, hfree, hphase⟩ := libReady_keeps b
  obtain ⟨hinputs', hclock', hfree', -⟩ := libReady_keeps c
  refine ⟨?_, hinputs.trans (h.inputs.trans hinputs'.symm), hclock.trans (h.clock.trans hclock'.symm),
    hfree.trans (h.freeIndex.trans hfree'.symm), ?_, hphase h.starting⟩
  · rw [lib_libReady, lib_libReady, h.lib]
  · rw [lib_libReady, h.unstaged]

theorem alike_beginErase (h : Alike b c) : Alike (beginErase b) (beginErase c) :=
  ⟨by simp only [beginErase, setLib, h.lib, after, h.clock], h.inputs, h.clock, h.freeIndex, h.unstaged, h.starting⟩

theorem alike_takeSource (h : Alike b c) (src : Nat) (rest : List Nat) (dest : Option Nat) (done total : Nat) :
    Alike (takeSource src rest dest done total b) (takeSource src rest dest done total c) := by
  obtain ⟨hblocks, hdest⟩ := alike_copyLive h (sectionRecords src 0 (slotsAt c.lib.flash src)) dest
  unfold takeSource
  rw [h.lib]
  generalize copyLive (sectionRecords src 0 (slotsAt c.lib.flash src)) dest b = p at hblocks hdest ⊢
  generalize copyLive (sectionRecords src 0 (slotsAt c.lib.flash src)) dest c = q at hblocks hdest ⊢
  obtain ⟨b', dest'⟩ := p
  obtain ⟨c', dest''⟩ := q
  obtain rfl : dest' = dest'' := hdest
  dsimp only at hblocks ⊢
  rw [hblocks.lib]
  split_ifs
  · exact hblocks.ready
  · exact alike_beginErase hblocks.changed

theorem unstaged_renewStaging {now : Ms} {l : Lib} (h : l.staging = none) : (renewStaging now l).staging = none := by
  simp only [renewStaging, h, Option.map_none]

theorem alike_endCompaction (h : Alike b c) : Alike (endCompaction b) (endCompaction c) := by
  unfold endCompaction
  rw [h.clock]
  refine Alike.ready (Alike.raised (Alike.changed (h.changed ?_)) .library)
  exact fun _ hl => unstaged_renewStaging hl

theorem alike_beginCompaction (h : Alike b c) : Alike (beginCompaction b) (beginCompaction c) := by
  have hbegun : Alike (libEvent .compactionBegun (setLib (fun l => { l with state := .compacting }) b))
      (libEvent .compactionBegun (setLib (fun l => { l with state := .compacting }) c)) :=
    Alike.raised (Alike.changed h.changed) .library
  unfold beginCompaction
  rw [h.lib]
  cases compactionSources c.lib.flash with
  | nil => exact alike_endCompaction hbegun
  | cons src rest => exact alike_takeSource hbegun ..

theorem alike_afterSpent (h : Alike b c) (powerOn : Bool) : Alike (afterSpent powerOn b) (afterSpent powerOn c) := by
  unfold afterSpent
  rw [h.lib]
  dsimp only
  split_ifs
  · exact alike_beginCompaction h.changed
  · exact Alike.ready h.changed

theorem alike_eraseSpent (h : Alike b c) (powerOn : Bool) : Alike (eraseSpent powerOn b) (eraseSpent powerOn c) := by
  unfold eraseSpent
  rw [h.lib]
  cases nextSpent c.lib with
  | none => exact alike_afterSpent h powerOn
  | some i => exact alike_beginErase h.changed

/-- The scan of a start-up (R178, R179). -/
def scanned (b : Blocks) : Blocks :=
  let found := interruptErase b
  { found with lib := reindex { Lib.atReset with
      flash := found.lib.flash, nextSeq := highestSeq (allRecords found.lib.flash) + 1,
      damaged := scanDamaged found.lib.flash } }

theorem libStart_eq_scanned (powerOn : Bool) (b : Blocks) :
    libStart powerOn b =
      if erasedCount (interruptErase b).lib.flash = 0 then eraseSpent powerOn (scanned b) else afterSpent powerOn (scanned b) :=
  (rfl)

theorem interruptErase_keeps (b : Blocks) :
    (interruptErase b).inputs = b.inputs ∧ (interruptErase b).clock = b.clock ∧ (interruptErase b).msu = b.msu
      ∧ outside (interruptErase b) = outside b := by
  unfold interruptErase
  cases b.lib.work with
  | none => exact ⟨rfl, rfl, rfl, rfl⟩
  | some w => exact ⟨rfl, rfl, rfl, rfl⟩

theorem interruptErase_congr (hlib : b.lib = c.lib) (hfree : b.freeIndex = c.freeIndex) :
    (interruptErase b).lib = (interruptErase c).lib ∧ (interruptErase b).freeIndex = (interruptErase c).freeIndex := by
  unfold interruptErase
  rw [hlib]
  cases c.lib.work with
  | none => exact ⟨hlib, hfree⟩
  | some w =>
    simp only [spoilSection, nextFree, setLib, hlib, hfree, and_self]

/-- LIB's part of a start-up works by the flash, the switches, the clock and the free values alone. -/
theorem alike_libStart (powerOn : Bool) (hlib : b.lib = c.lib) (hinputs : b.inputs = c.inputs) (hclock : b.clock = c.clock)
    (hfree : b.freeIndex = c.freeIndex) (hphase : b.msu.phase ≠ .ended) :
    Alike (libStart powerOn b) (libStart powerOn c) := by
  obtain ⟨hlib', hfree'⟩ := interruptErase_congr hlib hfree
  obtain ⟨hin, hclk, hmsu, -⟩ := interruptErase_keeps b
  obtain ⟨hin', hclk', -⟩ := interruptErase_keeps c
  have hscan : Alike (scanned b) (scanned c) :=
    ⟨by simp only [scanned, hlib'], hin.trans (hinputs.trans hin'.symm), hclk.trans (hclock.trans hclk'.symm), hfree', rfl,
      fun h => hphase ((congrArg Msu.phase hmsu).symm.trans h)⟩
  rw [libStart_eq_scanned, libStart_eq_scanned, hlib']
  split_ifs
  · exact alike_eraseSpent hscan powerOn
  · exact alike_afterSpent hscan powerOn

end

theorem outside_libStart (powerOn : Bool) (b : Blocks) : outside (libStart powerOn b) = outside b := by
  obtain ⟨-, -, -, hfound⟩ := interruptErase_keeps b
  have hscan : outside (scanned b) = outside b := hfound
  rw [libStart_eq_scanned]
  split_ifs
  · exact (outside_eraseSpent powerOn _).trans hscan
  · exact (outside_afterSpent powerOn _).trans hscan

/-! ## The scan (R178, R179) -/

theorem erasedCount_eq_zero {flash : List Section} : erasedCount flash = 0 ↔ ∀ c ∈ flash, c ≠ Section.erased := by
  simp only [erasedCount, List.length_eq_zero_iff, List.filter_eq_nil_iff, isErased_eq, decide_eq_true_iff, ne_eq]

theorem libStart_eq (powerOn : Bool) (b : Blocks) :
    libStart powerOn b =
      if ∀ c ∈ (interruptErase b).lib.flash, c ≠ Section.erased then eraseSpent powerOn (scanned b)
      else afterSpent powerOn (scanned b) := by
  rw [libStart_eq_scanned]
  exact if_congr erasedCount_eq_zero rfl rfl

theorem eraseSpent_eq (powerOn : Bool) (b : Blocks) :
    eraseSpent powerOn b = match (compactionSources b.lib.flash).find? (isSpent b.lib) with
      | some i => { b with lib := { b.lib with
          state := .compacting, work := some (.spent i powerOn), deadline := some (b.clock + 40) } }
      | none => afterSpent powerOn b := by
  unfold eraseSpent nextSpent
  cases (compactionSources b.lib.flash).find? (isSpent b.lib) <;> rfl

theorem afterSpent_eq (powerOn : Bool) (b : Blocks) :
    afterSpent powerOn b =
      let opened : Blocks := { b with lib := { b.lib with state := .opened, work := none, deadline := none } }
      if powerOn = true ∧ 72 < (b.lib.flash.filter fun c => decide (c ≠ Section.erased)).length then beginCompaction opened
      else libReady opened := by
  rw [← inUseCount_eq] <;> rfl

theorem isSpent_iff {l : Lib} {i : Nat} :
    isSpent l i = true ↔ ∀ p ∈ sectionRecords i 0 (slotsAt l.flash i),
      isLive l p = false ∨ ∃ q ∈ allRecords l.flash, q.1.sect ≠ i ∧ q.2 = p.2 := by
  simp only [isSpent, List.all_eq_true, Bool.or_eq_true, Bool.not_eq_true', List.any_eq_true, Bool.and_eq_true, bne_iff_ne,
    beq_iff_eq]

theorem scanDamaged_eq (flash : List Section) :
    scanDamaged flash = (flash.map fun c => match c with | .begun _ slots => sectionDamaged slots | _ => 0).sum := by
  rw [scanDamaged, ← List.sum_eq_foldl]
  refine congrArg List.sum (List.map_congr_left fun c _ => ?_)
  cases c <;> rfl

/-! ## The highest sequence number -/

theorem highestSeq_snoc (records : List (Place × Rec)) (p : Place × Rec) :
    highestSeq (records ++ [p]) = max (highestSeq records) p.2.seq := by
  simp [highestSeq]

theorem le_highestSeq {records : List (Place × Rec)} {p : Place × Rec} (h : p ∈ records) : p.2.seq ≤ highestSeq records := by
  induction records using List.reverseRecOn with
  | nil => exact absurd h List.not_mem_nil
  | append_singleton before q ih =>
    rw [highestSeq_snoc]
    rcases List.mem_append.mp h with hbefore | hlast
    · exact (ih hbefore).trans (le_max_left ..)
    · rw [List.mem_singleton.mp hlast]
      exact le_max_right ..

theorem exists_highestSeq {records : List (Place × Rec)} (h : records ≠ []) :
    ∃ p ∈ records, p.2.seq = highestSeq records := by
  induction records using List.reverseRecOn with
  | nil => exact absurd rfl h
  | append_singleton before q ih =>
    rw [highestSeq_snoc]
    by_cases hlast : highestSeq before ≤ q.2.seq
    · exact ⟨q, by simp, (max_eq_right hlast).symm⟩
    · have hsome : before ≠ [] := fun hnil => by simp [hnil, highestSeq] at hlast
      obtain ⟨p, hp, hseq⟩ := ih hsome
      exact ⟨p, List.mem_append_left _ hp, by omega⟩

/-! ## The index holds one entry of each kind and key -/

/-- The kind and key of an entry. -/
def IndexEntry.item (e : IndexEntry) : RecKind × Nat := (e.kind, e.key)

theorem items_indexInsert (index : List IndexEntry) (p : Place × Rec) :
    (indexInsert index p.1 p.2).map IndexEntry.item =
      if (p.2.kind, p.2.key) ∈ index.map IndexEntry.item then index.map IndexEntry.item
      else index.map IndexEntry.item ++ [(p.2.kind, p.2.key)] := by
  induction index with
  | nil => rfl
  | cons x rest ih =>
    by_cases hx : x.kind = p.2.kind ∧ x.key = p.2.key
    · have hitem : (p.2.kind, p.2.key) = x.item := by rw [← hx.1, ← hx.2]; rfl
      have hknown : (p.2.kind, p.2.key) ∈ (x :: rest).map IndexEntry.item := by
        rw [hitem]
        exact List.mem_cons_self
      rw [indexInsert, if_pos hx, if_pos hknown]
      by_cases hnewer : x.seq ≤ p.2.seq
      · rw [if_pos hnewer]
        exact congrArg (· :: rest.map IndexEntry.item) hitem
      · rw [if_neg hnewer]
    · have hitem : (p.2.kind, p.2.key) ≠ x.item := fun h => hx ⟨congrArg Prod.fst h.symm, congrArg Prod.snd h.symm⟩
      rw [indexInsert, if_neg hx, List.map_cons, List.map_cons, ih]
      by_cases hrest : (p.2.kind, p.2.key) ∈ rest.map IndexEntry.item
      · rw [if_pos hrest, if_pos (List.mem_cons_of_mem _ hrest)]
      · rw [if_neg hrest, if_neg (by simp [hitem, hrest]), List.cons_append]

/-- The kinds and keys of an index: each once, and none of the correction points. -/
def WellIndexed (index : List IndexEntry) : Prop :=
  (index.map IndexEntry.item).Nodup ∧ ∀ x ∈ index.map IndexEntry.item, x.1 ≠ .corr

theorem wellIndexed_indexInsert {index : List IndexEntry} {p : Place × Rec} (h : WellIndexed index)
    (hkind : p.2.kind ≠ .corr) : WellIndexed (indexInsert index p.1 p.2) := by
  unfold WellIndexed
  rw [items_indexInsert]
  split_ifs with hknown
  · exact h
  · obtain ⟨hnodup, hkinds⟩ := h
    refine ⟨hnodup.append (List.nodup_singleton _) (List.disjoint_singleton.mpr hknown), fun x hx => ?_⟩
    rcases List.mem_append.mp hx with hbefore | hlast
    · exact hkinds x hbefore
    · rw [List.mem_singleton.mp hlast]
      exact hkind

theorem wellIndexed_buildIndex (records : List (Place × Rec)) : WellIndexed (buildIndex records) := by
  induction records using List.reverseRecOn with
  | nil => exact ⟨List.nodup_nil, nofun⟩
  | append_singleton before p ih =>
    rw [buildIndex, List.foldl_append]
    change WellIndexed (if p.2.kind = .corr then buildIndex before else indexInsert (buildIndex before) p.1 p.2)
    split_ifs with hkind
    · exact ih
    · exact wellIndexed_indexInsert ih hkind

theorem indexFind_of_mem {index : List IndexEntry} {e : IndexEntry} (h : (index.map IndexEntry.item).Nodup) (he : e ∈ index) :
    indexFind index e.kind e.key = some e := by
  induction index with
  | nil => exact absurd he List.not_mem_nil
  | cons x rest ih =>
    rw [List.map_cons, List.nodup_cons] at h
    obtain ⟨hfirst, hrest⟩ := h
    rcases List.mem_cons.mp he with rfl | hlater
    · simp [indexFind]
    · have hother : (x.kind == e.kind && x.key == e.key) = false := by
        rw [Bool.eq_false_iff]
        intro hsame
        simp only [Bool.and_eq_true, beq_iff_eq] at hsame
        refine hfirst (List.mem_map.mpr ⟨e, hlater, ?_⟩)
        rw [IndexEntry.item, ← hsame.1, ← hsame.2]
        rfl
      rw [indexFind, List.find?_cons, hother]
      exact ih hrest hlater

/-- An entry of the index is the record of highest sequence number of its kind and key (R178). -/
theorem record_of_entry {l : Lib} {e : IndexEntry} (h : e ∈ (reindex l).index) :
    ∃ p ∈ allRecords l.flash, p.1 = e.place ∧ p.2.kind = e.kind ∧ p.2.key = e.key ∧ p.2.seq = e.seq
      ∧ ∀ q ∈ allRecords l.flash, q.2.kind = e.kind → q.2.key = e.key → q.2.seq ≤ e.seq := by
  obtain ⟨hnodup, hkinds⟩ := wellIndexed_buildIndex (allRecords l.flash)
  have hkind : e.kind ≠ .corr := hkinds _ (List.mem_map_of_mem (f := IndexEntry.item) h)
  have hfind : indexFind (buildIndex (allRecords l.flash)) e.kind e.key = some e := indexFind_of_mem hnodup h
  rw [indexFind_buildIndex e.key hkind, Option.map_eq_some_iff] at hfind
  obtain ⟨p, hhighest, rfl⟩ := hfind
  obtain ⟨hp, -, hmax⟩ := mem_of_highest hhighest
  exact ⟨p, hp, rfl, rfl, rfl, rfl, fun q hq hqkind hqkey => hmax q hq (decide_eq_true ⟨hqkind, hqkey⟩)⟩

theorem entry_of_record {l : Lib} {p : Place × Rec} (h : p ∈ allRecords l.flash) (hkind : p.2.kind ≠ .corr) :
    ∃ e ∈ (reindex l).index, e.kind = p.2.kind ∧ e.key = p.2.key := by
  obtain ⟨q, -, hhighest, hitem, -⟩ := highest_of_mem (counts := ofItem p.2.kind p.2.key) h (decide_eq_true ⟨rfl, rfl⟩)
  have hfind := indexFind_buildIndex p.2.key hkind (allRecords l.flash)
  rw [hhighest, Option.map_some] at hfind
  exact ⟨entryOf q, List.mem_of_find?_eq_some hfind, of_decide_eq_true hitem⟩

/-! ## The end of start-up -/

theorem libReady_of_waiting {b : Blocks} (h : b.msu.phase = .waitLibrary) :
    libReady b =
      let found : Option KnifeRecord :=
        if b.lib.state = .closed then none else (currentItem b.lib .knife 0).bind fun r => decodeKnife r.body
      let knife : KnifeRecord := match found with | some k => k | none => ⟨0, 0, 0, 8⟩
      { b with
        msu := { b.msu with phase := .statesTaken },
        gax := { b.gax with table := (List.range 232).map (currentPoint b.lib) },
        cku := { b.cku with knife := knife, unstored := found.isNone, lastStored := knife.C, storeDeferred := false,
                            wearCap := wearPart knife == 400 } } := by
  rw [libReady, if_pos h]
  dsimp only
  generalize (if b.lib.state = .closed then none
    else (currentItem b.lib .knife 0).bind fun r => decodeKnife r.body) = found
  cases found <;> rfl

theorem setSeq_raiseIf (f : Seq → Seq) (c : Bool) (k : NoticeKind) (b : Blocks) :
    setSeq f (raiseIf c k b) = raiseIf c k (setSeq f b) := by
  cases c <;> rfl

theorem startupEnds_eq (b : Blocks) :
    startupEnds b =
      raiseIf (b.lft.state == .fault || b.jog.state == .fault) .feed
        (raiseIf (b.cku.state == .knifeReturnNeeded || b.cku.wearCap) .knife
          (raiseIf b.seq.startNotice .sequence
            (raise .cell { b with msu := { b.msu with phase := .ended }, seq := { b.seq with startNotice := false } }))) := by
  unfold startupEnds
  dsimp only
  rw [setSeq_raiseIf]
  rfl

/-! ## The units at start-up (R175) -/

/-- Every unit has taken its state from its own switches, before LIB's scan. -/
def unitsStart (cause : StartupCause) (b : Blocks) : Blocks :=
  jogStart (lftStart (trnStart (ckuStart (gaxStart (trkStart
    (setSeq (fun q => { Seq.atReset with startNotice := cause == .restart && q.state != .idle }) (msuStart cause b)))))))

theorem startBlocks_eq (cause : StartupCause) (b : Blocks) :
    startBlocks cause b = libStart (decide (cause = .powerOn)) (unitsStart cause b) := by
  cases cause <;> rfl

theorem outside_startBlocks (cause : StartupCause) (b : Blocks) :
    outside (startBlocks cause b) = outside (unitsStart cause b) := by
  rw [startBlocks_eq]
  exact outside_libStart _ _

/-- LIB's part is that of the block before the units took their states. -/
theorem alike_startBlocks (cause : StartupCause) (b : Blocks) :
    Alike (startBlocks cause b)
      (libStart (decide (cause = .powerOn)) { b with msu := { b.msu with phase := .waitLibrary } }) := by
  rw [startBlocks_eq]
  exact alike_libStart _ rfl rfl rfl rfl nofun

theorem gax_unitsStart (cause : StartupCause) (b : Blocks) :
    (unitsStart cause b).gax = if b.gax.stopping then { b.gax with pending := none } else Gax.atReset := by
  have hgax : (unitsStart cause b).gax = if b.gax.stopping then { b.gax with pending := none }
    else { Gax.atReset with drive := chainOk (msuStart cause b) } := (rfl)
  have hopen : chainOk (msuStart cause b) = false := by
    unfold chainOk msuStart setMsu
    cases b.inputs.chainClosed <;> rfl
  rw [hgax, hopen] <;> rfl

section
variable {cause : StartupCause} {b t : Blocks}

theorem inputs_of_started (h : outside t = outside (unitsStart cause b)) : t.inputs = b.inputs :=
  (congrArg Blocks.inputs h : (outside t).inputs = (outside (unitsStart cause b)).inputs)

theorem msu_of_started (h : outside t = outside (unitsStart cause b)) :
    t.msu.mode = .standby ∧ t.msu.estop = (if t.inputs.chainClosed then .readyToReset else .stopped)
      ∧ t.msu.resets = ⟨none, none, none, none, none⟩ ∧ t.msu.cause = cause := by
  have hmsu : (outside t).msu = (outside (unitsStart cause b)).msu := congrArg Blocks.msu h
  rw [inputs_of_started h]
  exact ⟨(congrArg Msu.mode hmsu :), (congrArg Msu.estop hmsu :), (congrArg Msu.resets hmsu :), (congrArg Msu.cause hmsu :)⟩

theorem seq_of_started (h : outside t = outside (unitsStart cause b)) :
    t.seq = { Seq.atReset with startNotice := cause == .restart && b.seq.state != .idle } :=
  (congrArg Blocks.seq h : (outside t).seq = (outside (unitsStart cause b)).seq)

theorem trk_of_started (h : outside t = outside (unitsStart cause b)) :
    t.trk = { Trk.atReset with unknown := t.inputs.backTable } := by
  rw [inputs_of_started h]
  exact (congrArg Blocks.trk h : (outside t).trk = (outside (unitsStart cause b)).trk)

/-- The gauge, but for its table: what it keeps while it stops, and its values after start-up else (R88, log 51). -/
theorem gax_of_started (h : outside t = outside (unitsStart cause b)) :
    t.gax = { (if b.gax.stopping then { b.gax with pending := none } else Gax.atReset) with table := t.gax.table } := by
  have hgax : (outside t).gax = (outside (unitsStart cause b)).gax := congrArg Blocks.gax h
  rw [← gax_unitsStart cause b]
  exact (congrArg (fun g : Gax => { g with table := t.gax.table }) hgax :)

theorem gax_of_started_still (h : outside t = outside (unitsStart cause b)) (hstopping : b.gax.stopping = false) :
    t.gax = { Gax.atReset with table := t.gax.table } := by
  have hgax := gax_of_started h
  rwa [hstopping, if_neg Bool.false_ne_true] at hgax

theorem gax_of_started_stopping (h : outside t = outside (unitsStart cause b)) (hstopping : b.gax.stopping = true) :
    t.gax = { b.gax with pending := none, table := t.gax.table } := by
  have hgax := gax_of_started h
  rwa [if_pos hstopping] at hgax

theorem stopping_of_started (h : outside t = outside (unitsStart cause b)) :
    t.gax.pending = none ∧ t.gax.stopping = b.gax.stopping := by
  cases hstopping : b.gax.stopping with
  | false => rw [gax_of_started_still h hstopping]; exact ⟨rfl, rfl⟩
  | true => rw [gax_of_started_stopping h hstopping]; exact ⟨rfl, hstopping⟩

theorem cku_of_started (h : outside t = outside (unitsStart cause b)) :
    t.cku.state = (if t.inputs.tdc then .open_ else .knifeReturnNeeded) ∧ t.cku.fault = none ∧ t.cku.cycle = none
      ∧ t.cku.valves = Valves.closed ∧ t.cku.flap = (if t.inputs.flapClosedSw then .closed else .opened) := by
  have hcku : (outside t).cku = (outside (unitsStart cause b)).cku := congrArg Blocks.cku h
  rw [inputs_of_started h]
  exact ⟨(congrArg Cku.state hcku :), (congrArg Cku.fault hcku :), (congrArg Cku.cycle hcku :),
    (congrArg Cku.valves hcku :), (congrArg Cku.flap hcku :)⟩

theorem trn_of_started (h : outside t = outside (unitsStart cause b)) :
    t.trn.state = (if t.inputs.armsOpen ∧ t.inputs.quarter then .parked else .fault)
      ∧ t.trn.fault = (if t.inputs.armsOpen ∧ t.inputs.quarter then none else some .positionLost)
      ∧ t.trn.record = none ∧ t.trn.pending = none := by
  have htrn : t.trn = if b.inputs.armsOpen && b.inputs.quarter then Trn.atReset
      else { Trn.atReset with state := .fault, fault := some .positionLost, gripKept := gripHeld b.trn } :=
    (congrArg Blocks.trn h : (outside t).trn = (outside (unitsStart cause b)).trn)
  rw [inputs_of_started h]
  by_cases hparked : b.inputs.armsOpen = true ∧ b.inputs.quarter = true
  · rw [htrn, if_pos (Bool.and_eq_true_iff.mpr hparked), if_pos hparked, if_pos hparked]
    exact ⟨rfl, rfl, rfl, rfl⟩
  · rw [htrn, if_neg (mt Bool.and_eq_true_iff.mp hparked), if_neg hparked, if_neg hparked]
    exact ⟨rfl, rfl, rfl, rfl⟩

theorem lft_of_started (h : outside t = outside (unitsStart cause b)) : t.lft = (lftStart t).lft := by
  have hlft : (lftStart t).lft = (lftStart b).lft := by
    unfold lftStart setLft gearAtRest
    rw [inputs_of_started h]
  rw [hlft]
  exact (congrArg Blocks.lft h : (outside t).lft = (outside (unitsStart cause b)).lft)

theorem jog_of_started (h : outside t = outside (unitsStart cause b)) : t.jog = (jogStart t).jog := by
  have hjog : (jogStart t).jog = (jogStart b).jog := by
    unfold jogStart setJog
    rw [inputs_of_started h]
  rw [hjog]
  exact (congrArg Blocks.jog h : (outside t).jog = (outside (unitsStart cause b)).jog)

end

section
variable {b : Blocks}

/-- The lift's switches tell that it stands low, with the gear at rest. -/
def StandsLow (b : Blocks) : Prop := b.inputs.lowerLimit = true ∧ b.inputs.bladeHome = true ∧ b.inputs.pusherHome = true

theorem lowerLimit_and_gearAtRest : (b.inputs.lowerLimit && gearAtRest b) = true ↔ StandsLow b := by
  simp only [gearAtRest, StandsLow, Bool.and_eq_true]

theorem lft_lftStart_of_counted (hlow : StandsLow b) (hcount : 16 ≤ min 65535 b.inputs.levelCount) :
    (lftStart b).lft = { Lft.atReset with
      baseline := min 65535 b.inputs.levelCount, latest := some (min 65535 b.inputs.levelCount) } := by
  unfold lftStart
  dsimp only
  rw [if_pos (lowerLimit_and_gearAtRest.mpr hlow)]
  exact if_neg (not_lt.mpr hcount)

theorem lft_lftStart_of_uncounted (hlow : StandsLow b) (hcount : min 65535 b.inputs.levelCount < 16) :
    (lftStart b).lft = { Lft.atReset with
      state := .fault, fault := some .levelSensor, baseline := 0, latest := some (min 65535 b.inputs.levelCount) } := by
  unfold lftStart
  dsimp only
  rw [if_pos (lowerLimit_and_gearAtRest.mpr hlow)]
  exact if_pos hcount

theorem lft_lftStart_of_unknown (hlow : ¬ StandsLow b) :
    (lftStart b).lft = { Lft.atReset with
      state := .fault, fault := some .positionUnknown, height := none, baseline := 0, latest := none } := by
  unfold lftStart
  dsimp only
  rw [if_neg (mt lowerLimit_and_gearAtRest.mp hlow)] <;> rfl

theorem lftStart_values (b : Blocks) :
    let n := min 65535 b.inputs.levelCount
    let l := (lftStart b).lft
    l.window = 1024 ∧ l.depth = 12 ∧ l.partedOff = 0 ∧ l.feedPaused = false ∧ l.baselinePending = none
      ∧ l.sensorFaultPending = false
      ∧ (StandsLow b → 16 ≤ n → l.state = .lowered ∧ l.fault = none ∧ l.height = some 0 ∧ l.baseline = n)
      ∧ (StandsLow b → n < 16 → l.state = .fault ∧ l.fault = some .levelSensor ∧ l.height = some 0 ∧ l.baseline = 0)
      ∧ (¬ StandsLow b → l.state = .fault ∧ l.fault = some .positionUnknown ∧ l.height = none ∧ l.baseline = 0) := by
  intro n l
  by_cases hlow : StandsLow b
  · by_cases hcount : 16 ≤ n
    · rw [show l = _ from lft_lftStart_of_counted hlow hcount]
      exact ⟨rfl, rfl, rfl, rfl, rfl, rfl, fun _ _ => ⟨rfl, rfl, rfl, rfl⟩, fun _ hfew => absurd hcount (not_le.mpr hfew),
        fun hhigh => absurd hlow hhigh⟩
    · rw [show l = _ from lft_lftStart_of_uncounted hlow (not_le.mp hcount)]
      exact ⟨rfl, rfl, rfl, rfl, rfl, rfl, fun _ hmany => absurd hmany hcount, fun _ _ => ⟨rfl, rfl, rfl, rfl⟩,
        fun hhigh => absurd hlow hhigh⟩
  · rw [show l = _ from lft_lftStart_of_unknown hlow]
    exact ⟨rfl, rfl, rfl, rfl, rfl, rfl, fun h => absurd h hlow, fun h => absurd h hlow, fun _ => ⟨rfl, rfl, rfl, rfl⟩⟩

/-- The jogger's sensors see nothing, with the carriage home. -/
def TableClear (b : Blocks) : Prop :=
  b.inputs.entry = false ∧ b.inputs.frontStop = false ∧ b.inputs.sideStop = false ∧ b.inputs.carriageHome = true

theorem jog_jogStart_of_clear (h : TableClear b) : (jogStart b).jog = Jog.atReset := by
  obtain ⟨hentry, hfront, hside, hcarriage⟩ := h
  simp only [jogStart, setJog, hentry, hfront, hside, hcarriage]
  rfl

theorem jog_jogStart_of_occupied (h : ¬ TableClear b) :
    (jogStart b).jog = { Jog.atReset with state := .fault, fault := some .tableOccupied } := by
  have hclear : ¬ (!b.inputs.entry && !b.inputs.frontStop && !b.inputs.sideStop && b.inputs.carriageHome) = true := by
    simpa [TableClear, and_assoc] using h
  exact if_neg hclear

theorem jogStart_values (b : Blocks) :
    (jogStart b).jog.retries = 0 ∧ (jogStart b).jog.transferred = 0 ∧ (jogStart b).jog.repeatWaiting = false
      ∧ (jogStart b).jog.record = none
      ∧ (TableClear b → (jogStart b).jog.state = .empty ∧ (jogStart b).jog.fault = none)
      ∧ (¬ TableClear b → (jogStart b).jog.state = .fault ∧ (jogStart b).jog.fault = some .tableOccupied) := by
  by_cases hclear : TableClear b
  · rw [jog_jogStart_of_clear hclear]
    exact ⟨rfl, rfl, rfl, rfl, fun _ => ⟨rfl, rfl⟩, fun h => absurd hclear h⟩
  · rw [jog_jogStart_of_occupied hclear]
    exact ⟨rfl, rfl, rfl, rfl, fun h => absurd h hclear, fun _ => ⟨rfl, rfl⟩⟩

end

/-! ## The orderly stop -/

theorem gaxStop_cases (b : Blocks) : gaxStop b = b ∨ gaxStop b = gaxStopped b ∨ gaxStop b = gaxDecelerate b := by
  cases hstate : b.gax.state with
  | unreferenced => exact .inl (gaxStop_of_still (.inl hstate))
  | standstill => exact .inl (gaxStop_of_still (.inr (.inl hstate)))
  | fault => exact .inl (gaxStop_of_still (.inr (.inr hstate)))
  | settling => exact .inr (.inl (gaxStop_of_settling hstate))
  | moving =>
    rw [gaxStop_of_moving hstate]
    split_ifs
    · exact .inl rfl
    · exact .inr (.inr rfl)
  | homing =>
    rw [gaxStop_of_homing hstate]
    split_ifs
    · exact .inl rfl
    · exact .inr (.inl rfl)
    · exact .inr (.inr rfl)

theorem gaxStop_keeps (b : Blocks) : (gaxStop b).inputs = b.inputs ∧ (gaxStop b).lib = b.lib := by
  rcases gaxStop_cases b with h | h | h
  · rw [h]
    exact ⟨rfl, rfl⟩
  · rw [h, gaxStopped_eq]
    exact ⟨rfl, rfl⟩
  · rw [h]
    exact ⟨rfl, rfl⟩

/-- The gauge decelerates in a stop, or would. -/
def Brakes (b : Blocks) : Prop :=
  b.gax.state = .moving ∨ (b.gax.state = .homing ∧ (b.gax.stopping = true ∨ b.gax.finalSettling = false))

theorem gaxStop_of_brakes {b : Blocks} (h : Brakes b) : gaxStop b = if b.gax.stopping then b else gaxDecelerate b := by
  rcases h with hmoving | ⟨hhoming, hearly⟩
  · exact gaxStop_of_moving hmoving
  · rw [gaxStop_of_homing hhoming]
    refine ite_congr rfl (fun _ => rfl) fun hstopping => ?_
    rw [hearly.resolve_left hstopping, if_neg Bool.false_ne_true]

theorem stopping_gaxStopped (b : Blocks) : (gaxStopped b).gax.stopping = false := by
  unfold gaxStopped
  split_ifs <;> rfl

/-- The gauge does not decelerate: it rests, or its stop ends at once. -/
theorem stopping_gaxStop_of_settled {b : Blocks}
    (h : b.gax.state = .settling ∨ (b.gax.state ≠ .moving ∧ b.gax.stopping = false
      ∧ (b.gax.state = .homing → b.gax.finalSettling = true))) : (gaxStop b).gax.stopping = false := by
  rcases h with hsettling | ⟨hmoving, hstopping, hfinal⟩
  · rw [gaxStop_of_settling hsettling]
    exact stopping_gaxStopped b
  · cases hstate : b.gax.state with
    | moving => exact absurd hstate hmoving
    | unreferenced => rw [gaxStop_of_still (.inl hstate), hstopping]
    | standstill => rw [gaxStop_of_still (.inr (.inl hstate)), hstopping]
    | fault => rw [gaxStop_of_still (.inr (.inr hstate)), hstopping]
    | settling =>
      rw [gaxStop_of_settling hstate]
      exact stopping_gaxStopped b
    | homing =>
      rw [gaxStop_of_homing hstate, hstopping, if_neg Bool.false_ne_true, if_pos (hfinal hstate)]
      exact stopping_gaxStopped b

theorem moveInFlight_of_voided {b : Blocks} {m : Option MoveRecord} (h : b.gax.move = m.map MoveRecord.voided) :
    moveInFlight b = false := by
  unfold moveInFlight
  rw [h]
  cases m with
  | none => rfl
  | some m =>
    simp only [Option.map_some, MoveRecord.voided]
    split_ifs with hnone
    · rfl
    · exact beq_eq_false_iff_ne.mpr hnone

theorem besides_orderlyStop (b : Blocks) : besides (orderlyStop b) = besides (gaxStop b) := by
  have hstored : besides (if b.lib.state = .opened then ckuStore (gaxStop b) else gaxStop b) = besides (gaxStop b) := by
    split_ifs with hopened
    · refine (libraryOnly_ckuStore ?_).same
      rw [(gaxStop_keeps b).2, hopened]
      exact nofun
    · rfl
  exact hstored

theorem inputs_orderlyStop (b : Blocks) : (orderlyStop b).inputs = b.inputs :=
  (congrArg Blocks.inputs (besides_orderlyStop b) :
    (besides (orderlyStop b)).inputs = (besides (gaxStop b)).inputs).trans (gaxStop_keeps b).1

theorem seq_orderlyStop (b : Blocks) : (orderlyStop b).seq = b.seq :=
  (congrArg Blocks.seq (besides_orderlyStop b) :
    (besides (orderlyStop b)).seq = (besides (gaxStop b)).seq).trans (seq_gaxStop b)

theorem gax_orderlyStop (b : Blocks) : (orderlyStop b).gax = (gaxStop b).gax :=
  (congrArg Blocks.gax (besides_orderlyStop b) : (besides (orderlyStop b)).gax = (besides (gaxStop b)).gax)

/-! ## A start-up taken -/

/-- What a start-up of the units leaves, the link begun afresh. -/
structure Started (cause : StartupCause) (b t : Blocks) : Prop where
  units : outside t = outside (unitsStart cause b)
  unstaged : t.lib.staging = none
  starting : t.msu.phase ≠ .ended
  link : linkCore t = Lnk.atReset

theorem started_startBlocks (cause : StartupCause) {b : Blocks} (h : b.lnk = Lnk.atReset) :
    Started cause b (startBlocks cause b) := by
  obtain ⟨-, -, -, -, hunstaged, hstarting⟩ := alike_startBlocks cause b
  refine ⟨outside_startBlocks cause b, hunstaged, hstarting, ?_⟩
  rw [linkCore_startBlocks, linkCore, h]
  rfl

theorem exec_restart_of_running {s : State} (h : StartedUp s) (hrunning : s.blocks.seq.state = .running) :
    exec .restart s = .next (s.act (answer .refusedState .nothing)) :=
  (run_asRequest h).trans (next_act_of_eq (if_pos hrunning))

theorem exec_restart_of_not_running {s : State} (h : StartedUp s) (hrunning : s.blocks.seq.state ≠ .running) :
    exec .restart s = .next (s.act fun b =>
      answer .ok .nothing (startBlocks .restart { orderlyStop b with lnk := Lnk.atReset })) :=
  (run_asRequest h).trans (next_act_of_eq (if_neg hrunning))

section
variable {b t : Blocks}

/-- The block a RESTART starts from. -/
def restartFrom (b : Blocks) : Blocks := { orderlyStop b with lnk := Lnk.atReset }

theorem startNotice_of_restart (h : Started .restart (restartFrom b) t) :
    t.seq.startNotice = true ↔ b.seq.state ≠ .idle := by
  have hnotice : t.seq.startNotice = (b.seq.state != .idle) := by
    rw [seq_of_started h.units, ← seq_orderlyStop b]
    rfl
  rw [hnotice, bne_iff_ne]

/-- A gauge that stops goes on stopping (R88, log 51). -/
theorem gax_of_restart_brakes (h : Started .restart (restartFrom b) t) (hbrakes : Brakes b) :
    t.gax.state = (if b.gax.stopping then b.gax.state else .moving) ∧ t.gax.stopping = true
      ∧ t.gax.drive = b.gax.drive ∧ (b.gax.stopping = false → moveInFlight t = false)
      ∧ t.gax.deadline = if b.gax.stopping then b.gax.deadline else some (b.clock + 800) := by
  have hgax : (restartFrom b).gax = (if b.gax.stopping then b else gaxDecelerate b).gax :=
    (gax_orderlyStop b).trans (congrArg Blocks.gax (gaxStop_of_brakes hbrakes))
  cases hstopping : b.gax.stopping with
  | true =>
    rw [hstopping, if_pos rfl] at hgax
    rw [gax_of_started_stopping h.units (by rw [hgax, hstopping]), hgax]
    exact ⟨rfl, hstopping, rfl, nofun, rfl⟩
  | false =>
    rw [hstopping, if_neg Bool.false_ne_true] at hgax
    have hkept := gax_of_started_stopping h.units (by rw [hgax]; rfl)
    rw [hgax] at hkept
    refine ⟨?_, ?_, ?_, fun _ => moveInFlight_of_voided (m := b.gax.move) ?_, ?_⟩
    · exact congrArg Gax.state hkept
    · exact congrArg Gax.stopping hkept
    · exact (congrArg Gax.drive hkept :)
    · exact congrArg Gax.move hkept
    · exact congrArg Gax.deadline hkept

theorem stopping_of_restart_settled (h : Started .restart (restartFrom b) t)
    (hsettled : b.gax.state = .settling ∨ (b.gax.state ≠ .moving ∧ b.gax.stopping = false
      ∧ (b.gax.state = .homing → b.gax.finalSettling = true))) : t.gax.stopping = false :=
  (stopping_of_started h.units).2.trans
    ((congrArg Gax.stopping (gax_orderlyStop b)).trans (stopping_gaxStop_of_settled hsettled))

end

end Sys2Proof.Machine

open Sys2Proof Sys2Proof.Machine

/-- Settles O18: the units' states stand through LIB's part (`outside`), which works by LIB's own state alone (`Alike`). -/
theorem startupBegins : Obligations.StartupBegins := by
  unfold Obligations.StartupBegins
  intro fresh
  have hfresh {cause : StartupCause} {b t : Blocks} (h : Started cause b t) : fresh cause t := by
    obtain ⟨hunits, hunstaged, hstarting, hlink⟩ := h
    obtain ⟨hmode, hestop, hresets, hcause⟩ := msu_of_started hunits
    obtain ⟨hpending, hstopping⟩ := stopping_of_started hunits
    obtain ⟨hcku, hckuFault, hcycle, hvalves, hflap⟩ := cku_of_started hunits
    obtain ⟨htrn, htrnFault, htrnRecord, htrnPending⟩ := trn_of_started hunits
    obtain ⟨hretries, htransferred, hrepeat, hrecord, hclear⟩ := jogStart_values t
    rw [← jog_of_started hunits] at hretries htransferred hrepeat hrecord hclear
    refine ⟨hmode, hestop, hresets, hcause, hstarting, ?seq, trk_of_started hunits, hpending,
      fun hstill => gax_of_started_still hunits (hstopping.symm.trans hstill), hcku, hckuFault, hcycle, hvalves, hflap,
      htrn, htrnFault, htrnRecord, htrnPending, ?lft, hretries, htransferred, hrepeat, hrecord, hclear, hunstaged,
      congrArg Lnk.gathered hlink, congrArg Lnk.queue hlink, congrArg Lnk.refusals hlink, congrArg Lnk.tx hlink,
      congrArg Lnk.noticeNumber hlink, congrArg Lnk.counters hlink⟩
    case seq => rw [seq_of_started hunits]
    case lft =>
      rw [lft_of_started hunits]
      exact lftStart_values t
  refine ⟨fun inp s => ?powerOn, fun s => exec_restart_of_running, fun s hup hrunning => ?restart,
    fun s => exec_restart_of_not_running, fun b => rfl, fun cause b => (alike_startBlocks cause b).lib, fun body => rfl,
    fun b hstopping hphase => ?stopped, libStart_eq,
    fun powerOn b => ⟨eraseSpent_eq powerOn b, afterSpent_eq powerOn b⟩,
    fun l i => isSpent_iff, fun i k n r rest => ⟨rfl, rfl, rfl, rfl, rfl, rfl, rfl, rfl⟩, fun flash p => mem_allRecords,
    scanDamaged_eq, fun l => ⟨fun p => le_highestSeq, fun hnone => ?none, exists_highestSeq, fun e => record_of_entry,
      fun p => entry_of_record⟩, fun b => libReady_of_waiting, fun b => libReady_of_not_waiting,
    fun s hphase hreply hstopping => ?ends, fun s hnot => ?stays⟩
  case powerOn =>
    have hstart := started_startBlocks .powerOn
      (b := { s.blocks with inputs := inp, gax := { s.blocks.gax with stopping := false }, trn := Trn.atReset,
                            lnk := Lnk.atReset }) rfl
    refine ⟨_, rfl, rfl, inputs_of_started hstart.units, hfresh hstart, (stopping_of_started hstart.units).2, ?_⟩
    exact congrArg Seq.startNotice (seq_of_started hstart.units)
  case restart =>
    have hstart := started_startBlocks .restart (b := restartFrom s.blocks) rfl
    exact ⟨_, exec_restart_of_not_running hup hrunning, rfl,
      (inputs_of_started hstart.units).trans (inputs_orderlyStop s.blocks), rfl, (hfresh hstart :),
      (startNotice_of_restart hstart :), (gax_of_restart_brakes hstart :), (stopping_of_restart_settled hstart :)⟩
  case stopped =>
    have hrestart : b.gax.stopping = true ∧ b.msu.phase ≠ .ended := ⟨hstopping, hphase⟩
    refine ⟨?_, fun code hfault => ?_⟩
    · rw [gaxStopped_eq, if_pos hrestart]
    · rw [gaxEnterFault_of_not_fault hfault, if_pos hrestart]
  case none =>
    rw [hnone]
    rfl
  case ends =>
    refine next_act_of_eq (?_ : startupEnd s.blocks = _)
    rw [startupEnd, if_pos ⟨hphase, hreply, hstopping⟩]
    exact startupEnds_eq s.blocks
  case stays =>
    refine next_act_of_eq (g := id) (if_neg ?_)
    rintro ⟨hphase, hreply, hstopping⟩
    rcases hnot with h | h | h
    · exact h hphase
    · exact absurd (h.symm.trans hreply) nofun
    · exact absurd (h.symm.trans hstopping) nofun

end
